-- ==== Sys2Proof/Word.lean ====
section
/-!
DEFINITION. The words the manual treats as bits, and the fixed groups of four.

The host line carries bytes, and the fields of a request take 1, 2, 3 or 4 of them (Chapter 10,
section 10.9), so those are bit vectors. Lanes and quote slots are numbered 0 to 3 (section 1.7), so a
lane or slot number is a `Fin 4`, and the four lanes, the four slots and the four lane counters are a `Quad`.
-/

namespace Sys2Proof

/-- One character of the host line (R176). -/
abbrev Byte := BitVec 8
/-- A two-byte field of a request. -/
abbrev U16 := BitVec 16
/-- A three-byte field of a request. -/
abbrev U24 := BitVec 24
/-- A four-byte field of a request. -/
abbrev U32 := BitVec 32

/-- A lane number, 0 to 3. -/
abbrev LaneId := Fin 4
/-- A quote slot number, 0 to 3. -/
abbrev SlotId := Fin 4

/-- Four like things, one for each lane or each quote slot. -/
structure Quad (α : Type) where
  q0 : α
  q1 : α
  q2 : α
  q3 : α
  deriving DecidableEq, Repr

namespace Quad

/-- The member for lane or slot `i`. -/
def get {α : Type} (q : Quad α) (i : Fin 4) : α :=
  match i.val with
  | 0 => q.q0
  | 1 => q.q1
  | 2 => q.q2
  | _ => q.q3

/-- The group with the member for lane or slot `i` replaced. -/
def set {α : Type} (q : Quad α) (i : Fin 4) (x : α) : Quad α :=
  match i.val with
  | 0 => { q with q0 := x }
  | 1 => { q with q1 := x }
  | 2 => { q with q2 := x }
  | _ => { q with q3 := x }

/-- The group with `f` applied to every member. -/
def map {α β : Type} (f : α → β) (q : Quad α) : Quad β :=
  ⟨f q.q0, f q.q1, f q.q2, f q.q3⟩

/-- The members in order 0 to 3. -/
def toList {α : Type} (q : Quad α) : List α :=
  [q.q0, q.q1, q.q2, q.q3]

/-- The group whose member for `i` is `f i`. -/
def tabulate {α : Type} (f : Fin 4 → α) : Quad α :=
  ⟨f 0, f 1, f 2, f 3⟩

end Quad

end Sys2Proof
end

