-- ==== Sys2Proof/Config.lean ====
section
/-!
DEFINITION. What the part fixes once (capacities and durations of Table 0.1 and of the chapters), and the
free values: the one point at which the manual names a coding and does not give it.
-/

namespace Sys2Proof.Config

/-- Season days 0 to 239 (section 1.7). -/
def seasonDays : Nat := 240
/-- Seconds of one resort day (section 1.7). -/
def secondsPerDay : Nat := 86400
/-- Product slots, codes 1 to 63 (R18). -/
def productSlots : Nat := 63
/-- Entries of the Pass Table (R25). -/
def passCapacity : Nat := 4096
/-- Entries of the Passback List (R106). -/
def passbackCapacity : Nat := 256
/-- Records of the Journal (R162). -/
def journalCapacity : Nat := 512
/-- SETTLEMENT records the Journal may hold (R162). -/
def settlementCapacity : Nat := 64
/-- Record count at or above which a write raises JOURNAL_HIGH (R167). -/
def journalHighRecords : Nat := 384
/-- Settlement count at or above which a write raises JOURNAL_HIGH (R167). -/
def journalHighSettlements : Nat := 48
/-- Places of the reply queue, reservations counted (R184). -/
def replyPlaces : Nat := 8
/-- Inbound frame buffers (R182). -/
def inboundBuffers : Nat := 2
/-- Largest payload of a frame (R177). -/
def maxPayload : Nat := 120
/-- Payload bytes a JOURNAL_FETCH reply has left for records: 120 less its 7 fixed ones (R168). -/
def fetchRecordBytes : Nat := 113
/-- Items one matching list holds (R116). -/
def matchItems : Nat := 4
/-- Calculator steps of one computation (R132). -/
def calculatorSteps : Nat := 120
/-- Ceiling of every tally counter but the payout total (R123). -/
def counterCeiling : Nat := 16777215
/-- Ceiling of the payout total (R123). -/
def payoutCeiling : Nat := 4294967295
/-- Ceiling of the rides count, the gap count and the eviction count (section 1.7). -/
def count16Ceiling : Nat := 65535

/-- FREE VALUE. The TALLY request names a set and a part (R124), yet Table 10.2 gives its payload one byte, and no text
says how the two selectors share it: the byte that stands for set `set` and part `part` is left open, as number
5 × set + part here (assumption log 3). -/
opaque tallyCode : Nat → Byte

/-- FREE VALUE. The byte that stands for selectors R124 refuses, in the same open coding (assumption log 3). -/
opaque tallyOther : Byte

end Sys2Proof.Config
end

