-- ==== Sys2Proof/Syntax.lean ====
section
/-!
DEFINITION. The commands of the part: one constructor of `Instr` for each row of spec/opcode_table.json.

A request carries the tag the host chose for it and its fields as they stand on the line, byte widths and
all (Chapter 10, section 10.9): an enumerated byte beyond its last value or a lane number above 3 can arrive,
and the owner refuses it. An event of a lane port, of a timer or of the line carries what happened.
-/

namespace Sys2Proof

/-- A frame as the receiver hands it on: KIND, TAG and payload (R177). Its LEN is the payload's length. -/
structure InFrame where
  kind : Byte
  tag : Byte
  payload : List Byte
  deriving DecidableEq, Repr

/-- The request kinds of Table 10.2. -/
inductive RequestKind where
  | run | setup | restart | siteConfig | identify
  | setClock | liftStatus | calendarMark | passbackSet
  | productPut | productClear
  | passPut | passBlock | passUnblock | passDelete | passQuery | usageMerge
  | xferOpen | xferChunk | xferAbort | xferStatus
  | laneConfig | laneOutput | laneClear | laneInject
  | quote | confirm | cancel | quoteQuery
  | status | tally | tallyClear | journalFetch | noticeMask
  deriving DecidableEq, Repr

/-- The pass entry record of Table 10.3, as it stands on the line. -/
structure PassRecord where
  pass : U32
  product : Byte
  start : Byte
  price : U24
  status : Byte
  deriving DecidableEq, Repr

/-- The seven fields SITE_CONFIG carries, in the order of Table 1.2. -/
structure SiteFields where
  liftNumber : Byte
  rolloverMinute : U16
  readerLoss : Byte
  beamStuck : Byte
  armStuck : Byte
  matchWindow : Byte
  holdTime : U16
  deriving DecidableEq, Repr

/-- The product record PRODUCT_PUT carries after its code: Table 2.1, the policy's presence byte, Table 2.2.
An absent N is 0. The policy bytes are ignored when the presence byte is 0 (section 10.9). -/
structure ProductFields where
  kind : Byte
  days : Byte
  window : Byte
  liftMask : U16
  openMinute : U16
  closeMinute : U16
  policyPresent : Byte
  fixedFee : U16
  percentFee : U16
  minimum : U16
  rounding : Byte
  stormCredit : Byte
  deadlineDays : Byte
  deriving DecidableEq, Repr

/-- What one poll of a reader module ends in (Table 4.2). -/
inductive PollOutcome where
  | idle
  | read (pass : U32)
  | badRead
  | silent
  deriving DecidableEq, Repr

/-- The two beams of a gate lane: A outer, B inner (Chapter 6). -/
inductive Beam where
  | a
  | b
  deriving DecidableEq, Repr

/-- The two matching lists of a gate lane (R116). -/
inductive MatchList where
  | rotation
  | entry
  deriving DecidableEq, Repr

/-- The commands of the part, one constructor for each row of spec/opcode_table.json. -/
inductive Instr where
  -- resets and modes
  | coldReset (rate1 rate0 : Bool)
  | restart (tag : Byte)
  | run (tag : Byte)
  | setup (tag : Byte)
  | siteConfig (tag : Byte) (fields : SiteFields)
  | identify (tag : Byte)
  -- clock, lift and calendar
  | setClock (tag : Byte) (day : Byte) (second : U24)
  | liftStatus (tag : Byte) (value : Byte)
  | calendarMark (tag : Byte) (day mark : Byte)
  | passbackSet (tag : Byte) (interval : U16)
  -- products and passes
  | productPut (tag : Byte) (code : Byte) (fields : ProductFields)
  | productClear (tag : Byte) (code : Byte)
  | passPut (tag : Byte) (record : PassRecord)
  | passBlock (tag : Byte) (pass : U32)
  | passUnblock (tag : Byte) (pass : U32)
  | passDelete (tag : Byte) (pass : U32)
  | passQuery (tag : Byte) (pass : U32) (mode : Byte)
  | usageMerge (tag : Byte) (pass : U32) (days : List Byte)
  -- transfers
  | xferOpen (tag : Byte) (mode purge : Byte) (count : U16)
  | xferChunk (tag : Byte) (records : List PassRecord)
  | xferAbort (tag : Byte)
  | xferStatus (tag : Byte)
  -- lanes
  | laneConfig (tag : Byte) (lane role timeout autoQuote : Byte)
  | laneOutput (tag : Byte) (lane output value : Byte)
  | laneClear (tag : Byte) (lane : Byte)
  | laneInject (tag : Byte) (lane : Byte) (pass : U32)
  -- quotes
  | quote (tag : Byte) (pass : U32)
  | confirm (tag : Byte) (slot : Byte) (pass : U32)
  | cancel (tag : Byte) (slot : Byte) (pass : U32)
  | quoteQuery (tag : Byte) (slot : Byte)
  -- reports
  | status (tag : Byte) (option : Byte)
  | tally (tag : Byte) (set part : Byte)
  | tallyClear (tag : Byte)
  | journalFetch (tag : Byte) (count : Byte)
  | noticeMask (tag : Byte) (kind setting : Byte)
  -- the host line
  | badFormatFrame (kind tag : Byte) (payload : List Byte)
  | receiveCharacter (c : Byte)
  | gapTimeout
  | framing
  | lineBreak
  | shiftingFrameDone
  -- the timebase and the stamp-reckoned expiries
  | secondAdvance
  | passbackExpiry
  | holdExpiry
  -- the lane ports and the engines
  | pollOutcome (lane : LaneId) (outcome : PollOutcome)
  | grant
  | rotation (lane : LaneId)
  | armRestChange (lane : LaneId) (present : Bool)
  | beamChange (lane : LaneId) (beam : Beam) (blocked : Bool)
  | unlockTimerExpiry (lane : LaneId)
  | beamStuckTimerExpiry (lane : LaneId) (beam : Beam)
  | armStuckTimerExpiry (lane : LaneId)
  | displayTimeExpiry (lane : LaneId)
  | alarmTimerExpiry (lane : LaneId)
  | buzzerPatternEnd (lane : LaneId)
  | matchTimerExpiry (lane : LaneId) (list : MatchList) (index : Fin 4)
  | computationCompletion
  deriving DecidableEq, Repr

end Sys2Proof
end

