-- ==== Sys2Proof/Decode.lean ====
section
/-!
DEFINITION. From a frame to the command it carries, and back (Tables 10.2 and 10.3, section 10.9).

No row of spec/opcode_table.json gives bits, so `decodeTableWord` answers none. The frames of the host line
are the requests' real encoding: `decodeFrame` reads one as the request handler does (R183), and
`encodeRequest` writes the frame of a request.
-/

namespace Sys2Proof

/-- The command a table word spells: no row of the table gives bits, so no word spells one. -/
def decodeTableWord (_nbits _w : Nat) : Option Instr := none

/-- Every request kind, in the order of Table 10.2. -/
def RequestKind.all : List RequestKind :=
  [.run, .setup, .restart, .siteConfig, .identify, .setClock, .liftStatus, .calendarMark, .passbackSet,
   .productPut, .productClear, .passPut, .passBlock, .passUnblock, .passDelete, .passQuery, .usageMerge,
   .xferOpen, .xferChunk, .xferAbort, .xferStatus, .laneConfig, .laneOutput, .laneClear, .laneInject,
   .quote, .confirm, .cancel, .quoteQuery, .status, .tally, .tallyClear, .journalFetch, .noticeMask]

/-- The KIND byte of a request (Table 10.2). -/
def RequestKind.code : RequestKind → Byte
  | .run => 0x01
  | .setup => 0x02
  | .restart => 0x03
  | .siteConfig => 0x04
  | .identify => 0x05
  | .setClock => 0x10
  | .liftStatus => 0x11
  | .calendarMark => 0x12
  | .passbackSet => 0x13
  | .productPut => 0x18
  | .productClear => 0x19
  | .passPut => 0x20
  | .passBlock => 0x21
  | .passUnblock => 0x22
  | .passDelete => 0x23
  | .passQuery => 0x24
  | .usageMerge => 0x25
  | .xferOpen => 0x28
  | .xferChunk => 0x29
  | .xferAbort => 0x2A
  | .xferStatus => 0x2B
  | .laneConfig => 0x30
  | .laneOutput => 0x31
  | .laneClear => 0x32
  | .laneInject => 0x33
  | .quote => 0x38
  | .confirm => 0x39
  | .cancel => 0x3A
  | .quoteQuery => 0x3B
  | .status => 0x40
  | .tally => 0x41
  | .tallyClear => 0x42
  | .journalFetch => 0x43
  | .noticeMask => 0x44

/-- The request kind a KIND byte names, if it is one of Table 10.2. -/
def RequestKind.ofCode? (b : Byte) : Option RequestKind :=
  RequestKind.all.find? fun k => k.code == b

/-- The payload lengths Table 10.2 allows for a kind. -/
def RequestKind.lengthAllowed (k : RequestKind) (len : Nat) : Bool :=
  match k with
  | .run | .setup | .restart | .identify | .xferAbort | .xferStatus | .tallyClear => len == 0
  | .liftStatus | .productClear | .laneClear | .quoteQuery | .status | .tally | .journalFetch => len == 1
  | .calendarMark | .passbackSet | .noticeMask => len == 2
  | .laneOutput => len == 3
  | .setClock | .passBlock | .passUnblock | .passDelete | .xferOpen | .laneConfig | .quote => len == 4
  | .passQuery | .laneInject | .confirm | .cancel => len == 5
  | .siteConfig => len == 9
  | .passPut => len == 10
  | .productPut => len == 20
  | .usageMerge => decide (5 ≤ len) && decide (len ≤ 20)
  | .xferChunk => decide (10 ≤ len) && decide (len ≤ 120) && len % 10 == 0

/-- R183, checks 1 and 2: a frame the handler answers BAD_FORMAT. -/
def isBadFormat (f : InFrame) : Bool :=
  match RequestKind.ofCode? f.kind with
  | none => true
  | some k => !k.lengthAllowed f.payload.length

/-- Two bytes, high byte first (R177). -/
def be16 (a b : Byte) : U16 := a ++ b
/-- Three bytes, high byte first (R177). -/
def be24 (a b c : Byte) : U24 := a ++ b ++ c
/-- Four bytes, high byte first (R177). -/
def be32 (a b c d : Byte) : U32 := a ++ b ++ c ++ d

/-- The ten bytes that stand for the selectors R124 allows, in the order 5 × set + part: the free coding, where it tells
the ten apart, as any coding must (assumption log 3). -/
def tallyBytes : List Byte :=
  let free := (List.range 10).map Config.tallyCode
  if free.Nodup then free else (List.range 10).map (BitVec.ofNat 8)

/-- A byte that stands for no selectors R124 allows: the free one, where it is none of the ten. -/
def tallyRefused : Byte :=
  if Config.tallyOther ∈ tallyBytes then
    (((List.range 11).map (BitVec.ofNat 8)).find? fun b => !(tallyBytes.contains b)).getD 0
  else Config.tallyOther

/-- The payload byte of a TALLY request (assumption log 3). -/
def tallyByte (set part : Byte) : Byte :=
  if set.toNat ≤ 1 ∧ part.toNat ≤ 4 then (tallyBytes[5 * set.toNat + part.toNat]?).getD 0 else tallyRefused

/-- The selectors of a TALLY request: those its payload byte stands for, or a pair that R124 refuses. -/
def tallySelectors (b : Byte) : Byte × Byte :=
  match tallyBytes.idxOf? b with
  | some k => (BitVec.ofNat 8 (k / 5), BitVec.ofNat 8 (k % 5))
  | none => (0xFF, 0xFF)

/-- The pass records of an XFER_CHUNK payload, ten bytes each (Table 10.3). -/
def decodeRecords : List Byte → List PassRecord
  | p0 :: p1 :: p2 :: p3 :: code :: start :: c0 :: c1 :: c2 :: st :: rest =>
      { pass := be32 p0 p1 p2 p3, product := code, start := start, price := be24 c0 c1 c2, status := st }
        :: decodeRecords rest
  | _ => []

/-- The request of a kind whose payload length is allowed: the fields follow the order in which their rules
list them (section 10.9). A payload that does not have the kind's shape is kept as a BAD_FORMAT frame. -/
def decodePayload (k : RequestKind) (f : InFrame) : Instr :=
  let t := f.tag
  match k, f.payload with
  | .run, [] => .run t
  | .setup, [] => .setup t
  | .restart, [] => .restart t
  | .identify, [] => .identify t
  | .xferAbort, [] => .xferAbort t
  | .xferStatus, [] => .xferStatus t
  | .tallyClear, [] => .tallyClear t
  | .siteConfig, [n, r0, r1, rl, bs, as, mw, h0, h1] =>
      .siteConfig t { liftNumber := n, rolloverMinute := be16 r0 r1, readerLoss := rl, beamStuck := bs,
                      armStuck := as, matchWindow := mw, holdTime := be16 h0 h1 }
  | .setClock, [d, s0, s1, s2] => .setClock t d (be24 s0 s1 s2)
  | .liftStatus, [v] => .liftStatus t v
  | .calendarMark, [d, m] => .calendarMark t d m
  | .passbackSet, [i0, i1] => .passbackSet t (be16 i0 i1)
  | .productPut, [code, kd, n, w, m0, m1, o0, o1, c0, c1, pr, f0, f1, b0, b1, n0, n1, rd, st, dl] =>
      .productPut t code
        { kind := kd, days := n, window := w, liftMask := be16 m0 m1, openMinute := be16 o0 o1,
          closeMinute := be16 c0 c1, policyPresent := pr, fixedFee := be16 f0 f1, percentFee := be16 b0 b1,
          minimum := be16 n0 n1, rounding := rd, stormCredit := st, deadlineDays := dl }
  | .productClear, [code] => .productClear t code
  | .passPut, [p0, p1, p2, p3, code, start, c0, c1, c2, st] =>
      .passPut t { pass := be32 p0 p1 p2 p3, product := code, start := start, price := be24 c0 c1 c2,
                   status := st }
  | .passBlock, [p0, p1, p2, p3] => .passBlock t (be32 p0 p1 p2 p3)
  | .passUnblock, [p0, p1, p2, p3] => .passUnblock t (be32 p0 p1 p2 p3)
  | .passDelete, [p0, p1, p2, p3] => .passDelete t (be32 p0 p1 p2 p3)
  | .passQuery, [p0, p1, p2, p3, m] => .passQuery t (be32 p0 p1 p2 p3) m
  | .usageMerge, p0 :: p1 :: p2 :: p3 :: days => .usageMerge t (be32 p0 p1 p2 p3) days
  | .xferOpen, [m, pg, n0, n1] => .xferOpen t m pg (be16 n0 n1)
  | .xferChunk, bytes => .xferChunk t (decodeRecords bytes)
  | .laneConfig, [l, r, u, q] => .laneConfig t l r u q
  | .laneOutput, [l, o, v] => .laneOutput t l o v
  | .laneClear, [l] => .laneClear t l
  | .laneInject, [l, p0, p1, p2, p3] => .laneInject t l (be32 p0 p1 p2 p3)
  | .quote, [p0, p1, p2, p3] => .quote t (be32 p0 p1 p2 p3)
  | .confirm, [sl, p0, p1, p2, p3] => .confirm t sl (be32 p0 p1 p2 p3)
  | .cancel, [sl, p0, p1, p2, p3] => .cancel t sl (be32 p0 p1 p2 p3)
  | .quoteQuery, [sl] => .quoteQuery t sl
  | .status, [o] => .status t o
  | .tally, [b] => .tally t (tallySelectors b).1 (tallySelectors b).2
  | .journalFetch, [n] => .journalFetch t n
  | .noticeMask, [k', v] => .noticeMask t k' v
  | _, bytes => .badFormatFrame f.kind t bytes

/-- The command a buffered frame is to the request handler (R183). -/
def decodeFrame (f : InFrame) : Instr :=
  match RequestKind.ofCode? f.kind with
  | none => .badFormatFrame f.kind f.tag f.payload
  | some k =>
      if k.lengthAllowed f.payload.length then decodePayload k f
      else .badFormatFrame f.kind f.tag f.payload

/-- The two bytes of a field, high byte first. -/
def bytes16 (x : U16) : List Byte := [x.extractLsb' 8 8, x.extractLsb' 0 8]
/-- The three bytes of a field, high byte first. -/
def bytes24 (x : U24) : List Byte := [x.extractLsb' 16 8, x.extractLsb' 8 8, x.extractLsb' 0 8]
/-- The four bytes of a field, high byte first. -/
def bytes32 (x : U32) : List Byte :=
  [x.extractLsb' 24 8, x.extractLsb' 16 8, x.extractLsb' 8 8, x.extractLsb' 0 8]

/-- The ten bytes of a pass entry record (Table 10.3). -/
def encodeRecord (r : PassRecord) : List Byte :=
  bytes32 r.pass ++ [r.product, r.start] ++ bytes24 r.price ++ [r.status]

/-- The payload of SITE_CONFIG. -/
def encodeSite (f : SiteFields) : List Byte :=
  [f.liftNumber] ++ bytes16 f.rolloverMinute ++ [f.readerLoss, f.beamStuck, f.armStuck, f.matchWindow]
    ++ bytes16 f.holdTime

/-- The payload of PRODUCT_PUT after its product code. -/
def encodeProduct (f : ProductFields) : List Byte :=
  [f.kind, f.days, f.window] ++ bytes16 f.liftMask ++ bytes16 f.openMinute ++ bytes16 f.closeMinute
    ++ [f.policyPresent] ++ bytes16 f.fixedFee ++ bytes16 f.percentFee ++ bytes16 f.minimum
    ++ [f.rounding, f.stormCredit, f.deadlineDays]

/-- The frame of a request; none for a command that is no request of the host line. -/
def encodeRequest : Instr → Option InFrame
  | .restart t => some ⟨RequestKind.restart.code, t, []⟩
  | .run t => some ⟨RequestKind.run.code, t, []⟩
  | .setup t => some ⟨RequestKind.setup.code, t, []⟩
  | .siteConfig t f => some ⟨RequestKind.siteConfig.code, t, encodeSite f⟩
  | .identify t => some ⟨RequestKind.identify.code, t, []⟩
  | .setClock t d s => some ⟨RequestKind.setClock.code, t, d :: bytes24 s⟩
  | .liftStatus t v => some ⟨RequestKind.liftStatus.code, t, [v]⟩
  | .calendarMark t d m => some ⟨RequestKind.calendarMark.code, t, [d, m]⟩
  | .passbackSet t i => some ⟨RequestKind.passbackSet.code, t, bytes16 i⟩
  | .productPut t code f => some ⟨RequestKind.productPut.code, t, code :: encodeProduct f⟩
  | .productClear t code => some ⟨RequestKind.productClear.code, t, [code]⟩
  | .passPut t r => some ⟨RequestKind.passPut.code, t, encodeRecord r⟩
  | .passBlock t p => some ⟨RequestKind.passBlock.code, t, bytes32 p⟩
  | .passUnblock t p => some ⟨RequestKind.passUnblock.code, t, bytes32 p⟩
  | .passDelete t p => some ⟨RequestKind.passDelete.code, t, bytes32 p⟩
  | .passQuery t p m => some ⟨RequestKind.passQuery.code, t, bytes32 p ++ [m]⟩
  | .usageMerge t p days => some ⟨RequestKind.usageMerge.code, t, bytes32 p ++ days⟩
  | .xferOpen t m pg n => some ⟨RequestKind.xferOpen.code, t, [m, pg] ++ bytes16 n⟩
  | .xferChunk t rs => some ⟨RequestKind.xferChunk.code, t, (rs.map encodeRecord).flatten⟩
  | .xferAbort t => some ⟨RequestKind.xferAbort.code, t, []⟩
  | .xferStatus t => some ⟨RequestKind.xferStatus.code, t, []⟩
  | .laneConfig t l r u q => some ⟨RequestKind.laneConfig.code, t, [l, r, u, q]⟩
  | .laneOutput t l o v => some ⟨RequestKind.laneOutput.code, t, [l, o, v]⟩
  | .laneClear t l => some ⟨RequestKind.laneClear.code, t, [l]⟩
  | .laneInject t l p => some ⟨RequestKind.laneInject.code, t, l :: bytes32 p⟩
  | .quote t p => some ⟨RequestKind.quote.code, t, bytes32 p⟩
  | .confirm t sl p => some ⟨RequestKind.confirm.code, t, sl :: bytes32 p⟩
  | .cancel t sl p => some ⟨RequestKind.cancel.code, t, sl :: bytes32 p⟩
  | .quoteQuery t sl => some ⟨RequestKind.quoteQuery.code, t, [sl]⟩
  | .status t o => some ⟨RequestKind.status.code, t, [o]⟩
  | .tally t set part => some ⟨RequestKind.tally.code, t, [tallyByte set part]⟩
  | .tallyClear t => some ⟨RequestKind.tallyClear.code, t, []⟩
  | .journalFetch t n => some ⟨RequestKind.journalFetch.code, t, [n]⟩
  | .noticeMask t k v => some ⟨RequestKind.noticeMask.code, t, [k, v]⟩
  | .badFormatFrame k t bytes => some ⟨k, t, bytes⟩
  | .coldReset .. | .receiveCharacter .. | .gapTimeout | .framing | .lineBreak | .shiftingFrameDone
  | .secondAdvance | .passbackExpiry | .holdExpiry | .pollOutcome .. | .grant | .rotation ..
  | .armRestChange .. | .beamChange .. | .unlockTimerExpiry .. | .beamStuckTimerExpiry ..
  | .armStuckTimerExpiry .. | .displayTimeExpiry .. | .alarmTimerExpiry .. | .buzzerPatternEnd ..
  | .matchTimerExpiry .. | .computationCompletion => none

end Sys2Proof
end

