-- ==== Sys2Proof/Machine/State.lean ====
section
/-!
DEFINITION. The state of the part: one structure for each block of Table 0.1, and the state after reset.

Everything is plain data. What the manual itself makes a function of other state (the stamp, a lane's state,
the lane outputs, the settlement count, the reserved reply places) is computed in Ops and Lanes, not stored.
-/

namespace Sys2Proof.Machine

/-! ## Names of Chapter 1 -/

/-- R1. -/
inductive ClockState where
  | unset
  | running
  | expired
  deriving DecidableEq, Repr

/-- The resort clock (R1). -/
structure Clock where
  state : ClockState
  day : Nat
  second : Nat
  deriving DecidableEq, Repr

/-- R10: OPEN, HOLD, CLOSED. -/
inductive LiftStatus where
  | isOpen
  | hold
  | closed
  deriving DecidableEq, Repr

/-- R14. -/
inductive Mode where
  | setup
  | run
  deriving DecidableEq, Repr

/-- R12: NONE, CLOSED_EARLY, CLOSED_ALL_DAY. -/
inductive DayMark where
  | noMark
  | closedEarly
  | closedAllDay
  deriving DecidableEq, Repr

/-- The site configuration (Table 1.2). -/
structure SiteConfig where
  liftNumber : Nat
  rolloverMinute : Nat
  readerLoss : Nat
  beamStuck : Nat
  armStuck : Nat
  matchWindow : Nat
  holdTime : Nat
  deriving DecidableEq, Repr

/-- The Resort Clock and Calendar (RCC). -/
structure ClockBlock where
  clock : Clock
  site : SiteConfig
  lift : LiftStatus
  mode : Mode
  calendar : Vector DayMark 240
  deriving DecidableEq, Repr

/-! ## Names of Chapter 2 -/

/-- The kind of a product, with the purchased days N of a DAYS product (R19). -/
inductive ProductKind where
  | days (n : Nat)
  | season
  deriving DecidableEq, Repr

/-- The refund policy part (Table 2.2). -/
structure RefundPolicy where
  fixedFee : Nat
  percentFee : Nat
  minimum : Nat
  rounding : Nat
  stormCredit : Bool
  deadlineDays : Nat
  deriving DecidableEq, Repr

/-- A product record (Table 2.1). -/
structure Product where
  kind : ProductKind
  window : Nat
  liftMask : U16
  openMinute : Nat
  closeMinute : Nat
  policy : Option RefundPolicy
  deriving DecidableEq, Repr

/-- A product slot (R18). `kept` is what R24 has a cleared slot keep: whether the record it last held was
of kind DAYS, and its W. -/
structure ProductSlot where
  record : Option Product
  kept : Option (Bool × Nat)
  deriving DecidableEq, Repr

/-- The status of a pass entry (R27). The hold marker stands exactly while the status is REFUND_HOLD (R31),
so the slot it holds is part of that status. -/
inductive PassStatus where
  | active
  | blocked
  | refundHold (slot : SlotId)
  | refunded
  deriving DecidableEq, Repr

/-- A last passage: its stamp and lane (R28). -/
structure Passage where
  stamp : Nat
  lane : LaneId
  deriving DecidableEq, Repr

/-- The usage part (R28). `days` is the days-used set, its offsets in ascending order. -/
structure Usage where
  firstUse : Nat
  days : List Nat
  rides : Nat
  last : Option Passage
  deriving DecidableEq, Repr

/-- The admission marker (R30). -/
structure AdmissionMarker where
  lane : LaneId
  day : Nat
  deriving DecidableEq, Repr

/-- A pass entry (R26). -/
structure PassEntry where
  pass : Nat
  product : Nat
  start : Nat
  price : Nat
  status : PassStatus
  usage : Option Usage
  marker : Option AdmissionMarker
  transferMark : Bool
  deriving DecidableEq, Repr

/-! ## Names of Chapter 3 -/

inductive TransferCondition where
  | none
  | isOpen
  | completed
  | aborted
  | restarted
  deriving DecidableEq, Repr

inductive TransferMode where
  | load
  | verify
  deriving DecidableEq, Repr

/-- The fields of the transfer record that are absent in NONE (Table 3.1). -/
structure TransferHeader where
  mode : TransferMode
  purge : Bool
  declared : Nat
  remaining : Nat
  deriving DecidableEq, Repr

structure LoadCounts where
  added : Nat
  replaced : Nat
  unchanged : Nat
  skippedPending : Nat
  skippedHeld : Nat
  rejectedFull : Nat
  rejectedBad : Nat
  removed : Nat
  kept : Nat
  deriving DecidableEq, Repr

structure VerifyCounts where
  matched : Nat
  differ : Nat
  missing : Nat
  extra : Nat
  deriving DecidableEq, Repr

/-- The transfer record (R44). -/
structure Transfer where
  condition : TransferCondition
  header : Option TransferHeader
  load : LoadCounts
  verify : VerifyCounts
  firstDifference : Option Nat
  deriving DecidableEq, Repr

/-- The outcome of one transfer record: seven of R47's table, three of R50's. -/
inductive RecordOutcome where
  | rejectedBad | skippedPending | skippedHeld | rejectedFull | added | replaced | unchanged
  | missing | isMatch | differ
  deriving DecidableEq, Repr

/-! ## Names of Chapters 4 and 6 -/

inductive Role where
  | gate
  | desk
  | off
  deriving DecidableEq, Repr

/-- A latched set (Table 4.7). -/
structure LatchSet where
  readerLost : Bool
  beamStuck : Bool
  armStuck : Bool
  deriving DecidableEq, Repr

/-- The three fault latches, as names. -/
inductive FaultLatch where
  | readerLost
  | beamStuck
  | armStuck
  deriving DecidableEq, Repr

inductive ArmOverride where
  | auto
  | free
  | lock
  deriving DecidableEq, Repr

inductive OutputOverride where
  | auto
  | on
  | off
  deriving DecidableEq, Repr

/-- What a running display time shows (Table 4.6). -/
inductive DisplayShow where
  | refusal
  | served
  deriving DecidableEq, Repr

inductive BuzzerPattern where
  | silence
  | chirp
  | doubleTone
  | alarm
  deriving DecidableEq, Repr

inductive DetectorState where
  | idle
  | outer
  | both
  | inner
  deriving DecidableEq, Repr

/-- An item of a matching list: the stamp at which it joined and the window its match timer began with (R116). -/
structure MatchItem where
  stamp : Nat
  window : Nat
  deriving DecidableEq, Repr

/-- One Lane Unit. A timer is `none` when stopped and holds the duration it began with while it runs. -/
structure Lane where
  role : Role
  unlockTimeout : Nat
  autoQuote : Bool
  beamA : Bool
  beamB : Bool
  armRest : Bool
  silentCount : Nat
  lossPresent : Bool
  recoveryCount : Nat
  latches : LatchSet
  beamATimer : Option Nat
  beamBTimer : Option Nat
  armTimer : Option Nat
  unlockTimer : Option Nat
  armOverride : ArmOverride
  greenOverride : OutputOverride
  amberOverride : OutputOverride
  redOverride : OutputOverride
  buzzerOverride : OutputOverride
  display : Option DisplayShow
  pattern : BuzzerPattern
  alarmTimer : Bool
  forcedStamp : Nat
  detector : DetectorState
  rotations : List MatchItem
  entries : List MatchItem
  deriving DecidableEq, Repr

/-- The state of a lane (R64, R83). -/
inductive LaneState where
  | fault
  | unlocked
  | closed
  | waiting
  | ready
  | off
  deriving DecidableEq, Repr

/-- The refusal causes, in the order of Table 4.4. -/
inductive RefusalCause where
  | unreadable | laneFault | laneLocked | setupMode | liftClosed | noClock | liftHold | unknown | noProduct
  | blocked | refunded | held | notThisLift | outOfHours | notYet | expired | daysUsedUp | inLane | passback
  deriving DecidableEq, Repr

/-! ## Names of Chapter 5 -/

/-- The kind of a request in the waiting set; a TEST request keeps the tag of its LANE_INJECT (R184). -/
inductive RequestClass where
  | gate
  | desk
  | test (tag : Byte)
  deriving DecidableEq, Repr

/-- A request in the waiting set; its lane is its place in the set (R88). -/
structure LaneRequest where
  pass : Nat
  kind : RequestClass
  deriving DecidableEq, Repr

/-- The Admission Engine (R88). -/
structure AdmissionEngine where
  waiting : Quad (Option LaneRequest)
  pointer : LaneId
  deriving DecidableEq, Repr

/-- The decision on a GATE or TEST request (R90). -/
inductive Decision where
  | admitted
  | refusedWith (cause : RefusalCause)
  deriving DecidableEq, Repr

/-- PENDING holds a lane, COMMITTED a stamp (R106). -/
inductive PassbackPhase where
  | pending (lane : LaneId)
  | committed (stamp : Nat)
  deriving DecidableEq, Repr

structure PassbackEntry where
  pass : Nat
  phase : PassbackPhase
  deriving DecidableEq, Repr

/-- The Passback List, oldest entry first (R105, R106). -/
structure PassbackList where
  entries : List PassbackEntry
  interval : Nat
  evictions : Nat
  deriving DecidableEq, Repr

/-- Reasons of a lapse, in the order of Table 5.2. -/
inductive LapseReason where
  | timeout
  | liftClosed
  | seasonEnd
  | locked
  | fault
  | restart
  deriving DecidableEq, Repr

/-! ## The Rider Tally (Chapter 6) -/

/-- The 8 counters and 19 refusal counters of one lane (Table 6.2). -/
structure LaneCounters where
  admittedCount : Nat
  paid : Nat
  lapsed : Nat
  free : Nat
  forced : Nat
  under : Nat
  testReads : Nat
  deskReads : Nat
  refusals : Vector Nat 19
  deriving DecidableEq, Repr

/-- One tally set (R122). -/
structure TallySet where
  day : Option Nat
  lanes : Quad LaneCounters
  riders : Nat
  newDays : Nat
  refundsSettled : Nat
  payoutTotal : Nat
  hours : Vector Nat 24
  deriving DecidableEq, Repr

structure Tally where
  today : TallySet
  previous : TallySet
  deriving DecidableEq, Repr

inductive RiderCategory where
  | paid
  | free
  | forced
  | under
  deriving DecidableEq, Repr

/-! ## Names of Chapters 7 and 8 -/

/-- The snapshot of a computation (Table 7.1). -/
structure Snapshot where
  price : Nat
  days : Nat
  fullDays : Nat
  stormDays : Nat
  noServiceDays : Nat
  start : Nat
  window : Nat
  fixedFee : Nat
  percentFee : Nat
  minimum : Nat
  rounding : Nat
  stormCredit : Bool
  deadlineDays : Nat
  deriving DecidableEq, Repr

/-- UNITS_CLAMPED, NET_CLAMPED and BELOW_MINIMUM (R143). -/
structure QuoteFlags where
  unitsClamped : Bool
  netClamped : Bool
  belowMinimum : Bool
  deriving DecidableEq, Repr

/-- The results of a computation (Table 7.3). -/
structure Results where
  hTotal : Nat
  hUsed : Nat
  hUnused : Nat
  q : Nat
  r : Nat
  gross : Nat
  fixedFee : Nat
  percentFee : Nat
  net : Nat
  payout : Nat
  residue : Nat
  flags : QuoteFlags
  deriving DecidableEq, Repr

/-- Where a quote was asked for (R146). -/
inductive QuoteSource where
  | line
  | desk (lane : LaneId)
  deriving DecidableEq, Repr

structure QuoteIdentity where
  pass : Nat
  source : QuoteSource
  deriving DecidableEq, Repr

/-- A slot's state with the parts of the quote record that Table 8.1 has present in it. -/
inductive SlotState where
  | free
  | queued (identity : QuoteIdentity)
  | computing (identity : QuoteIdentity) (snapshot : Snapshot)
  | quoted (identity : QuoteIdentity) (snapshot : Snapshot) (results : Results) (expiry : Nat)
  | cancelling
  deriving DecidableEq, Repr

/-- Reasons of a drop, in the order of Table 8.2. -/
inductive DropReason where
  | cancelled
  | expired
  | stale
  | deadline
  | restart
  deriving DecidableEq, Repr

structure QuoteEnding where
  pass : Nat
  reason : DropReason
  deriving DecidableEq, Repr

structure QuoteSlot where
  state : SlotState
  lastEnding : Option QuoteEnding
  deriving DecidableEq, Repr

/-- R140: the 48-bit signed accumulator, held as two halves of 24 bits, and the borrow between the two steps of a
subtraction. -/
structure Accumulator where
  low : BitVec 24
  high : BitVec 24
  borrow : Bool
  deriving DecidableEq, Repr

/-- The working quantities of a computation (R128): the divider's quotient and partial remainder (R134), the
multiplier's product (R135), the accumulator (R140), and the stages' quantities formed so far (R136 to R142). -/
structure Working where
  quotient : Nat
  remainder : Nat
  product : Nat
  acc : Accumulator
  hTotal : Nat
  hUsed : Nat
  hUnused : Nat
  unitsClamped : Bool
  q : Nat
  r : Nat
  gross : Nat
  percentFee : Nat
  net : Nat
  netClamped : Bool
  belowMinimum : Bool
  payout : Nat
  residue : Nat
  deriving DecidableEq, Repr

/-- The computation in progress (R128): its slot, its snapshot, how many of its 120 calculator steps are made (R132),
and its working quantities after them. -/
structure Computation where
  slot : SlotId
  snapshot : Snapshot
  steps : Nat
  work : Working
  deriving DecidableEq, Repr

/-- The Refund Calculator: BUSY with a computation, or IDLE; and the calculator queue (R128). -/
structure Calculator where
  busy : Option Computation
  queue : List SlotId
  deriving DecidableEq, Repr

/-! ## Names of Chapter 9 -/

/-- The items of a settlement (Table 10.5). -/
structure Settlement where
  pass : Nat
  slot : SlotId
  source : QuoteSource
  hUsed : Nat
  hTotal : Nat
  gross : Nat
  fixedFee : Nat
  percentFee : Nat
  payout : Nat
  residue : Nat
  flags : QuoteFlags
  deriving DecidableEq, Repr

inductive ModeCause where
  | request
  | restart
  deriving DecidableEq, Repr

/-- The twelve record kinds with their bodies (Table 9.1). -/
inductive RecordBody where
  | passage (lane : LaneId) (pass : Nat) (dayAdded : Bool) (rides : Nat)
  | lapsed (lane : LaneId) (pass : Nat) (reason : LapseReason)
  | refusal (lane : LaneId) (cause : RefusalCause) (pass : Option Nat)
  | rider (lane : LaneId) (category : RiderCategory)
  | test (lane : LaneId) (pass : Nat) (decision : Decision)
  | fault (lane : LaneId) (latches : LatchSet)
  | faultCleared (lane : LaneId)
  | settlement (items : Settlement)
  | quoteDropped (pass : Nat) (slot : SlotId) (reason : DropReason)
  | dayRoll (day : Nat) (riders newDays refundsSettled payoutTotal : Nat)
  | lift (status : LiftStatus)
  | mode (mode : Mode) (cause : ModeCause)
  deriving DecidableEq, Repr

/-- A journal record: the header of R163 and the body. -/
structure JournalRecord where
  seq : Nat
  stamp : Nat
  body : RecordBody
  deriving DecidableEq, Repr

/-- The Journal, oldest record first (R162). -/
structure Journal where
  records : List JournalRecord
  nextSeq : Nat
  gap : Nat
  deriving DecidableEq, Repr

inductive NoticeKind where
  | laneFault
  | laneAlarm
  | deskRead
  | quoteReady
  | quoteEnded
  | dayRolled
  | journalHigh
  | clockExpired
  deriving DecidableEq, Repr

/-- The key of a notice: its kind and its subject (Table 9.3). -/
inductive NoticeKey where
  | laneFault (lane : LaneId)
  | laneAlarm (lane : LaneId)
  | deskRead (lane : LaneId)
  | quoteReady (slot : SlotId)
  | quoteEnded (slot : SlotId)
  | dayRolled
  | journalHigh
  | clockExpired
  deriving DecidableEq, Repr

/-- Full-used, storm and no-service day counts (R97, R130). -/
structure DayCounts where
  fullDays : Nat
  stormDays : Nat
  noServiceDays : Nat
  deriving DecidableEq, Repr

/-- The status codes of Table 10.1. -/
inductive StatusCode where
  | ok | accepted | badFormat | badValue | wrongMode | notReady | notFound | full | pending | held | busy
  | stale | deadline | alreadyRefunded | notRefundable | nothingDue | blocked | journalFull | conditionPresent
  | backward | noTransfer | transferOpen
  deriving DecidableEq, Repr

/-- The quote item of a desk summary (R84). -/
inductive QuoteItem where
  | opened (slot : SlotId)
  | refusedWith (code : StatusCode)
  | autoQuoteOff
  deriving DecidableEq, Repr

/-- The status shown in a desk summary: the entry's, or UNKNOWN (`none`). -/
structure LookupResult where
  pass : Nat
  status : Option PassStatus
  product : Option Nat
  days : Option Nat
  counts : DayCounts
  deriving DecidableEq, Repr

/-- The desk read summary (Table 4.8). -/
structure DeskSummary where
  lookup : LookupResult
  quote : QuoteItem
  deriving DecidableEq, Repr

/-- A pending notice: its key, and for DESK_READ the summary it holds (R170). -/
inductive PendingNotice where
  | laneFault (lane : LaneId)
  | laneAlarm (lane : LaneId)
  | deskRead (lane : LaneId) (summary : DeskSummary)
  | quoteReady (slot : SlotId)
  | quoteEnded (slot : SlotId)
  | dayRolled
  | journalHigh
  | clockExpired
  deriving DecidableEq, Repr

/-- The mask, `true` for MASKED (R173). -/
structure NoticeMask where
  laneFault : Bool
  laneAlarm : Bool
  deskRead : Bool
  quoteReady : Bool
  quoteEnded : Bool
  dayRolled : Bool
  journalHigh : Bool
  clockExpired : Bool
  deriving DecidableEq, Repr

/-- The Notice Latch, pending notices in raise order (R170). -/
structure NoticeLatch where
  pending : List PendingNotice
  mask : NoticeMask
  deriving DecidableEq, Repr

/-! ## Frames on the way out (Chapter 10) -/

/-- The five line error flags (R181). -/
structure LineFlags where
  gapTimeout : Bool
  checkError : Bool
  framing : Bool
  overrun : Bool
  breakSeen : Bool
  deriving DecidableEq, Repr

/-- The strap setting sampled at the end of the last cold reset, `true` for high (R176). -/
structure Straps where
  rate1 : Bool
  rate0 : Bool
  deriving DecidableEq, Repr

/-- The outcome a taken PASS_PUT reports (R34, R35). -/
inductive PutOutcome where
  | added
  | replaced
  | unchanged
  deriving DecidableEq, Repr

/-- One lane as STATUS reports it (R174). -/
structure LaneReport where
  role : Role
  state : LaneState
  latches : LatchSet
  deriving DecidableEq, Repr

/-- A slot's state without its record (Table 8.1). -/
inductive SlotPhase where
  | free
  | queued
  | computing
  | quoted
  | cancelling
  deriving DecidableEq, Repr

/-- The content of the STATUS reply (R174). -/
structure StatusReport where
  mode : Mode
  clock : Clock
  lift : LiftStatus
  lanes : Quad LaneReport
  slots : Quad SlotPhase
  transferOpen : Bool
  pending : List (NoticeKey × Bool)
  mask : NoticeMask
  records : Nat
  settlements : Nat
  gap : Nat
  evictions : Nat
  flags : LineFlags
  deriving DecidableEq, Repr

/-- What TALLY adds for a lane of TODAY: the pending count, and item count and oldest stamp of each list (R124). -/
structure LaneInHand where
  pending : Nat
  rotationItems : Nat
  rotationOldest : Option Nat
  entryItems : Nat
  entryOldest : Option Nat
  deriving DecidableEq, Repr

/-- What a reply carries after its status byte. -/
inductive ReplyData where
  | nothing
  | putOutcome (outcome : PutOutcome) (entries : Nat)
  | entryCount (entries : Nat)
  | passFound (entries : Nat) (entry : PassEntry)
  | mergeCounts (added known outside size : Nat)
  | chunk (outcomes : List RecordOutcome) (remaining : Nat) (summary : Option (Transfer × Nat))
  | remaining (count : Option Nat)
  | transferRecord (record : Transfer) (entries : Nat)
  | latchedSet (latches : LatchSet)
  | testDecision (decision : Decision)
  | slotOpened (slot : SlotId)
  | slotDropped (slot : SlotId) (reason : DropReason)
  | settled (items : Settlement)
  | slotRecord (slot : SlotId) (record : QuoteSlot)
  | report (content : StatusReport)
  | laneTally (day : Option Nat) (lane : LaneId) (counters : LaneCounters) (inHand : Option LaneInHand)
  | liftTally (day : Option Nat) (riders newDays refundsSettled payoutTotal : Nat) (hours : Vector Nat 24)
  | records (gap : Nat) (fetched : List JournalRecord) (left settlementsLeft : Nat)
  | mask (mask : NoticeMask)
  | identity (straps : Straps)
  deriving DecidableEq, Repr

/-- The content of a notice beyond its kind and subject (Table 9.4). -/
inductive NoticeContent where
  | latchedSet (latches : LatchSet)
  | alarm (lane : LaneId) (stamp : Nat)
  | desk (summary : DeskSummary)
  | quote (state : SlotState)
  | ended (ending : Option QuoteEnding)
  | rolled (day : Nat) (finished : Option Nat) (riders newDays refundsSettled payoutTotal : Nat)
  | journal (records settlements gap : Nat)
  | clock (clock : Clock)
  deriving DecidableEq, Repr

/-- A frame on its way out. A reply's KIND is its request's with the top bit set; a notice's is 0x7F (R177). -/
inductive OutFrame where
  | reply (kind tag : Byte) (status : StatusCode) (data : ReplyData)
  | notice (key : NoticeKey) (content : NoticeContent)
  deriving DecidableEq, Repr

inductive ReceiverState where
  | hunt
  | length
  | kind
  | tag
  | payload
  | checkHigh
  | checkLow
  deriving DecidableEq, Repr

/-- The receiver: its state, the characters of the partial frame after the start byte in the order received,
and whether the gap timer runs (R178). -/
structure Receiver where
  state : ReceiverState
  chars : List Byte
  gapTimer : Bool
  deriving DecidableEq, Repr

/-- The Line Interface (Chapter 10). -/
structure LineInterface where
  straps : Straps
  receiver : Receiver
  inbound : List InFrame
  replies : List OutFrame
  holding : Option OutFrame
  shifting : Option OutFrame
  flags : LineFlags
  deriving DecidableEq, Repr

/-! ## The state -/

/-- The part: the blocks of Table 0.1, and the queue of commands still to be taken, first in, first out. -/
structure State where
  lif : LineInterface
  rcc : ClockBlock
  tariff : Vector ProductSlot 63
  passes : List PassEntry
  xfer : Transfer
  lanes : Quad Lane
  ae : AdmissionEngine
  pbl : PassbackList
  tally : Tally
  rfc : Calculator
  quotes : Quad QuoteSlot
  journal : Journal
  notices : NoticeLatch
  pending : List Instr
  deriving DecidableEq, Repr

/-- Reasons the machine stops with a fault: there are none. The manual describes no event that stops the part,
so no meaning raises a fault (safe: nothing is cut short). -/
inductive Fault where
  deriving DecidableEq, Repr

/-- Reasons a command has no meaning. -/
inductive Refusal where
  /-- Raised by exec's arm of a command that has no meaning yet (safe: the model stops where the part goes on).
  No arm raises it now. -/
  | notModelled (mnemonic : String)
  deriving DecidableEq, Repr

/-! ## Values after reset -/

/-- Table 1.1, Table 1.2, R10, R12, R14. -/
def ClockBlock.cold : ClockBlock where
  clock := { state := .unset, day := 0, second := 0 }
  site := { liftNumber := 0, rolloverMinute := 180, readerLoss := 16, beamStuck := 20, armStuck := 10,
            matchWindow := 3, holdTime := 180 }
  lift := .closed
  mode := .setup
  calendar := Vector.replicate 240 .noMark

/-- R44: NONE, every count 0, no first difference. -/
def Transfer.cold : Transfer where
  condition := .none
  header := none
  load := ⟨0, 0, 0, 0, 0, 0, 0, 0, 0⟩
  verify := ⟨0, 0, 0, 0⟩
  firstDifference := none

/-- Table 4.9. The three input levels are the world's, not the part's (assumption log 7). -/
def Lane.cold (beamA beamB armRest : Bool) : Lane where
  role := .off
  unlockTimeout := 8
  autoQuote := false
  beamA := beamA
  beamB := beamB
  armRest := armRest
  silentCount := 0
  lossPresent := false
  recoveryCount := 0
  latches := ⟨false, false, false⟩
  beamATimer := none
  beamBTimer := none
  armTimer := none
  unlockTimer := none
  armOverride := .auto
  greenOverride := .auto
  amberOverride := .auto
  redOverride := .auto
  buzzerOverride := .auto
  display := none
  pattern := .silence
  alarmTimer := false
  forcedStamp := 0
  detector := .idle
  rotations := []
  entries := []

/-- Every counter of a lane at 0. -/
def LaneCounters.zero : LaneCounters where
  admittedCount := 0
  paid := 0
  lapsed := 0
  free := 0
  forced := 0
  under := 0
  testReads := 0
  deskReads := 0
  refusals := Vector.replicate 19 0

/-- A tally set of every counter 0, standing for `day` (R127). -/
def TallySet.zero (day : Option Nat) : TallySet where
  day := day
  lanes := ⟨LaneCounters.zero, LaneCounters.zero, LaneCounters.zero, LaneCounters.zero⟩
  riders := 0
  newDays := 0
  refundsSettled := 0
  payoutTotal := 0
  hours := Vector.replicate 24 0

/-- Table 9.5: every kind UNMASKED. -/
def NoticeMask.cold : NoticeMask where
  laneFault := false
  laneAlarm := false
  deskRead := false
  quoteReady := false
  quoteEnded := false
  dayRolled := false
  journalHigh := false
  clockExpired := false

/-- R178, R181, R182, R184, R185. -/
def LineInterface.cold (straps : Straps) : LineInterface where
  straps := straps
  receiver := { state := .hunt, chars := [], gapTimer := false }
  inbound := []
  replies := []
  holding := none
  shifting := none
  flags := ⟨false, false, false, false, false⟩

/-- A product slot that holds nothing (R18). -/
def ProductSlot.empty : ProductSlot where
  record := none
  kept := none

/-- A quote slot after a cold reset (Table 8.4). -/
def QuoteSlot.cold : QuoteSlot where
  state := .free
  lastEnding := none

/-- The part right after a cold reset that sampled `straps`, with the given lane input levels. -/
def State.cold (straps : Straps) (lanes : Quad Lane) : State where
  lif := LineInterface.cold straps
  rcc := ClockBlock.cold
  tariff := Vector.replicate 63 ProductSlot.empty
  passes := []
  xfer := Transfer.cold
  lanes := lanes.map fun l => Lane.cold l.beamA l.beamB l.armRest
  ae := { waiting := ⟨none, none, none, none⟩, pointer := 0 }
  pbl := { entries := [], interval := 300, evictions := 0 }
  tally := { today := TallySet.zero (some 0), previous := TallySet.zero none }
  rfc := { busy := none, queue := [] }
  quotes := ⟨QuoteSlot.cold, QuoteSlot.cold, QuoteSlot.cold, QuoteSlot.cold⟩
  journal := { records := [], nextSeq := 0, gap := 0 }
  notices := { pending := [], mask := NoticeMask.cold }
  pending := []

/-- The machine right after reset. The straps are low and low and the lane inputs at rest: the manual leaves
those levels to the world (assumption log 7). -/
def State.reset : State :=
  State.cold { rate1 := false, rate0 := false }
    ⟨Lane.cold false false true, Lane.cold false false true, Lane.cold false false true,
      Lane.cold false false true⟩

end Sys2Proof.Machine
end

