-- ==== Sys2Proof/Machine/Codes.lean ====
section
/-!
DEFINITION. The byte each name of an enumeration has on the line (Chapter 10, section 10.9): its position in
the list where the field is first defined, counting from 0, unless the section gives the value.
-/

namespace Sys2Proof.Machine

/-- Table 10.1. -/
def StatusCode.code : StatusCode → Nat
  | .ok => 0x00
  | .accepted => 0x01
  | .badFormat => 0x02
  | .badValue => 0x03
  | .wrongMode => 0x04
  | .notReady => 0x05
  | .notFound => 0x06
  | .full => 0x07
  | .pending => 0x08
  | .held => 0x09
  | .busy => 0x0A
  | .stale => 0x0B
  | .deadline => 0x0C
  | .alreadyRefunded => 0x0D
  | .notRefundable => 0x0E
  | .nothingDue => 0x0F
  | .blocked => 0x10
  | .journalFull => 0x11
  | .conditionPresent => 0x12
  | .backward => 0x13
  | .noTransfer => 0x14
  | .transferOpen => 0x15

def ClockState.code : ClockState → Nat
  | .unset => 0
  | .running => 1
  | .expired => 2

def LiftStatus.code : LiftStatus → Nat
  | .isOpen => 0
  | .hold => 1
  | .closed => 2

def Mode.code : Mode → Nat
  | .setup => 0
  | .run => 1

def Role.code : Role → Nat
  | .gate => 0
  | .desk => 1
  | .off => 2

/-- Section 10.9: the order of Table 4.3, FAULT 0 to READY 4, and OFF 5. -/
def LaneState.code : LaneState → Nat
  | .fault => 0
  | .unlocked => 1
  | .closed => 2
  | .waiting => 3
  | .ready => 4
  | .off => 5

/-- R27: ACTIVE 0, BLOCKED 1, REFUND_HOLD 2, REFUNDED 3. -/
def PassStatus.code : PassStatus → Nat
  | .active => 0
  | .blocked => 1
  | .refundHold _ => 2
  | .refunded => 3

def TransferCondition.code : TransferCondition → Nat
  | .none => 0
  | .isOpen => 1
  | .completed => 2
  | .aborted => 3
  | .restarted => 4

def TransferMode.code : TransferMode → Nat
  | .load => 0
  | .verify => 1

/-- The order of R47's table for LOAD and of R50's for VERIFY (DESIGN CHOICE, assumption log 6). -/
def RecordOutcome.code : RecordOutcome → Nat
  | .rejectedBad => 0
  | .skippedPending => 1
  | .skippedHeld => 2
  | .rejectedFull => 3
  | .added => 4
  | .replaced => 5
  | .unchanged => 6
  | .missing => 0
  | .isMatch => 1
  | .differ => 2

/-- ADDED, REPLACED, UNCHANGED, in the order R34 and R35 name them (DESIGN CHOICE, assumption log 6). -/
def PutOutcome.code : PutOutcome → Nat
  | .added => 0
  | .replaced => 1
  | .unchanged => 2

/-- Table 4.4, its three causes of check 6 taken one after another. -/
def RefusalCause.code : RefusalCause → Nat
  | .unreadable => 0
  | .laneFault => 1
  | .laneLocked => 2
  | .setupMode => 3
  | .liftClosed => 4
  | .noClock => 5
  | .liftHold => 6
  | .unknown => 7
  | .noProduct => 8
  | .blocked => 9
  | .refunded => 10
  | .held => 11
  | .notThisLift => 12
  | .outOfHours => 13
  | .notYet => 14
  | .expired => 15
  | .daysUsedUp => 16
  | .inLane => 17
  | .passback => 18

/-- Table 10.4: 0xFF for ADMIT, else the cause. -/
def Decision.code : Decision → Nat
  | .admitted => 0xFF
  | .refusedWith c => c.code

/-- Table 5.2. -/
def LapseReason.code : LapseReason → Nat
  | .timeout => 0
  | .liftClosed => 1
  | .seasonEnd => 2
  | .locked => 3
  | .fault => 4
  | .restart => 5

/-- The four categories in the order of R120 (DESIGN CHOICE, assumption log 6). -/
def RiderCategory.code : RiderCategory → Nat
  | .paid => 0
  | .free => 1
  | .forced => 2
  | .under => 3

/-- Table 8.2. -/
def DropReason.code : DropReason → Nat
  | .cancelled => 0
  | .expired => 1
  | .stale => 2
  | .deadline => 3
  | .restart => 4

def ModeCause.code : ModeCause → Nat
  | .request => 0
  | .restart => 1

/-- The state of a slot without its record (Table 8.1). -/
def SlotState.phase : SlotState → SlotPhase
  | .free => .free
  | .queued _ => .queued
  | .computing .. => .computing
  | .quoted .. => .quoted
  | .cancelling => .cancelling

/-- The order of Table 8.1. -/
def SlotPhase.code : SlotPhase → Nat
  | .free => 0
  | .queued => 1
  | .computing => 2
  | .quoted => 3
  | .cancelling => 4

/-- Section 10.9: 0xFF for LINE, and 0 to 3 for DESK with that lane. -/
def QuoteSource.code : QuoteSource → Nat
  | .line => 0xFF
  | .desk l => l.val

/-- Table 9.3. -/
def NoticeKind.code : NoticeKind → Nat
  | .laneFault => 0
  | .laneAlarm => 1
  | .deskRead => 2
  | .quoteReady => 3
  | .quoteEnded => 4
  | .dayRolled => 5
  | .journalHigh => 6
  | .clockExpired => 7

/-- R173: MASKED 0, UNMASKED 1 (DESIGN CHOICE, assumption log 6). -/
def maskCode (masked : Bool) : Nat := if masked then 0 else 1

/-- Section 10.9: 0 for off, clear or no, and 1 for on, set or yes. -/
def flagCode (b : Bool) : Nat := if b then 1 else 0

/-- The strap setting as IDENTIFY gives it: RATE1 above RATE0 (R176, R186; the packing is a DESIGN CHOICE,
assumption log 5). -/
def Straps.code (p : Straps) : Nat := 2 * flagCode p.rate1 + flagCode p.rate0

/-- The line rate a strap setting selects, in baud (R176). -/
def Straps.baud (p : Straps) : Nat :=
  match p.rate1, p.rate0 with
  | false, false => 19200
  | false, true => 57600
  | true, false => 115200
  | true, true => 19200

end Sys2Proof.Machine
end

