-- ==== Sys2Proof/Machine/Flags.lean ====
section
/-!
DEFINITION. The flag sets: the line error flags (R181), the quote flags (R143) and the fault latches (Table 4.7).
-/

namespace Sys2Proof.Machine

/-- R181: every line error flag clear. -/
def LineFlags.clear : LineFlags := ⟨false, false, false, false, false⟩

/-- Section 10.9: UNITS_CLAMPED, NET_CLAMPED and BELOW_MINIMUM in the three low bits, lowest first. -/
def QuoteFlags.code (f : QuoteFlags) : Nat :=
  flagCode f.unitsClamped + 2 * flagCode f.netClamped + 4 * flagCode f.belowMinimum

/-- Section 10.9: READER_LOST, BEAM_STUCK and ARM_STUCK in the three low bits, lowest first. -/
def LatchSet.code (f : LatchSet) : Nat :=
  flagCode f.readerLost + 2 * flagCode f.beamStuck + 4 * flagCode f.armStuck

/-- No latch set. -/
def LatchSet.empty : LatchSet := ⟨false, false, false⟩

/-- Any latch set. -/
def LatchSet.any (f : LatchSet) : Bool := f.readerLost || f.beamStuck || f.armStuck

/-- Is this latch set? -/
def LatchSet.has (f : LatchSet) : FaultLatch → Bool
  | .readerLost => f.readerLost
  | .beamStuck => f.beamStuck
  | .armStuck => f.armStuck

/-- The set with this latch set too. -/
def LatchSet.add (f : LatchSet) : FaultLatch → LatchSet
  | .readerLost => { f with readerLost := true }
  | .beamStuck => { f with beamStuck := true }
  | .armStuck => { f with armStuck := true }

/-- The mask setting of a kind, `true` for MASKED (R173). -/
def NoticeMask.get (m : NoticeMask) : NoticeKind → Bool
  | .laneFault => m.laneFault
  | .laneAlarm => m.laneAlarm
  | .deskRead => m.deskRead
  | .quoteReady => m.quoteReady
  | .quoteEnded => m.quoteEnded
  | .dayRolled => m.dayRolled
  | .journalHigh => m.journalHigh
  | .clockExpired => m.clockExpired

/-- The mask with a kind's setting replaced (R173). -/
def NoticeMask.set (m : NoticeMask) (k : NoticeKind) (masked : Bool) : NoticeMask :=
  match k with
  | .laneFault => { m with laneFault := masked }
  | .laneAlarm => { m with laneAlarm := masked }
  | .deskRead => { m with deskRead := masked }
  | .quoteReady => { m with quoteReady := masked }
  | .quoteEnded => { m with quoteEnded := masked }
  | .dayRolled => { m with dayRolled := masked }
  | .journalHigh => { m with journalHigh := masked }
  | .clockExpired => { m with clockExpired := masked }

end Sys2Proof.Machine
end

