-- ==== Sys2Proof/Machine/Layout.lean ====
section
/-!
DEFINITION. The bytes of the frames the part sends (R177, section 10.9, Tables 10.3 to 10.5) and the check word.

Where section 10.9 lays a body out, the bytes follow it. The bodies it does not lay out carry their items in
the order the owner's rule lists them, with the widths of section 10.9 (DESIGN CHOICE, assumption log 5).
-/

namespace Sys2Proof.Machine

/-- `k` bytes of `n`, high byte first (R177). -/
def bytesOf : Nat → Nat → List Byte
  | 0, _ => []
  | k + 1, n => BitVec.ofNat 8 (n / 256 ^ k) :: bytesOf k n

/-- One byte. -/
def byteOf (n : Nat) : List Byte := bytesOf 1 n

/-- One byte for a flag or a presence (section 10.9). -/
def flagByte (b : Bool) : List Byte := byteOf (flagCode b)

/-- R177: one bit shifted out of the check register. -/
def crcShift (c : BitVec 16) : BitVec 16 :=
  if c.msb then (c <<< 1) ^^^ 0x1021 else c <<< 1

/-- `n` shifts of the check register (R177). -/
def crcShifts : Nat → BitVec 16 → BitVec 16
  | 0, c => c
  | n + 1, c => crcShifts n (crcShift c)

/-- R177: one byte taken into the check register. -/
def crcByte (c : BitVec 16) (b : Byte) : BitVec 16 :=
  crcShifts 8 (c ^^^ (b.setWidth 16 <<< 8))

/-- R177: the check word over some bytes. -/
def checkWord (bytes : List Byte) : BitVec 16 := bytes.foldl crcByte 0xFFFF

/-- The bytes of a whole frame on the line (R177). -/
def frameBytes (kind tag : Byte) (payload : List Byte) : List Byte :=
  let body := BitVec.ofNat 8 payload.length :: kind :: tag :: payload
  0xD5#8 :: body ++ bytes16 (checkWord body)

/-- The characters of a frame the host sends (R177). -/
def InFrame.wire (f : InFrame) : List Byte := frameBytes f.kind f.tag f.payload

/-- A pass entry record (Table 10.3). -/
def entryRecordBytes (e : PassEntry) : List Byte :=
  bytesOf 4 e.pass ++ byteOf e.product ++ byteOf e.start ++ bytesOf 3 e.price ++ byteOf e.status.code

/-- The hold marker: a presence byte and the slot. -/
def holdMarkerBytes : PassStatus → List Byte
  | .refundHold slot => byteOf 1 ++ byteOf slot.val
  | _ => bytesOf 2 0

def passageBytes : Option Passage → List Byte
  | some p => byteOf 1 ++ bytesOf 4 p.stamp ++ byteOf p.lane.val
  | none => bytesOf 6 0

def admissionMarkerBytes : Option AdmissionMarker → List Byte
  | some m => byteOf 1 ++ byteOf m.lane.val ++ byteOf m.day
  | none => bytesOf 3 0

def usageBytes : Option Usage → List Byte
  | some u => byteOf 1 ++ byteOf u.firstUse ++ bytesOf 2 u.rides
  | none => bytesOf 4 0

/-- What a PASS_QUERY reply carries after its entry count (section 10.9). -/
def passFoundBytes (e : PassEntry) : List Byte :=
  let days := (e.usage.map (·.days)).getD []
  entryRecordBytes e ++ usageBytes e.usage ++ passageBytes (e.usage.bind (·.last))
    ++ admissionMarkerBytes e.marker ++ holdMarkerBytes e.status ++ flagByte e.transferMark
    ++ byteOf days.length ++ (days.map byteOf).flatten

/-- The nine LOAD counts (Table 3.1). -/
def loadCountBytes (c : LoadCounts) : List Byte :=
  ([c.added, c.replaced, c.unchanged, c.skippedPending, c.skippedHeld, c.rejectedFull, c.rejectedBad,
    c.removed, c.kept].map (bytesOf 2)).flatten

/-- The first difference, a pass number: an absent one is 0 (section 10.9). -/
def firstDifferenceBytes (first : Option Nat) : List Byte := bytesOf 4 (first.getD 0)

/-- The four VERIFY counts and the first difference (Table 3.1). -/
def verifyCountBytes (c : VerifyCounts) (first : Option Nat) : List Byte :=
  ([c.matched, c.differ, c.missing, c.extra].map (bytesOf 2)).flatten ++ firstDifferenceBytes first

/-- The summary of R52: the counts of the mode in use. -/
def summaryBytes (t : Transfer) (h : TransferHeader) : List Byte :=
  match h.mode with
  | .load => loadCountBytes t.load
  | .verify => verifyCountBytes t.verify t.firstDifference

/-- R56: the counts of the mode, and the first difference or a note of its absence, which is the pass number 0 (section
10.9). -/
def countsOfModeBytes (t : Transfer) (h : TransferHeader) : List Byte :=
  match h.mode with
  | .load => loadCountBytes t.load ++ firstDifferenceBytes t.firstDifference
  | .verify => verifyCountBytes t.verify t.firstDifference

/-- The whole transfer record (R56). -/
def transferBytes (t : Transfer) : List Byte :=
  byteOf t.condition.code ++
    match t.header with
    | some h =>
      byteOf h.mode.code ++ flagByte h.purge ++ bytesOf 2 h.declared ++ bytesOf 2 h.remaining
        ++ countsOfModeBytes t h
    | none => []

/-- The settlement body (Table 10.5). -/
def settlementBytes (s : Settlement) : List Byte :=
  bytesOf 4 s.pass ++ byteOf s.slot.val ++ byteOf s.source.code ++ byteOf s.hUsed ++ byteOf s.hTotal
    ++ bytesOf 3 s.gross ++ bytesOf 2 s.fixedFee ++ bytesOf 3 s.percentFee ++ bytesOf 3 s.payout
    ++ byteOf s.residue ++ byteOf s.flags.code

/-- The body of a journal record (Table 10.4). An absent pass number is 0. -/
def RecordBody.bytes : RecordBody → List Byte
  | .passage lane pass added rides =>
      byteOf lane.val ++ bytesOf 4 pass ++ flagByte added ++ bytesOf 2 rides
  | .lapsed lane pass reason => byteOf lane.val ++ bytesOf 4 pass ++ byteOf reason.code
  | .refusal lane cause pass => byteOf lane.val ++ byteOf cause.code ++ bytesOf 4 (pass.getD 0)
  | .rider lane category => byteOf lane.val ++ byteOf category.code
  | .test lane pass decision => byteOf lane.val ++ bytesOf 4 pass ++ byteOf decision.code
  | .fault lane latches => byteOf lane.val ++ byteOf latches.code
  | .faultCleared lane => byteOf lane.val
  | .settlement items => settlementBytes items
  | .quoteDropped pass slot reason => bytesOf 4 pass ++ byteOf slot.val ++ byteOf reason.code
  | .dayRoll day riders newDays refunds payout =>
      byteOf day ++ bytesOf 3 riders ++ bytesOf 3 newDays ++ bytesOf 3 refunds ++ bytesOf 4 payout
  | .lift status => byteOf status.code
  | .mode m cause => byteOf m.code ++ byteOf cause.code

/-- The kind byte of a record: 0 to 11 in the order of Table 9.1. -/
def RecordBody.kindCode : RecordBody → Nat
  | .passage .. => 0
  | .lapsed .. => 1
  | .refusal .. => 2
  | .rider .. => 3
  | .test .. => 4
  | .fault .. => 5
  | .faultCleared .. => 6
  | .settlement .. => 7
  | .quoteDropped .. => 8
  | .dayRoll .. => 9
  | .lift .. => 10
  | .mode .. => 11

/-- The record length of Table 10.4, header included. -/
def RecordBody.recordLength : RecordBody → Nat
  | .passage .. => 15
  | .lapsed .. => 13
  | .refusal .. => 13
  | .rider .. => 9
  | .test .. => 13
  | .fault .. => 9
  | .faultCleared .. => 8
  | .settlement .. => 28
  | .quoteDropped .. => 13
  | .dayRoll .. => 21
  | .lift .. => 8
  | .mode .. => 9

/-- A journal record (Table 10.4). -/
def JournalRecord.bytes (r : JournalRecord) : List Byte :=
  bytesOf 2 r.seq ++ byteOf r.body.kindCode ++ bytesOf 4 r.stamp ++ r.body.bytes

/-- Pass and source of a slot: zeros when absent. -/
def identityBytes : Option QuoteIdentity → List Byte
  | some i => bytesOf 4 i.pass ++ byteOf i.source.code
  | none => bytesOf 5 0

def SlotState.identity? : SlotState → Option QuoteIdentity
  | .queued i => some i
  | .computing i _ => some i
  | .quoted i _ _ _ => some i
  | .free | .cancelling => none

def SlotState.snapshot? : SlotState → Option Snapshot
  | .computing _ sn => some sn
  | .quoted _ sn _ _ => some sn
  | .free | .queued _ | .cancelling => none

def SlotState.results? : SlotState → Option Results
  | .quoted _ _ r _ => some r
  | .free | .queued _ | .computing .. | .cancelling => none

def SlotState.expiry? : SlotState → Option Nat
  | .quoted _ _ _ e => some e
  | .free | .queued _ | .computing .. | .cancelling => none

def snapshotBytes : Option Snapshot → List Byte
  | some s =>
      bytesOf 3 s.price ++ byteOf s.days ++ byteOf s.fullDays ++ byteOf s.stormDays
        ++ byteOf s.noServiceDays ++ byteOf s.start ++ byteOf s.window ++ bytesOf 2 s.fixedFee
        ++ bytesOf 2 s.percentFee ++ bytesOf 2 s.minimum ++ byteOf s.rounding ++ flagByte s.stormCredit
        ++ byteOf s.deadlineDays
  | none => bytesOf 18 0

def resultsBytes : Option Results → List Byte
  | some r =>
      byteOf r.hTotal ++ byteOf r.hUsed ++ byteOf r.hUnused ++ bytesOf 3 r.q ++ byteOf r.r
        ++ bytesOf 3 r.gross ++ bytesOf 3 r.percentFee ++ bytesOf 3 r.net ++ bytesOf 3 r.payout
        ++ byteOf r.residue ++ byteOf r.flags.code
  | none => bytesOf 21 0

/-- The last ending: pass and reason, with reason 0xFF when absent (section 10.9). -/
def endingBytes : Option QuoteEnding → List Byte
  | some e => bytesOf 4 e.pass ++ byteOf e.reason.code
  | none => bytesOf 4 0 ++ byteOf 0xFF

/-- The 55 bytes of a QUOTE_QUERY reply (section 10.9). -/
def slotRecordBytes (slot : SlotId) (q : QuoteSlot) : List Byte :=
  byteOf slot.val ++ byteOf q.state.phase.code ++ identityBytes q.state.identity?
    ++ snapshotBytes q.state.snapshot? ++ resultsBytes q.state.results?
    ++ bytesOf 4 (q.state.expiry?.getD 0) ++ endingBytes q.lastEnding

/-- The 22 bytes of a QUOTE_READY content (section 10.9): pass and results are shown only for a QUOTED slot (R153). For
another slot the absent pass is 0 (section 10.9), and the absent source, results and hold expiry stamp are zero bytes
(DESIGN CHOICE, assumption log 5). -/
def quoteReadyBytes (s : SlotState) : List Byte :=
  byteOf s.phase.code ++
    match s with
    | .quoted i _ r e =>
        bytesOf 4 i.pass ++ byteOf i.source.code ++ bytesOf 3 r.payout ++ bytesOf 3 r.gross
          ++ bytesOf 2 r.fixedFee ++ bytesOf 3 r.percentFee ++ byteOf r.flags.code ++ bytesOf 4 e
    | .free | .queued _ | .computing .. | .cancelling => bytesOf 21 0

/-- The status of a desk summary: the pass statuses 0 to 3, and UNKNOWN 4 (section 10.9). -/
def lookupStatusCode : Option PassStatus → Nat
  | some st => st.code
  | none => 4

/-- The quote item of a desk summary (section 10.9). -/
def quoteItemBytes : QuoteItem → List Byte
  | .opened slot => byteOf slot.val ++ byteOf 0x00
  | .refusedWith code => byteOf 0xFF ++ byteOf code.code
  | .autoQuoteOff => byteOf 0xFF ++ byteOf 0xFE

/-- The desk summary (Table 4.8). An absent N is 0 (section 10.9); an absent product code is 0 too (DESIGN CHOICE,
assumption log 5). -/
def deskSummaryBytes (d : DeskSummary) : List Byte :=
  bytesOf 4 d.lookup.pass ++ byteOf (lookupStatusCode d.lookup.status) ++ byteOf (d.lookup.product.getD 0)
    ++ byteOf (d.lookup.days.getD 0) ++ byteOf d.lookup.counts.fullDays ++ byteOf d.lookup.counts.stormDays
    ++ byteOf d.lookup.counts.noServiceDays ++ quoteItemBytes d.quote

/-- The kind of a key. -/
def NoticeKey.kind : NoticeKey → NoticeKind
  | .laneFault _ => .laneFault
  | .laneAlarm _ => .laneAlarm
  | .deskRead _ => .deskRead
  | .quoteReady _ => .quoteReady
  | .quoteEnded _ => .quoteEnded
  | .dayRolled => .dayRolled
  | .journalHigh => .journalHigh
  | .clockExpired => .clockExpired

/-- R185: the lane or slot number, or 0xFF for a kind with no subject. -/
def NoticeKey.subject : NoticeKey → Nat
  | .laneFault l | .laneAlarm l | .deskRead l | .quoteReady l | .quoteEnded l => l.val
  | .dayRolled | .journalHigh | .clockExpired => 0xFF

def maskBytes (m : NoticeMask) : List Byte :=
  ([m.laneFault, m.laneAlarm, m.deskRead, m.quoteReady, m.quoteEnded, m.dayRolled, m.journalHigh,
    m.clockExpired].map fun b => byteOf (maskCode b)).flatten

def clockBytes (c : Clock) : List Byte := byteOf c.state.code ++ byteOf c.day ++ bytesOf 3 c.second

def NoticeContent.bytes : NoticeContent → List Byte
  | .latchedSet f => byteOf f.code
  | .alarm lane stamp => byteOf lane.val ++ bytesOf 4 stamp
  | .desk d => deskSummaryBytes d
  | .quote st => quoteReadyBytes st
  | .ended e => endingBytes e
  | .rolled day finished riders newDays refunds payout =>
      byteOf day ++ byteOf (finished.getD 0) ++ bytesOf 3 riders ++ bytesOf 3 newDays ++ bytesOf 3 refunds
        ++ bytesOf 4 payout
  | .journal n settlements gap => bytesOf 2 n ++ byteOf settlements ++ bytesOf 2 gap
  | .clock c => clockBytes c

/-- The day of a tally set: presence byte and day (section 10.9). -/
def tallyDayBytes : Option Nat → List Byte
  | some d => byteOf 1 ++ byteOf d
  | none => bytesOf 2 0

/-- The 8 counters in the order of Table 6.2 and the 19 refusal counters in the order of Table 4.4. -/
def laneCounterBytes (c : LaneCounters) : List Byte :=
  (([c.admittedCount, c.paid, c.lapsed, c.free, c.forced, c.under, c.testReads, c.deskReads]
    ++ c.refusals.toList).map (bytesOf 3)).flatten

/-- The last 11 bytes of a lane's TALLY reply, zeros for PREVIOUS (section 10.9). The stamp of an empty list is zeros
(DESIGN CHOICE, assumption log 5). -/
def inHandBytes : Option LaneInHand → List Byte
  | some h =>
      byteOf h.pending ++ byteOf h.rotationItems ++ bytesOf 4 (h.rotationOldest.getD 0)
        ++ byteOf h.entryItems ++ bytesOf 4 (h.entryOldest.getD 0)
  | none => bytesOf 11 0

def lineFlagBytes (f : LineFlags) : List Byte :=
  flagByte f.gapTimeout ++ flagByte f.checkError ++ flagByte f.framing ++ flagByte f.overrun
    ++ flagByte f.breakSeen

def laneReportBytes (l : LaneReport) : List Byte :=
  byteOf l.role.code ++ byteOf l.state.code ++ byteOf l.latches.code

/-- The content of the STATUS reply in the order of R174, the pending notices behind their number. -/
def StatusReport.bytes (s : StatusReport) : List Byte :=
  byteOf s.mode.code ++ clockBytes s.clock ++ byteOf s.lift.code ++ (s.lanes.toList.map laneReportBytes).flatten
    ++ (s.slots.toList.map fun p => byteOf p.code).flatten ++ flagByte s.transferOpen
    ++ byteOf s.pending.length
    ++ (s.pending.map fun p => byteOf p.1.kind.code ++ byteOf p.1.subject ++ byteOf (maskCode p.2)).flatten
    ++ maskBytes s.mask ++ bytesOf 2 s.records ++ byteOf s.settlements ++ bytesOf 2 s.gap
    ++ bytesOf 2 s.evictions ++ lineFlagBytes s.flags

/-- R186: family, part, revision, rate, and the nine capacities. -/
def identifyBytes (p : Straps) : List Byte :=
  byteOf 0x0A ++ bytesOf 2 410 ++ byteOf 1 ++ byteOf p.code
    ++ ([63, 4096, 256, 512, 64, 4, 4, 8, 2].map (bytesOf 2)).flatten

/-- What a reply carries after its status byte. -/
def ReplyData.bytes : ReplyData → List Byte
  | .nothing => []
  | .putOutcome o n => byteOf o.code ++ bytesOf 2 n
  | .entryCount n => bytesOf 2 n
  | .passFound n e => bytesOf 2 n ++ passFoundBytes e
  | .mergeCounts a k o n => byteOf a ++ byteOf k ++ byteOf o ++ byteOf n
  | .chunk outcomes left summary =>
      (outcomes.map fun o => byteOf o.code).flatten ++ bytesOf 2 left ++
        match summary with
        | some (t, n) =>
          match t.header with
          | some h => summaryBytes t h ++ bytesOf 2 n
          | none => bytesOf 2 n
        | none => []
  | .remaining n => bytesOf 2 (n.getD 0)
  | .transferRecord t n => transferBytes t ++ bytesOf 2 n
  | .latchedSet f => byteOf f.code
  | .testDecision d => byteOf d.code
  | .slotOpened slot => byteOf slot.val
  | .slotDropped slot reason => byteOf slot.val ++ byteOf reason.code
  | .settled items => settlementBytes items
  | .slotRecord slot q => slotRecordBytes slot q
  | .report r => r.bytes
  | .laneTally day lane c h => tallyDayBytes day ++ byteOf lane.val ++ laneCounterBytes c ++ inHandBytes h
  | .liftTally day riders newDays refunds payout hours =>
      tallyDayBytes day ++ bytesOf 3 riders ++ bytesOf 3 newDays ++ bytesOf 3 refunds ++ bytesOf 4 payout
        ++ (hours.toList.map (bytesOf 3)).flatten
  | .records gap rs left settlements =>
      bytesOf 2 gap ++ byteOf rs.length ++ bytesOf 2 left ++ byteOf settlements
        ++ (rs.map JournalRecord.bytes).flatten
  | .mask m => maskBytes m
  | .identity p => identifyBytes p

/-- KIND of a frame on its way out (R177). -/
def OutFrame.kind : OutFrame → Byte
  | .reply k _ _ _ => k
  | .notice .. => 0x7F

/-- TAG of a frame on its way out (R177). -/
def OutFrame.tag : OutFrame → Byte
  | .reply _ t _ _ => t
  | .notice .. => 0

/-- Payload of a frame on its way out: a reply's begins with its status byte (R177), a notice's with its kind
code and subject (R185). -/
def OutFrame.payload : OutFrame → List Byte
  | .reply _ _ st d => byteOf st.code ++ d.bytes
  | .notice key c => byteOf key.kind.code ++ byteOf key.subject ++ c.bytes

/-- The characters of a frame the part sends (R177). -/
def OutFrame.wire (f : OutFrame) : List Byte := frameBytes f.kind f.tag f.payload

end Sys2Proof.Machine
end

