-- ==== Sys2Proof/Machine/Operands.lean ====
section
/-!
DEFINITION. The operand forms: what a byte of a request names, and the range checks of the owners.

An enumerated byte beyond its last value names nothing, and the owner refuses it with BAD_VALUE (R183).
-/

namespace Sys2Proof.Machine

/-- A lane or slot number above 3 names none. -/
def fourOf (b : Byte) : Option (Fin 4) :=
  if h : b.toNat < 4 then some ⟨b.toNat, h⟩ else none

/-- The legal pass numbers are 1 to 4,294,967,294 (section 1.7). -/
def legalPass (p : Nat) : Bool := decide (1 ≤ p) && decide (p ≤ 4294967294)

/-- A two-valued byte: 0 or 1 (section 10.9). -/
def boolOf (b : Byte) : Option Bool :=
  match b.toNat with
  | 0 => some false
  | 1 => some true
  | _ => none

/-- R10. -/
def liftStatusOf (b : Byte) : Option LiftStatus :=
  match b.toNat with
  | 0 => some .isOpen
  | 1 => some .hold
  | 2 => some .closed
  | _ => none

/-- R12. -/
def dayMarkOf (b : Byte) : Option DayMark :=
  match b.toNat with
  | 0 => some .noMark
  | 1 => some .closedEarly
  | 2 => some .closedAllDay
  | _ => none

/-- R60. -/
def roleOf (b : Byte) : Option Role :=
  match b.toNat with
  | 0 => some .gate
  | 1 => some .desk
  | 2 => some .off
  | _ => none

/-- The statuses the host may name: REFUND_HOLD is none of them (R27, R33). -/
def hostStatusOf (b : Byte) : Option PassStatus :=
  match b.toNat with
  | 0 => some .active
  | 1 => some .blocked
  | 3 => some .refunded
  | _ => none

/-- R45. -/
def transferModeOf (b : Byte) : Option TransferMode :=
  match b.toNat with
  | 0 => some .load
  | 1 => some .verify
  | _ => none

/-- The two search modes of PASS_QUERY (R39). -/
inductive SearchMode where
  | exact
  | atOrAfter
  deriving DecidableEq, Repr

/-- R39. -/
def searchModeOf (b : Byte) : Option SearchMode :=
  match b.toNat with
  | 0 => some .exact
  | 1 => some .atOrAfter
  | _ => none

/-- The five outputs LANE_OUTPUT can name (R76). -/
inductive LaneOutput where
  | arm
  | green
  | amber
  | red
  | buzzer
  deriving DecidableEq, Repr

/-- R76. -/
def laneOutputOf (b : Byte) : Option LaneOutput :=
  match b.toNat with
  | 0 => some .arm
  | 1 => some .green
  | 2 => some .amber
  | 3 => some .red
  | 4 => some .buzzer
  | _ => none

/-- Section 10.9: for ARM, 0 AUTO, 1 FREE and 2 LOCK. -/
def armOverrideOf (b : Byte) : Option ArmOverride :=
  match b.toNat with
  | 0 => some .auto
  | 1 => some .free
  | 2 => some .lock
  | _ => none

/-- Section 10.9: for the lamps and the buzzer, 0 AUTO, 1 ON and 2 OFF. -/
def outputOverrideOf (b : Byte) : Option OutputOverride :=
  match b.toNat with
  | 0 => some .auto
  | 1 => some .on
  | 2 => some .off
  | _ => none

/-- R173: a kind code 0 to 7 in the order of Table 9.3. -/
def noticeKindOf (b : Byte) : Option NoticeKind :=
  match b.toNat with
  | 0 => some .laneFault
  | 1 => some .laneAlarm
  | 2 => some .deskRead
  | 3 => some .quoteReady
  | 4 => some .quoteEnded
  | 5 => some .dayRolled
  | 6 => some .journalHigh
  | 7 => some .clockExpired
  | _ => none

/-- R173: 0 MASKED, 1 UNMASKED (assumption log 6); `true` is MASKED. -/
def maskSettingOf (b : Byte) : Option Bool :=
  match b.toNat with
  | 0 => some true
  | 1 => some false
  | _ => none

/-- The two tally sets TALLY can name, and its parts (R124). -/
inductive TallyPart where
  | lane (lane : LaneId)
  | lift
  deriving DecidableEq, Repr

/-- Section 10.9: 0 TODAY, 1 PREVIOUS; `true` is TODAY. -/
def tallySetOf (b : Byte) : Option Bool :=
  match b.toNat with
  | 0 => some true
  | 1 => some false
  | _ => none

/-- Section 10.9: 0 to 3 for the lanes, 4 for LIFT. -/
def tallyPartOf (b : Byte) : Option TallyPart :=
  match fourOf b with
  | some l => some (.lane l)
  | none => if b.toNat = 4 then some .lift else none

/-- The site configuration SITE_CONFIG carries, if every field is in its range (R8, Table 1.2). -/
def siteOf (f : SiteFields) : Option SiteConfig :=
  let c : SiteConfig :=
    { liftNumber := f.liftNumber.toNat, rolloverMinute := f.rolloverMinute.toNat,
      readerLoss := f.readerLoss.toNat, beamStuck := f.beamStuck.toNat, armStuck := f.armStuck.toNat,
      matchWindow := f.matchWindow.toNat, holdTime := f.holdTime.toNat }
  if c.liftNumber ≤ 15 ∧ c.rolloverMinute ≤ 1439 ∧ 4 ≤ c.readerLoss ∧ c.readerLoss ≤ 64
      ∧ 5 ≤ c.beamStuck ∧ c.beamStuck ≤ 60 ∧ 5 ≤ c.armStuck ∧ c.armStuck ≤ 60
      ∧ 1 ≤ c.matchWindow ∧ c.matchWindow ≤ 10 ∧ 30 ≤ c.holdTime ∧ c.holdTime ≤ 600
  then some c else none

/-- The six rounding units (Table 2.2). -/
def roundingUnits : List Nat := [1, 5, 10, 25, 50, 100]

/-- The refund policy part, if each field is in its range (R20). -/
def policyOf (f : ProductFields) : Option RefundPolicy :=
  match boolOf f.stormCredit with
  | none => none
  | some storm =>
    let p : RefundPolicy :=
      { fixedFee := f.fixedFee.toNat, percentFee := f.percentFee.toNat, minimum := f.minimum.toNat,
        rounding := f.rounding.toNat, stormCredit := storm, deadlineDays := f.deadlineDays.toNat }
    if p.percentFee ≤ 10000 ∧ p.rounding ∈ roundingUnits ∧ p.deadlineDays ≤ 60 then some p else none

/-- The policy a record carries: the outer option is validity, the inner one presence. The policy bytes are
ignored when the presence byte is 0 (section 10.9). -/
def carriedPolicy (f : ProductFields) : Option (Option RefundPolicy) :=
  match boolOf f.policyPresent with
  | none => none
  | some false => some none
  | some true => (policyOf f).map some

/-- The kind and N of a record, which must agree with W and the policy (Table 2.1). -/
def carriedKind (f : ProductFields) (hasPolicy : Bool) : Option ProductKind :=
  let n := f.days.toNat
  let w := f.window.toNat
  match f.kind.toNat with
  | 0 => if 1 ≤ n ∧ n ≤ 14 ∧ n ≤ w ∧ w ≤ 32 then some (.days n) else none
  | 1 => if n = 0 ∧ 1 ≤ w ∧ w ≤ 240 ∧ hasPolicy = false then some .season else none
  | _ => none

/-- The product record PRODUCT_PUT carries, if it is valid (R19, R20). -/
def productOf (f : ProductFields) : Option Product :=
  match carriedPolicy f with
  | none => none
  | some policy =>
    match carriedKind f policy.isSome with
    | none => none
    | some kind =>
      let o := f.openMinute.toNat
      let c := f.closeMinute.toNat
      if o ≤ 1439 ∧ 1 ≤ c ∧ c ≤ 1440 ∧ o < c then
        some { kind := kind, window := f.window.toNat, liftMask := f.liftMask, openMinute := o,
               closeMinute := c, policy := policy }
      else none

/-- A product code is 1 to 63 (R18). -/
def legalCode (code : Nat) : Bool := decide (1 ≤ code) && decide (code ≤ 63)

end Sys2Proof.Machine
end

