-- ==== Sys2Proof/Machine/Ops.lean ====
section
/-!
DEFINITION. The named operations over the state: the blocks' setters, the derived values, table look-ups, the
journal write, the notice raise, the tally's counting, the replies, the transmitter and the inbound buffers.
-/

namespace Sys2Proof.Machine

/-! ## One setter for each block -/

/-- The state with its Line Interface replaced. -/
def State.setLif (s : State) (x : LineInterface) : State := { s with lif := x }

/-- The state with its Resort Clock and Calendar replaced. -/
def State.setRcc (s : State) (x : ClockBlock) : State := { s with rcc := x }

/-- The state with its Tariff Table replaced. -/
def State.setTariff (s : State) (x : Vector ProductSlot 63) : State := { s with tariff := x }

/-- The state with its Pass Table replaced. -/
def State.setPasses (s : State) (x : List PassEntry) : State := { s with passes := x }

/-- The state with its Transfer Engine replaced. -/
def State.setXfer (s : State) (x : Transfer) : State := { s with xfer := x }

/-- The state with its Lane Units replaced. -/
def State.setLanes (s : State) (x : Quad Lane) : State := { s with lanes := x }

/-- The state with its Admission Engine replaced. -/
def State.setAe (s : State) (x : AdmissionEngine) : State := { s with ae := x }

/-- The state with its Passback List replaced. -/
def State.setPbl (s : State) (x : PassbackList) : State := { s with pbl := x }

/-- The state with its Rider Tally replaced. -/
def State.setTally (s : State) (x : Tally) : State := { s with tally := x }

/-- The state with its Refund Calculator replaced. -/
def State.setRfc (s : State) (x : Calculator) : State := { s with rfc := x }

/-- The state with its Quote Table replaced. -/
def State.setQuotes (s : State) (x : Quad QuoteSlot) : State := { s with quotes := x }

/-- The state with its Journal replaced. -/
def State.setJournal (s : State) (x : Journal) : State := { s with journal := x }

/-- The state with its Notice Latch replaced. -/
def State.setNotices (s : State) (x : NoticeLatch) : State := { s with notices := x }

/-- The state with its queue of commands replaced. -/
def State.setPending (s : State) (x : List Instr) : State := { s with pending := x }

/-- One lane. -/
def State.lane (s : State) (l : LaneId) : Lane := s.lanes.get l

/-- The state with one lane replaced. -/
def State.setLane (s : State) (l : LaneId) (x : Lane) : State := s.setLanes (s.lanes.set l x)

/-- One quote slot. -/
def State.slot (s : State) (i : SlotId) : QuoteSlot := s.quotes.get i

/-- The state with one quote slot replaced. -/
def State.setSlot (s : State) (i : SlotId) (x : QuoteSlot) : State := s.setQuotes (s.quotes.set i x)

/-- Lanes and slots in order 0 to 3. -/
def fourInOrder : List (Fin 4) := [0, 1, 2, 3]

/-! ## The clock's derived values (R1) -/

/-- The stamp: season day × 86,400 + resort second. -/
def State.stamp (s : State) : Nat := s.rcc.clock.day * Config.secondsPerDay + s.rcc.clock.second

/-- The wall minute: (rollover minute + resort second div 60) mod 1,440. -/
def State.wallMinute (s : State) : Nat := (s.rcc.site.rolloverMinute + s.rcc.clock.second / 60) % 1440

/-- The wall hour: the wall minute div 60. -/
def State.wallHour (s : State) : Nat := s.wallMinute / 60

/-- "Today": the season day. -/
def State.today (s : State) : Nat := s.rcc.clock.day

/-- The clock is RUNNING. -/
def State.clockRunning (s : State) : Bool := s.rcc.clock.state == .running

/-! ## Saturating counts (section 1.7, R123) -/

/-- A counter at its ceiling stays there. -/
def satAdd (ceiling n k : Nat) : Nat := min ceiling (n + k)

/-- A tally counter with one more count. -/
def bump (n : Nat) : Nat := satAdd Config.counterCeiling n 1

/-- A group of counters with one more count in place `i`. -/
def bumpAt {k : Nat} (v : Vector Nat k) (i : Nat) : Vector Nat k :=
  v.setIfInBounds i (bump (v[i]?.getD 0))

/-! ## The Pass Table and the Tariff Table -/

/-- The entry of a pass (R25). -/
def State.findPass (s : State) (p : Nat) : Option PassEntry := s.passes.find? fun e => e.pass == p

/-- The entries with the entry of one pass changed. -/
def updateIn (p : Nat) (f : PassEntry → PassEntry) (es : List PassEntry) : List PassEntry :=
  es.map fun e => if e.pass = p then f e else e

/-- The state with the entry of one pass changed. -/
def State.updatePass (s : State) (p : Nat) (f : PassEntry → PassEntry) : State :=
  s.setPasses (updateIn p f s.passes)

/-- R25: a new entry takes the place of its pass number in the order. -/
def insertEntry (x : PassEntry) : List PassEntry → List PassEntry
  | [] => [x]
  | e :: es => if x.pass < e.pass then x :: e :: es else e :: insertEntry x es

/-- R25: the entry of a pass leaves the order. -/
def removeEntry (p : Nat) (es : List PassEntry) : List PassEntry := es.filter fun e => !(e.pass == p)

/-- The slot of a product code (R18). -/
def State.productSlot (s : State) (code : Nat) : ProductSlot :=
  (s.tariff[code - 1]?).getD ProductSlot.empty

/-- The product of a code, none when its slot is empty (R18). -/
def State.product? (s : State) (code : Nat) : Option Product := (s.productSlot code).record

/-- A pass entry names the product (R21). -/
def State.productNamed (s : State) (code : Nat) : Bool := s.passes.any fun e => e.product == code

/-- The days-used set; an absent usage part reads as an empty one (R28). -/
def PassEntry.daysUsed (e : PassEntry) : List Nat := (e.usage.map (·.days)).getD []

/-- An offset joins the days-used set in ascending order, once (R29). -/
def insertOffset (x : Nat) : List Nat → List Nat
  | [] => [x]
  | d :: ds => if x < d then x :: d :: ds else if x = d then d :: ds else d :: insertOffset x ds

/-- The mark of a season day (R12). -/
def State.markOf (s : State) (day : Nat) : DayMark := (s.rcc.calendar[day]?).getD .noMark

/-- The three day counts of a pass (R97, R130): its used days sorted by the marks of the calendar. -/
def State.dayCounts (s : State) (e : PassEntry) : DayCounts :=
  let marks := e.daysUsed.map fun o => s.markOf (e.start + o)
  { fullDays := marks.count .noMark, stormDays := marks.count .closedEarly,
    noServiceDays := marks.count .closedAllDay }

/-! ## The Passback List -/

/-- The pass of the admission pending at a lane: the engine finds it by the PENDING passback entry that names the
lane (R100). -/
def State.pendingPass (s : State) (l : LaneId) : Option Nat :=
  (s.pbl.entries.find? fun e => e.phase == .pending l).map (·.pass)

/-- The number of admissions pending at a lane, 0 or 1 (R124). -/
def State.pendingCount (s : State) (l : LaneId) : Nat := if (s.pendingPass l).isSome then 1 else 0

/-- The entry is COMMITTED. -/
def PassbackEntry.isCommitted (e : PassbackEntry) : Bool :=
  match e.phase with
  | .committed _ => true
  | .pending _ => false

/-! ## The Notice Latch -/

/-- The key of a pending notice (R170). -/
def PendingNotice.key : PendingNotice → NoticeKey
  | .laneFault l => .laneFault l
  | .laneAlarm l => .laneAlarm l
  | .deskRead l _ => .deskRead l
  | .quoteReady i => .quoteReady i
  | .quoteEnded i => .quoteEnded i
  | .dayRolled => .dayRolled
  | .journalHigh => .journalHigh
  | .clockExpired => .clockExpired

/-- R170: a raise whose key is not pending joins the young end; one whose key is pending keeps its place, and a
DESK_READ takes the new summary. -/
def NoticeLatch.raise (n : NoticeLatch) (x : PendingNotice) : NoticeLatch :=
  if n.pending.any fun y => y.key == x.key then
    { n with pending := n.pending.map fun y => if y.key = x.key then x else y }
  else { n with pending := n.pending ++ [x] }

/-- R170, on the state. -/
def State.raise (s : State) (x : PendingNotice) : State := s.setNotices (s.notices.raise x)

/-! ## The Journal -/

/-- The record is of class SETTLEMENT (R162). -/
def JournalRecord.isSettlement (r : JournalRecord) : Bool :=
  match r.body with
  | .settlement _ => true
  | _ => false

/-- The settlement count: the number of SETTLEMENT records held (R162). -/
def Journal.settlementCount (j : Journal) : Nat := j.records.countP JournalRecord.isSettlement

/-- R165: room is made by removing the oldest ROUTINE record from wherever it stands. -/
def dropOldestRoutine (rs : List JournalRecord) : List JournalRecord :=
  rs.eraseP fun r => !r.isSettlement

/-- R163, R165: a record takes the sequence counter's number and joins the young end, room being made first when
the journal holds 512 records. -/
def Journal.write (j : Journal) (stamp : Nat) (body : RecordBody) : Journal :=
  let r : JournalRecord := { seq := j.nextSeq, stamp := stamp, body := body }
  let next := (j.nextSeq + 1) % 65536
  if j.records.length < Config.journalCapacity then
    { records := j.records ++ [r], nextSeq := next, gap := j.gap }
  else
    { records := dropOldestRoutine j.records ++ [r], nextSeq := next,
      gap := satAdd Config.count16Ceiling j.gap 1 }

/-- R167: at or above 384 records or 48 settlements. -/
def Journal.isHigh (j : Journal) : Bool :=
  decide (Config.journalHighRecords ≤ j.records.length)
    || decide (Config.journalHighSettlements ≤ j.settlementCount)

/-- A record written at this event: R165, and the raise of R167 at the end of the write. -/
def State.writeRecord (s : State) (body : RecordBody) : State :=
  let s' := s.setJournal (s.journal.write s.stamp body)
  if s'.journal.isHigh then s'.raise .journalHigh else s'

/-! ## The Rider Tally -/

/-- Today's set replaced. -/
def State.setToday (s : State) (t : TallySet) : State := s.setTally { s.tally with today := t }

/-- One lane's counters of today's set changed. -/
def State.countLane (s : State) (l : LaneId) (f : LaneCounters → LaneCounters) : State :=
  s.setToday { s.tally.today with lanes := s.tally.today.lanes.set l (f (s.tally.today.lanes.get l)) }

/-- The lane counter of a FREE, FORCED or UNDER rider; the paid count is added by the commit (R120). -/
def LaneCounters.addRider (c : LaneCounters) : RiderCategory → LaneCounters
  | .paid => c
  | .free => { c with free := bump c.free }
  | .forced => { c with forced := bump c.forced }
  | .under => { c with under := bump c.under }

/-- R120: a rider is counted in the lane's category, in riders and in the hour bin of the wall hour. -/
def State.countRider (s : State) (l : LaneId) (cat : RiderCategory) : State :=
  let s' := s.countLane l fun c => c.addRider cat
  s'.setToday { s'.tally.today with
    riders := bump s'.tally.today.riders
    hours := bumpAt s'.tally.today.hours s.wallHour }

/-- R69: one refusal of a cause at a lane. -/
def LaneCounters.addRefusal (c : LaneCounters) (cause : RefusalCause) : LaneCounters :=
  { c with refusals := bumpAt c.refusals cause.code }

/-- R125, R126: a cleared set, each lane's admitted count preset to the admissions pending there. -/
def State.clearedSet (s : State) (day : Option Nat) : TallySet :=
  { TallySet.zero day with
    lanes := Quad.tabulate fun l => { LaneCounters.zero with admittedCount := s.pendingCount l } }

/-! ## Replies (R183, R184) -/

/-- A reply joins the young end of the reply queue (R184). -/
def State.placeReply (s : State) (f : OutFrame) : State :=
  s.setLif { s.lif with replies := s.lif.replies ++ [f] }

/-- The frame of a reply: KIND with its top bit set (R177). -/
def replyFrame (kind tag : Byte) (st : StatusCode) (d : ReplyData) : OutFrame :=
  .reply (kind ||| 0x80) tag st d

/-- The owner's reply to a request. -/
def State.answer (s : State) (k : RequestKind) (tag : Byte) (st : StatusCode) (d : ReplyData) : State :=
  s.placeReply (replyFrame k.code tag st d)

/-- A refusal, or an OK, that carries the status byte alone (R183). -/
def State.answerCode (s : State) (k : RequestKind) (tag : Byte) (st : StatusCode) : State :=
  s.answer k tag st .nothing

/-- The waiting request is a TEST: its deferred reply has a reserved place (R184). -/
def LaneRequest.isTest (r : LaneRequest) : Bool :=
  match r.kind with
  | .test _ => true
  | .gate | .desk => false

/-- The number of reserved places: one for each TEST request in the waiting set (R184). -/
def State.reserved (s : State) : Nat :=
  s.ae.waiting.toList.countP fun w => (w.map LaneRequest.isTest).getD false

/-- R182: the replies waiting plus the reserved places must be below 8 for the handler to take a frame. -/
def State.replyRoom (s : State) : Bool :=
  decide (s.lif.replies.length + s.reserved < Config.replyPlaces)

/-! ## The transmitter (R171, R172, R185) -/

/-- The content of a notice, formed from its owner's state as it stands (Table 9.4). -/
def State.noticeContent (s : State) : PendingNotice → NoticeContent
  | .laneFault l => .latchedSet (s.lane l).latches
  | .laneAlarm l => .alarm l (s.lane l).forcedStamp
  | .deskRead _ summary => .desk summary
  | .quoteReady i => .quote (s.slot i).state
  | .quoteEnded i => .ended (s.slot i).lastEnding
  | .dayRolled =>
      .rolled s.rcc.clock.day s.tally.previous.day s.tally.previous.riders s.tally.previous.newDays
        s.tally.previous.refundsSettled s.tally.previous.payoutTotal
  | .journalHigh => .journal s.journal.records.length s.journal.settlementCount s.journal.gap
  | .clockExpired => .clock s.rcc.clock

/-- The notice's kind is UNMASKED (R172). -/
def NoticeLatch.eligible (n : NoticeLatch) (x : PendingNotice) : Bool := !(n.mask.get x.key.kind)

/-- R185: an empty holding frame takes the reply at the head of the queue, otherwise the oldest pending notice of
an unmasked kind, otherwise stays empty. -/
def State.fillHolding (s : State) : State :=
  match s.lif.holding with
  | some _ => s
  | none =>
    match s.lif.replies with
    | r :: rest => s.setLif { s.lif with holding := some r, replies := rest }
    | [] =>
      match s.notices.pending.find? s.notices.eligible with
      | some x =>
        let s' := s.setLif { s.lif with holding := some (.notice x.key (s.noticeContent x)) }
        s'.setNotices { s.notices with pending := s.notices.pending.eraseP s.notices.eligible }
      | none => s

/-- R185: with nothing on the line, the holding frame becomes the shifting frame (DEDUCED for a line that is idle
when the holding frame is filled, assumption log 4). -/
def State.startShifting (s : State) : State :=
  match s.lif.shifting with
  | some _ => s
  | none => s.setLif { s.lif with shifting := s.lif.holding, holding := none }

/-- What the transmitter does at the end of every event (assumption log 4). -/
def State.pump (s : State) : State := s.fillHolding.startShifting.fillHolding

/-! ## The inbound buffers (R182) -/

/-- R182: a complete frame with a good check joins the inbound buffers, or is discarded with OVERRUN. -/
def State.joinInbound (s : State) (f : InFrame) : State :=
  if s.lif.inbound.length < Config.inboundBuffers then
    s.setLif { s.lif with inbound := s.lif.inbound ++ [f] }
  else s.setLif { s.lif with flags := { s.lif.flags with overrun := true } }

/-- The frame of a request joins the inbound buffers. -/
def State.joinRequest (s : State) (i : Instr) : State :=
  match encodeRequest i with
  | some f => s.joinInbound f
  | none => s

end Sys2Proof.Machine
end

