-- ==== Sys2Proof/Machine/LaneOps.lean ====
section
/-!
DEFINITION. What the lanes share: the lane state (R64, R83), the lane outputs (R75, R78, R79), the lapse (R103),
the withdrawal (R91), the refusal (R69), the fault latch (R81), the passback list's expiry and clearing.
-/

namespace Sys2Proof.Machine

/-! ## The lane state -/

/-- R64, row 3: the mode is SETUP, or the lift status is CLOSED, or the clock is not RUNNING. -/
def State.closedCondition (s : State) : Bool :=
  s.rcc.mode == .setup || s.rcc.lift == .closed || !s.clockRunning

/-- A request of the lane is in the waiting set. -/
def State.isWaiting (s : State) (l : LaneId) : Bool := (s.ae.waiting.get l).isSome

/-- R64 for a GATE lane, R83 for a DESK lane; a lane whose role is OFF is in state OFF. -/
def State.laneState (s : State) (l : LaneId) : LaneState :=
  match (s.lane l).role with
  | .off => .off
  | .gate =>
    if (s.lane l).latches.any then .fault
    else if (s.pendingPass l).isSome then .unlocked
    else if s.closedCondition then .closed
    else if s.isWaiting l then .waiting
    else .ready
  | .desk =>
    if (s.lane l).latches.readerLost then .fault
    else if s.isWaiting l then .waiting
    else .ready

/-! ## The lane outputs -/

/-- R75, and Table 4.1 for the other roles: the arm latch release output LRn. -/
def State.latchRelease (s : State) (l : LaneId) : Bool :=
  (s.lane l).role == .gate
    && ((s.lane l).armOverride == .free
      || ((s.lane l).armOverride == .auto && s.laneState l == .unlocked))

/-- What a lamp shows (Table 4.6). -/
inductive LampShow where
  | dark
  | lit
  | flashing
  deriving DecidableEq, Repr

/-- The three lamps of a lane. -/
structure Lamps where
  green : LampShow
  amber : LampShow
  red : LampShow
  deriving DecidableEq, Repr

/-- The indication of the lane condition (Table 4.6); a steady red is `lit`. -/
def State.stateIndication (s : State) (l : LaneId) : Lamps :=
  match s.laneState l with
  | .off => ⟨.dark, .dark, .dark⟩
  | .fault => ⟨.dark, .dark, .flashing⟩
  | .unlocked => ⟨.lit, .dark, .dark⟩
  | .closed => ⟨.dark, .dark, .lit⟩
  | .waiting | .ready =>
    if (s.lane l).role = .desk ∧ s.clockRunning = false then ⟨.dark, .dark, .lit⟩
    else ⟨.dark, .lit, .dark⟩

/-- R78: while a display time runs its indication stands in place of the state's. -/
def State.indication (s : State) (l : LaneId) : Lamps :=
  match (s.lane l).display with
  | none => s.stateIndication l
  | some .refusal => ⟨.dark, .dark, .lit⟩
  | some .served => ⟨.lit, .dark, .dark⟩

/-- R78: an override affects its own lamp only. -/
def overrideLamp (o : OutputOverride) (show_ : LampShow) : LampShow :=
  match o with
  | .auto => show_
  | .on => .lit
  | .off => .dark

/-- The lamp outputs LGn, LAn, LRDn (R78). -/
def State.lamps (s : State) (l : LaneId) : Lamps :=
  match (s.lane l).role with
  | .off => ⟨.dark, .dark, .dark⟩
  | .gate | .desk =>
    { green := overrideLamp (s.lane l).greenOverride (s.indication l).green
      amber := overrideLamp (s.lane l).amberOverride (s.indication l).amber
      red := overrideLamp (s.lane l).redOverride (s.indication l).red }

/-- What the buzzer output BZn does. -/
inductive BuzzerShow where
  | silent
  | continuous
  | pattern (p : BuzzerPattern)
  deriving DecidableEq, Repr

/-- R79: ON sounds continuously, OFF is silent, AUTO sounds the lane's pattern. -/
def State.buzzer (s : State) (l : LaneId) : BuzzerShow :=
  match (s.lane l).role with
  | .off => .silent
  | .gate | .desk =>
    match (s.lane l).buzzerOverride with
    | .on => .continuous
    | .off => .silent
    | .auto => .pattern (s.lane l).pattern

/-! ## Display time and buzzer patterns -/

/-- R79: a start while the display time runs restarts it with the new indication; it is not started at a lane in
FAULT. -/
def State.startDisplay (s : State) (l : LaneId) (d : DisplayShow) : State :=
  if s.laneState l = .fault then s
  else s.setLane l { s.lane l with display := some d }

/-- R79: a chirp or a double tone sounds under AUTO, unless the alarm sounds (assumption log 19). -/
def Lane.soundShort (x : Lane) (p : BuzzerPattern) : Lane :=
  if x.buzzerOverride = .auto ∧ x.pattern ≠ .alarm then { x with pattern := p } else x

/-- R79: the alarm timer starts afresh whatever the override; the alarm sounds, replacing any pattern, under AUTO. Under
ON or OFF it is not sounded later, and an alarm begun before the override ends with the timer that timed it (assumption
log 19). -/
def Lane.soundAlarm (x : Lane) : Lane :=
  { x with
    alarmTimer := true
    pattern :=
      if x.buzzerOverride = .auto then .alarm
      else if x.pattern = .alarm then .silence
      else x.pattern }

/-- The alarm ends (R79). -/
def Lane.endAlarm (x : Lane) : Lane :=
  { x with alarmTimer := false, pattern := if x.pattern = .alarm then .silence else x.pattern }

/-! ## Lapse and withdrawal -/

/-- R103: the admission pending at a lane ends without a rotation. At a lane with none pending nothing happens. -/
def State.lapse (s : State) (l : LaneId) (reason : LapseReason) : State :=
  match s.pendingPass l with
  | none => s
  | some p =>
    let s := s.updatePass p fun e => { e with marker := none }
    let s := s.setPbl { s.pbl with entries := s.pbl.entries.filter fun e => !(e.phase == .pending l) }
    let s := s.countLane l fun c => { c with lapsed := bump c.lapsed }
    let s := s.writeRecord (.lapsed l p reason)
    s.setLane l { s.lane l with unlockTimer := none }

/-- R104: one event that ends admissions at several lanes lapses them in lane order 0 to 3. -/
def State.lapseAll (s : State) (reason : LapseReason) : State :=
  fourInOrder.foldl (fun s l => s.lapse l reason) s

/-- R67, R91: the lane's request leaves the waiting set without a decision; a TEST request's deferred reply is
placed with BUSY and no decision. -/
def State.withdraw (s : State) (l : LaneId) : State :=
  match s.ae.waiting.get l with
  | none => s
  | some r =>
    let s := s.setAe { s.ae with waiting := s.ae.waiting.set l none }
    match r.kind with
    | .test tag => s.answerCode .laneInject tag .busy
    | .gate | .desk => s

/-- The requests of all lanes are withdrawn, in lane order (R111). -/
def State.withdrawAll (s : State) : State := fourInOrder.foldl (fun s l => s.withdraw l) s

/-! ## Refusals and faults -/

/-- R69: a refusal at a lane: lamps, buzzer, REFUSAL record, refusal count. -/
def State.refuse (s : State) (l : LaneId) (cause : RefusalCause) (pass : Option Nat) : State :=
  let s := s.startDisplay l .refusal
  let s := s.setLane l ((s.lane l).soundShort .doubleTone)
  let s := s.writeRecord (.refusal l cause pass)
  s.countLane l fun c => c.addRefusal cause

/-- R81, steps 2 and 3: the lane enters FAULT. -/
def State.enterFault (s : State) (l : LaneId) : State :=
  let s := s.setLane l { s.lane l with display := none }
  let s := s.lapse l .fault
  s.withdraw l

/-- The lane with a fault latch set; BEAM_STUCK takes the beam detector to IDLE at once (R115). -/
def Lane.latch (x : Lane) (f : FaultLatch) : Lane :=
  { x with
    latches := x.latches.add f
    detector := if f = .beamStuck then .idle else x.detector }

/-- R81: a fault latch goes from clear to set. A latch already set changes nothing (R63, R80). -/
def State.latchFault (s : State) (l : LaneId) (f : FaultLatch) : State :=
  if (s.lane l).latches.has f then s
  else
    let inFault := (s.lane l).latches.any
    let s := s.setLane l ((s.lane l).latch f)
    let s := s.writeRecord (.fault l (s.lane l).latches)
    let s := if inFault then s else s.enterFault l
    s.raise (.laneFault l)

/-! ## Stuck timers (R80) -/

/-- The level of a beam input. -/
def Lane.beam (x : Lane) : Beam → Bool
  | .a => x.beamA
  | .b => x.beamB

/-- A beam input at a new level. -/
def Lane.setBeam (x : Lane) (beam : Beam) (blocked : Bool) : Lane :=
  match beam with
  | .a => { x with beamA := blocked }
  | .b => { x with beamB := blocked }

/-- The stuck timer of a beam. -/
def Lane.beamTimer (x : Lane) : Beam → Option Nat
  | .a => x.beamATimer
  | .b => x.beamBTimer

/-- The stuck timer of a beam started or stopped. -/
def Lane.setBeamTimer (x : Lane) (beam : Beam) (t : Option Nat) : Lane :=
  match beam with
  | .a => { x with beamATimer := t }
  | .b => { x with beamBTimer := t }

/-! ## The Passback List's expiry and clearing -/

/-- R109: a COMMITTED entry whose age has reached the interval; the age is 0 while the current stamp is earlier
than the entry's. -/
def State.passbackDue (s : State) (e : PassbackEntry) : Bool :=
  match e.phase with
  | .committed stamp => decide (s.pbl.interval ≤ s.stamp - stamp)
  | .pending _ => false

/-- R109: every entry that is due leaves the list, wherever it stands. -/
def State.expirePassback (s : State) : State :=
  s.setPbl { s.pbl with entries := s.pbl.entries.filter fun e => !(s.passbackDue e) }

/-- R110: every COMMITTED entry is removed; PENDING entries stay in their places. -/
def State.clearCommitted (s : State) : State :=
  s.setPbl { s.pbl with entries := s.pbl.entries.filter fun e => !e.isCommitted }

end Sys2Proof.Machine
end

