-- ==== Sys2Proof/Machine/Refund.lean ====
section
/-!
DEFINITION. The Refund Calculator's arithmetic (Chapter 7): one divider, one multiplier, one signed accumulator, and
the seven stages from unit weighting to cash rounding.
-/

namespace Sys2Proof.Machine

/-- R134: one step of the divider on a dividend bit. The pair is the quotient so far and the partial remainder. -/
def divideStep (d bit : Nat) (p : Nat × Nat) : Nat × Nat :=
  let rem := 2 * p.2 + bit
  if d ≤ rem then (2 * p.1 + 1, rem - d) else (2 * p.1, rem)

/-- R134: restoring long division over `k` dividend bits, most significant first, one quotient bit a step. Answers
the quotient and the partial remainder. -/
def longDivide : Nat → Nat → Nat → Nat × Nat
  | 0, _, _ => (0, 0)
  | k + 1, n, d => divideStep d (n % 2) (longDivide k (n / 2) d)

/-- R135: one step of the multiplier on a multiplier bit. -/
def multiplyStep (a bit product : Nat) : Nat := if bit = 1 then 2 * product + a else 2 * product

/-- R135: multiplication of `a` by the `k`-bit multiplier `b` by shift and add, most significant bit first. -/
def shiftAddMultiply : Nat → Nat → Nat → Nat
  | 0, _, _ => 0
  | k + 1, a, b => multiplyStep a (b % 2) (shiftAddMultiply k a (b / 2))

/-- R140: the accumulator is loaded with the gross, which fills the low half. -/
def Accumulator.load (gross : Nat) : Accumulator := { low := BitVec.ofNat 24 gross, high := 0, borrow := false }

/-- R140, step 1 of a subtraction: the fee is subtracted from the low half, with a borrow if the half was smaller. -/
def Accumulator.subtractLow (a : Accumulator) (fee : Nat) : Accumulator :=
  { a with low := a.low - BitVec.ofNat 24 fee, borrow := decide (a.low.toNat < fee) }

/-- R140, step 2 of a subtraction: the borrow is subtracted from the high half. -/
def Accumulator.subtractHigh (a : Accumulator) : Accumulator :=
  { a with high := if a.borrow then a.high - 1 else a.high }

/-- R140: a fee is subtracted in its two steps. -/
def Accumulator.subtract (a : Accumulator) (fee : Nat) : Accumulator := (a.subtractLow fee).subtractHigh

/-- R140: the net and NET_CLAMPED that the accumulator gives: a high half that is not 0 means a negative result. -/
def Accumulator.result (a : Accumulator) : Nat × Bool := if a.high = 0 then (a.low.toNat, false) else (0, true)

/-- Stage 1's quantities (R136). -/
structure Units where
  total : Nat
  used : Nat
  unused : Nat
  clamped : Bool
  deriving DecidableEq, Repr

/-- R136: what the storm days weigh: 1 each with storm credit on, 2 each with it off. -/
def stormWeight (s : Snapshot) : Nat := if s.stormCredit then s.stormDays else 2 * s.stormDays

/-- R136: unit weighting. A full-used day weighs 2, a no-service day 0. -/
def unitWeighting (s : Snapshot) : Units :=
  let total := 2 * s.days
  let used := 2 * s.fullDays + stormWeight s
  if used < total then { total, used, unused := total - used, clamped := false }
  else if used = total then { total, used, unused := 0, clamped := false }
  else { total, used, unused := 0, clamped := true }

/-- R138: the gross: the unused units' cents, with the remainder cents that fall on them. -/
def grossRefund (u : Units) (q r : Nat) : Nat :=
  if u.unused = 0 then 0
  else shiftAddMultiply 5 q u.unused + if u.used < r then r - u.used else 0

/-- R139: the percent fee, rounded down. -/
def percentFee (gross bp : Nat) : Nat :=
  (longDivide 40 (shiftAddMultiply 14 gross bp) 10000).1

/-- R140: the net and NET_CLAMPED: the fixed fee is subtracted first, the percent fee second. -/
def netRefund (gross fixedFee pctFee : Nat) : Nat × Bool :=
  (((Accumulator.load gross).subtract fixedFee).subtract pctFee).result

/-- R141: the net and BELOW_MINIMUM. -/
def minimumPayout (net minimum : Nat) : Nat × Bool :=
  if 0 < net ∧ net < minimum then (0, true) else (net, false)

/-- R142: the payout and the residue. -/
def cashRounding (net rounding : Nat) : Nat × Nat :=
  let d := longDivide 24 net rounding
  (d.1 * rounding, d.2)

/-- The whole computation: the results of R143 from a snapshot alone (R132). The 120 calculator steps below make it. -/
def computeRefund (s : Snapshot) : Results :=
  let u := unitWeighting s
  let v := longDivide 24 s.price u.total
  let gross := grossRefund u v.1 v.2
  let fee := percentFee gross s.percentFee
  let net := netRefund gross s.fixedFee fee
  let kept := minimumPayout net.1 s.minimum
  let cash := cashRounding kept.1 s.rounding
  { hTotal := u.total, hUsed := u.used, hUnused := u.unused, q := v.1, r := v.2, gross := gross,
    fixedFee := s.fixedFee, percentFee := fee, net := kept.1, payout := cash.1, residue := cash.2,
    flags := { unitsClamped := u.clamped, netClamped := net.2, belowMinimum := kept.2 } }

/-! ## The calculator steps (R132, Table 7.2) -/

/-- The working quantities before the first step: nothing is formed yet. -/
def Working.start : Working where
  quotient := 0
  remainder := 0
  product := 0
  acc := { low := 0, high := 0, borrow := false }
  hTotal := 0
  hUsed := 0
  hUnused := 0
  unitsClamped := false
  q := 0
  r := 0
  gross := 0
  percentFee := 0
  net := 0
  netClamped := false
  belowMinimum := false
  payout := 0
  residue := 0

/-- Bit `j` of the `bits` bits of `n`, counted from the most significant. -/
def bitOf (bits j n : Nat) : Nat := n / 2 ^ (bits - 1 - j) % 2

/-- R134: step `j` of a division over `bits` bits; the first step starts from a partial remainder of 0. -/
def Working.divide (w : Working) (bits j n d : Nat) : Working :=
  let p := divideStep d (bitOf bits j n) (if j = 0 then (0, 0) else (w.quotient, w.remainder))
  { w with quotient := p.1, remainder := p.2 }

/-- R135: step `j` of a multiplication over `bits` bits; the first step starts from a product of 0. -/
def Working.multiply (w : Working) (bits j a b : Nat) : Working :=
  { w with product := multiplyStep a (bitOf bits j b) (if j = 0 then 0 else w.product) }

/-- Stage 1 (R136), 4 steps: the price's units, the weight of the full-used days, that of the storm days, the clamp
(DESIGN CHOICE which step makes which, assumption log 11). -/
def Working.unitStep (w : Working) (x : Snapshot) : Nat → Working
  | 0 => { w with hTotal := 2 * x.days }
  | 1 => { w with hUsed := 2 * x.fullDays }
  | 2 => { w with hUsed := w.hUsed + stormWeight x }
  | _ => { w with
      hUnused := if w.hUsed < w.hTotal then w.hTotal - w.hUsed else 0
      unitsClamped := decide (w.hTotal < w.hUsed) }

/-- Stage 2 (R137), 24 steps: the division of the price by H_total. -/
def Working.valueStep (w : Working) (x : Snapshot) (j : Nat) : Working :=
  let w := w.divide 24 j x.price w.hTotal
  if j = 23 then { w with q := w.quotient, r := w.remainder } else w

/-- Stage 3 (R138), 8 steps: the 5-step multiplication, then the gross from its product, the remainder cents, and the
gross of 0 where no unit is unused (DESIGN CHOICE which of the last three makes which, assumption log 11). -/
def Working.grossStep (w : Working) (j : Nat) : Working :=
  if j < 5 then w.multiply 5 j w.q w.hUnused
  else if j = 5 then { w with gross := w.product }
  else if j = 6 then { w with gross := w.gross + if w.hUsed < w.r then w.r - w.hUsed else 0 }
  else { w with gross := if w.hUnused = 0 then 0 else w.gross }

/-- Stage 4 (R139), 54 steps: the 14-step multiplication and the 40-step division. -/
def Working.feeStep (w : Working) (x : Snapshot) (j : Nat) : Working :=
  if j < 14 then w.multiply 14 j w.gross x.percentFee
  else
    let w := w.divide 40 (j - 14) w.product 10000
    if j = 53 then { w with percentFee := w.quotient } else w

/-- Stage 5 (R140), 4 steps: two for each fee. -/
def Working.netStep (w : Working) (x : Snapshot) : Nat → Working
  | 0 => { w with acc := (Accumulator.load w.gross).subtractLow x.fixedFee }
  | 1 => { w with acc := w.acc.subtractHigh }
  | 2 => { w with acc := w.acc.subtractLow w.percentFee }
  | _ =>
    let acc := w.acc.subtractHigh
    { w with acc := acc, net := acc.result.1, netClamped := acc.result.2 }

/-- Stage 6 (R141), 1 step. -/
def Working.minimumStep (w : Working) (x : Snapshot) : Working :=
  let kept := minimumPayout w.net x.minimum
  { w with net := kept.1, belowMinimum := kept.2 }

/-- Stage 7 (R142), 25 steps: the division of the net by the rounding unit, and the payout. -/
def Working.cashStep (w : Working) (x : Snapshot) (j : Nat) : Working :=
  if j < 24 then w.divide 24 j w.net x.rounding
  else { w with payout := w.quotient * x.rounding, residue := w.remainder }

/-- Calculator step `k`, counted from 0 (Table 7.2). -/
def Working.step (x : Snapshot) (k : Nat) (w : Working) : Working :=
  if k < 4 then w.unitStep x k
  else if k < 28 then w.valueStep x (k - 4)
  else if k < 36 then w.grossStep (k - 28)
  else if k < 90 then w.feeStep x (k - 36)
  else if k < 94 then w.netStep x (k - 90)
  else if k < 95 then w.minimumStep x
  else w.cashStep x (k - 95)

/-- The working quantities after the first `k` steps. -/
def workAfter (x : Snapshot) : Nat → Working
  | 0 => Working.start
  | k + 1 => (workAfter x k).step x k

/-- R143: the results the working quantities give at the completion. -/
def Working.results (w : Working) (x : Snapshot) : Results :=
  { hTotal := w.hTotal, hUsed := w.hUsed, hUnused := w.hUnused, q := w.q, r := w.r, gross := w.gross,
    fixedFee := x.fixedFee, percentFee := w.percentFee, net := w.net, payout := w.payout, residue := w.residue,
    flags := { unitsClamped := w.unitsClamped, netClamped := w.netClamped, belowMinimum := w.belowMinimum } }

/-- A computation at its start (R129). -/
def Computation.start (slot : SlotId) (x : Snapshot) : Computation :=
  { slot := slot, snapshot := x, steps := 0, work := Working.start }

/-- One calculator step; the 120th is the last (R132). -/
def Computation.advance (c : Computation) : Computation :=
  if c.steps < Config.calculatorSteps then
    { c with steps := c.steps + 1, work := c.work.step c.snapshot c.steps }
  else c

/-- `n` calculator steps. -/
def Computation.run : Nat → Computation → Computation
  | 0, c => c
  | n + 1, c => Computation.run n c.advance

/-- R132: the results handed over at the end of the 120th step. -/
def Computation.results (c : Computation) : Results :=
  (c.run (Config.calculatorSteps - c.steps)).work.results c.snapshot

end Sys2Proof.Machine
end

