-- ==== Sys2Proof/Machine/QuoteOps.lean ====
section
/-!
DEFINITION. What the quote commands share: the checks of QUOTE (R148), the acceptance (R149), the start of a
computation (R129, R130), the drop (R150) and the hold expiry (R152).
-/

namespace Sys2Proof.Machine

/-- The last season day on which a refund may be asked: window start + W − 1 + deadline days (R148, R156). -/
def deadlineDay (start window deadlineDays : Nat) : Nat := start + window - 1 + deadlineDays

/-- The purchased days N and the refund policy of a refundable product: present, of kind DAYS, with a policy. -/
def Product.refundTerms (p : Product) : Option (Nat × RefundPolicy) :=
  match p.kind, p.policy with
  | .days n, some policy => some (n, policy)
  | _, _ => none

/-- The product of an entry and its refund terms, if it is refundable (R148, check 3). -/
def State.refundTerms (s : State) (e : PassEntry) : Option (Product × Nat × RefundPolicy) :=
  match s.product? e.product with
  | none => none
  | some p => p.refundTerms.map fun t => (p, t.1, t.2)

/-- The lowest-numbered FREE slot (R149). -/
def State.freeSlot (s : State) : Option SlotId := fourInOrder.find? fun i => (s.slot i).state == .free

/-- The answer of checks 2 to 9 of QUOTE: the slot a quote may take, or the code of the first check that fails. -/
inductive QuoteCheck where
  | slotFree (slot : SlotId)
  | fails (code : StatusCode)
  deriving DecidableEq, Repr

/-- Checks 4 to 6 of QUOTE (R148). -/
def quoteStatusFails : PassStatus → Option StatusCode
  | .blocked => some .blocked
  | .refunded => some .alreadyRefunded
  | .refundHold _ => some .held
  | .active => none

/-- R148, checks 2 to 9, in their order; R151 applies the same. -/
def State.quoteChecks (s : State) (pass : Nat) : QuoteCheck :=
  match s.findPass pass with
  | none => .fails .notFound
  | some e =>
    match s.refundTerms e with
    | none => .fails .notRefundable
    | some (p, _, policy) =>
      match quoteStatusFails e.status with
      | some code => .fails code
      | none =>
        if e.marker.isSome then .fails .pending
        else if deadlineDay e.start p.window policy.deadlineDays < s.today then .fails .deadline
        else
          match s.freeSlot with
          | none => .fails .full
          | some slot => .slotFree slot

/-- The snapshot of a computation (R130). -/
def State.snapshotOf (s : State) (e : PassEntry) (p : Product) (n : Nat) (policy : RefundPolicy) : Snapshot :=
  let c := s.dayCounts e
  { price := e.price, days := n, fullDays := c.fullDays, stormDays := c.stormDays,
    noServiceDays := c.noServiceDays, start := e.start, window := p.window, fixedFee := policy.fixedFee,
    percentFee := policy.percentFee, minimum := policy.minimum, rounding := policy.rounding,
    stormCredit := policy.stormCredit, deadlineDays := policy.deadlineDays }

/-- The snapshot for the pass a slot names, if the pass and its refundable product are there. A held pass and its
product always are (R130). -/
def State.takeSnapshot (s : State) (pass : Nat) : Option Snapshot :=
  match s.findPass pass with
  | none => none
  | some e =>
    match s.refundTerms e with
    | none => none
    | some (p, n, policy) => some (s.snapshotOf e p n policy)

/-- R129: an IDLE calculator with a slot in the queue starts its computation. -/
def State.startComputation (s : State) : State :=
  match s.rfc.busy, s.rfc.queue with
  | none, slot :: rest =>
    match (s.slot slot).state with
    | .queued identity =>
      match s.takeSnapshot identity.pass with
      | some snap =>
        let s := s.setRfc { busy := some (Computation.start slot snap), queue := rest }
        s.setSlot slot { s.slot slot with state := .computing identity snap }
      | none => s
    | _ => s
  | _, _ => s

/-- R149, steps 1 to 3, and the start that follows at once when the calculator is IDLE. -/
def State.acceptQuote (s : State) (slot : SlotId) (pass : Nat) (source : QuoteSource) : State :=
  let s := s.setSlot slot { s.slot slot with state := .queued { pass := pass, source := source } }
  let s := s.updatePass pass fun e => { e with status := .refundHold slot }
  let s := s.setRfc { s.rfc with queue := s.rfc.queue ++ [slot] }
  s.startComputation

/-- R150: a drop's effects on the pass, the slot, the journal and the notices; `next` is the state the slot goes to. -/
def State.dropTo (s : State) (slot : SlotId) (pass : Nat) (reason : DropReason) (next : SlotState) : State :=
  let s := s.updatePass pass fun e => { e with status := .active }
  let s := s.setRfc { s.rfc with queue := s.rfc.queue.filter fun i => i != slot }
  let s := s.setSlot slot { state := next, lastEnding := some { pass := pass, reason := reason } }
  let s := s.writeRecord (.quoteDropped pass slot reason)
  s.raise (.quoteEnded slot)

/-- R150: a quote that ends without being settled: FREE, or CANCELLING if it was COMPUTING. -/
def State.dropQuote (s : State) (slot : SlotId) (reason : DropReason) : State :=
  match (s.slot slot).state with
  | .queued i => s.dropTo slot i.pass reason .free
  | .computing i _ => s.dropTo slot i.pass reason .cancelling
  | .quoted i _ _ _ => s.dropTo slot i.pass reason .free
  | .free | .cancelling => s

/-- R17, step 3, R161: at a warm restart a slot is freed, a CANCELLING one without a record. -/
def State.restartSlot (s : State) (slot : SlotId) : State :=
  match (s.slot slot).state with
  | .queued i => s.dropTo slot i.pass .restart .free
  | .computing i _ => s.dropTo slot i.pass .restart .free
  | .quoted i _ _ _ => s.dropTo slot i.pass .restart .free
  | .cancelling => s.setSlot slot { s.slot slot with state := .free }
  | .free => s

/-- R152: the slot is QUOTED and the current stamp is at or above its hold expiry stamp. -/
def State.holdDue (s : State) (slot : SlotId) : Bool :=
  match (s.slot slot).state with
  | .quoted _ _ _ expiry => decide (expiry ≤ s.stamp)
  | .free | .queued _ | .computing .. | .cancelling => false

/-- R152: a slot whose hold is due is dropped with reason EXPIRED. -/
def State.expireHold (s : State) (slot : SlotId) : State :=
  if s.holdDue slot then s.dropQuote slot .expired else s

/-- R152: holds that fall due at one event are dropped in slot order 0 to 3. -/
def State.expireHolds (s : State) : State := fourInOrder.foldl (fun s slot => s.expireHold slot) s

/-- What every move of the stamp can bring: the expiries of R109 and R152 (assumption log 10). -/
def State.stampMoved (s : State) : State := s.expirePassback.expireHolds

end Sys2Proof.Machine
end

