-- ==== Sys2Proof/Machine/RiderOps.lean ====
section
/-!
DEFINITION. What the rider counting shares: the beam detector (Table 6.1) and the matching lists (R116 to R119).
-/

namespace Sys2Proof.Machine

/-- Table 6.1: the detector's move at a beam change, and whether it recognises an ENTRY. A change the table does not
list for the state goes to IDLE without one (R114). -/
def detectorMove (d : DetectorState) (beam : Beam) (blocked : Bool) : DetectorState × Bool :=
  match d, beam, blocked with
  | .idle, .a, true => (.outer, false)
  | .outer, .b, true => (.both, false)
  | .both, .a, false => (.inner, false)
  | .inner, .a, true => (.both, false)
  | .inner, .b, false => (.idle, true)
  | _, _, _ => (.idle, false)

/-- The item that joins a matching list now (R116). -/
def State.newItem (s : State) : MatchItem := { stamp := s.stamp, window := s.rcc.site.matchWindow }

/-- R119: an UNDER rider. -/
def State.underRider (s : State) (l : LaneId) : State :=
  (s.countRider l .under).writeRecord (.rider l .under)

/-- R119: room for one more item: of a full list the oldest item leaves. -/
def makeRoom (items : List MatchItem) : List MatchItem :=
  if items.length < Config.matchItems then items else items.drop 1

/-- R117: the rotation meets the lists: the oldest entry item is matched, or the rotation joins its list. -/
def Lane.takeRotation (x : Lane) (item : MatchItem) : Lane :=
  match x.entries with
  | _ :: rest => { x with entries := rest }
  | [] => { x with rotations := makeRoom x.rotations ++ [item] }

/-- R117: every rotation is counted as a rider at the handover, then matched or held. -/
def State.handRotation (s : State) (l : LaneId) (cat : RiderCategory) : State :=
  let s := s.countRider l cat
  s.setLane l ((s.lane l).takeRotation s.newItem)

/-- The entry list is full and an ENTRY is about to join it (R119). -/
def Lane.entryOverflows (x : Lane) : Bool :=
  x.rotations.isEmpty && decide (Config.matchItems ≤ x.entries.length)

/-- R118: the ENTRY meets the lists: the oldest rotation item is matched, or the ENTRY joins its list. -/
def Lane.takeEntry (x : Lane) (item : MatchItem) : Lane :=
  match x.rotations with
  | _ :: rest => { x with rotations := rest }
  | [] => { x with entries := makeRoom x.entries ++ [item] }

/-- R118, R119: every ENTRY is matched or held; an overflowing entry item is an UNDER rider. -/
def State.handEntry (s : State) (l : LaneId) : State :=
  let overflow := (s.lane l).entryOverflows
  let s := s.setLane l ((s.lane l).takeEntry s.newItem)
  if overflow then s.underRider l else s

end Sys2Proof.Machine
end

