-- ==== Sys2Proof/Machine/Admission.lean ====
section
/-!
DEFINITION. Chapter 5: the grant and its thirteen checks, the admit, the commit, and the Passback List's requests.
-/

namespace Sys2Proof.Machine

/-! ## The checks (R92) -/

/-- Checks 1 to 3 (R93): the cause of the first that fails. -/
def State.partCause (s : State) : Option RefusalCause :=
  if s.clockRunning = false then some .noClock
  else if s.rcc.mode = .setup then some .setupMode
  else
    match s.rcc.lift with
    | .isOpen => none
    | .closed => some .liftClosed
    | .hold => some .liftHold

/-- Check 6 (R94): the cause a status fails with. -/
def statusCause : PassStatus → Option RefusalCause
  | .active => none
  | .blocked => some .blocked
  | .refunded => some .refunded
  | .refundHold _ => some .held

/-- Check 8 (R94): the wall minute lies within the product's hours. -/
def Product.isOpenAt (p : Product) (minute : Nat) : Bool :=
  decide (p.openMinute ≤ minute) && decide (minute < p.closeMinute)

/-- Check 11 (R95): the pass may use the day of this offset. -/
def PassEntry.dayAllowed (e : PassEntry) (p : Product) (offset : Nat) : Bool :=
  match p.kind with
  | .season => true
  | .days n => decide (offset ∈ e.daysUsed) || decide (e.daysUsed.length < n)

/-- Check 13 (R96): the passback list holds an entry for the pass number. -/
def State.inPassback (s : State) (pass : Nat) : Bool := s.pbl.entries.any fun x => x.pass == pass

/-- Checks 6 to 13, against an entry and its present product. -/
def State.entryCause (s : State) (e : PassEntry) (p : Product) : Option RefusalCause :=
  match statusCause e.status with
  | some c => some c
  | none =>
    if p.liftMask.getLsbD s.rcc.site.liftNumber = false then some .notThisLift
    else if p.isOpenAt s.wallMinute = false then some .outOfHours
    else if s.today < e.start then some .notYet
    else if e.start + p.window - 1 < s.today then some .expired
    else if e.dayAllowed p (s.today - e.start) = false then some .daysUsedUp
    else if e.marker.isSome then some .inLane
    else if s.inPassback e.pass then some .passback
    else none

/-- Checks 4 to 13. -/
def State.passCause (s : State) (pass : Nat) : Option RefusalCause :=
  match s.findPass pass with
  | none => some .unknown
  | some e =>
    match s.product? e.product with
    | none => some .noProduct
    | some p => s.entryCause e p

/-- R92: the decision on a GATE or TEST request. -/
def State.decisionOn (s : State) (pass : Nat) : Decision :=
  match s.partCause with
  | some c => .refusedWith c
  | none =>
    match s.passCause pass with
    | some c => .refusedWith c
    | none => .admitted

/-! ## Admit (R99, R107, R70) -/

/-- R107: the oldest COMMITTED entry is evicted from a full list. -/
def PassbackList.makeRoom (b : PassbackList) : PassbackList :=
  if b.entries.length < Config.passbackCapacity then b
  else
    { b with
      entries := b.entries.eraseP PassbackEntry.isCommitted
      evictions := satAdd Config.count16Ceiling b.evictions 1 }

/-- R107: a PENDING entry joins the young end. -/
def PassbackList.insertPending (b : PassbackList) (pass : Nat) (l : LaneId) : PassbackList :=
  let b := b.makeRoom
  { b with entries := b.entries ++ [{ pass := pass, phase := .pending l }] }

/-- R99, in its order. -/
def State.admitPass (s : State) (l : LaneId) (pass : Nat) : State :=
  let s := s.updatePass pass fun e => { e with marker := some { lane := l, day := s.today } }
  let s := s.setPbl (s.pbl.insertPending pass l)
  let s := s.countLane l fun c => { c with admittedCount := bump c.admittedCount }
  s.setLane l { s.lane l with unlockTimer := some (s.lane l).unlockTimeout, display := none }

/-! ## The decisions at the lanes -/

/-- R67: a GATE request's decision reaches its lane. -/
def State.gateDecision (s : State) (l : LaneId) (pass : Nat) : State :=
  match s.decisionOn pass with
  | .admitted => s.admitPass l pass
  | .refusedWith c => s.refuse l c (some pass)

/-- The display indication of a TEST decision (R86). -/
def Decision.displayShow : Decision → DisplayShow
  | .admitted => .served
  | .refusedWith _ => .refusal

/-- R86: a TEST request's decision reaches its lane. -/
def State.testDecision (s : State) (l : LaneId) (pass : Nat) (tag : Byte) : State :=
  let d := s.decisionOn pass
  let s := s.startDisplay l d.displayShow
  let s := s.writeRecord (.test l pass d)
  let s := s.countLane l fun c => { c with testReads := bump c.testReads }
  s.answer .laneInject tag .ok (.testDecision d)

/-- The purchased days N a lookup shows: present for a present DAYS product (R97). -/
def State.lookupDays (s : State) (e : PassEntry) : Option Nat :=
  match s.product? e.product with
  | some p =>
    match p.kind with
    | .days n => some n
    | .season => none
  | none => none

/-- R97: the lookup result. -/
def State.lookup (s : State) (pass : Nat) : LookupResult :=
  match s.findPass pass with
  | none =>
    { pass := pass, status := none, product := none, days := none,
      counts := { fullDays := 0, stormDays := 0, noServiceDays := 0 } }
  | some e =>
    { pass := pass, status := some e.status, product := some e.product, days := s.lookupDays e,
      counts := s.dayCounts e }

/-- R84, step 3, R151: the auto-quote outcome, and the state it leaves. -/
def State.autoQuote (s : State) (l : LaneId) (pass : Nat) : State × QuoteItem :=
  if (s.lane l).autoQuote = false then (s, .autoQuoteOff)
  else if s.rcc.mode = .setup then (s, .refusedWith .wrongMode)
  else
    match s.quoteChecks pass with
    | .fails code => (s, .refusedWith code)
    | .slotFree slot => (s.acceptQuote slot pass (.desk l), .opened slot)

/-- R84: a desk lane receives a lookup result. -/
def State.serveLookup (s : State) (l : LaneId) (r : LookupResult) : State :=
  let s := s.countLane l fun c => { c with deskReads := bump c.deskReads }
  let q := s.autoQuote l r.pass
  let s := q.1.raise (.deskRead l { lookup := r, quote := q.2 })
  s.startDisplay l .served

/-- R97: a DESK request's decision reaches its lane. -/
def State.deskDecision (s : State) (l : LaneId) (pass : Nat) : State :=
  if s.clockRunning = false then s.refuse l .noClock (some pass)
  else s.serveLookup l (s.lookup pass)

/-! ## The grant (R89) -/

/-- R89: the lanes in turn from the pointer onwards. -/
def lanesFrom (p : LaneId) : List LaneId := [p, p + 1, p + 2, p + 3]

/-- R89: the lane whose request is granted. -/
def State.grantedLane (s : State) : Option LaneId := (lanesFrom s.ae.pointer).find? fun l => s.isWaiting l

/-- R89: the granted request leaves the set and the pointer goes to the lane after. -/
def State.leaveSet (s : State) (l : LaneId) : State :=
  s.setAe { waiting := s.ae.waiting.set l none, pointer := l + 1 }

/-- R90: the granted request is evaluated, by its kind, and its decision handed to its lane. -/
def State.evaluate (s : State) (l : LaneId) (r : LaneRequest) : State :=
  match r.kind with
  | .gate => s.gateDecision l r.pass
  | .test tag => s.testDecision l r.pass tag
  | .desk => s.deskDecision l r.pass

/-- R89: one grant; with no request waiting none is made (assumption log 9). -/
def State.grant (s : State) : State :=
  match s.grantedLane with
  | none => s
  | some l =>
    match s.ae.waiting.get l with
    | none => s
    | some r => (s.leaveSet l).evaluate l r

/-! ## Rotation and commit -/

/-- The purchased days N that bound the days-used set: for a present DAYS product (R100, step 3). -/
def State.allowance (s : State) (e : PassEntry) : Option Nat := s.lookupDays e

/-- R100, step 3: the decision day is a new day for the pass. -/
def isNewDay (allowance : Option Nat) (days : List Nat) (offset : Nat) : Bool :=
  match allowance with
  | none => false
  | some n => decide (offset ∉ days) && decide (days.length < n)

/-- R100, steps 2 to 5: the usage part after a commit of decision day `day`. -/
def commitUsage (u : Usage) (day offset : Nat) (isNew : Bool) (passage : Passage) : Usage :=
  { firstUse := min u.firstUse day
    days := if isNew then insertOffset offset u.days else u.days
    rides := satAdd Config.count16Ceiling u.rides 1
    last := some passage }

/-- The usage part a commit finds, created if absent (R100, step 2). -/
def PassEntry.usageForCommit (e : PassEntry) (day : Nat) : Usage :=
  e.usage.getD { firstUse := day, days := [], rides := 0, last := none }

/-- R101, step 1, R108: the pass's entry becomes COMMITTED and moves to the young end. -/
def PassbackList.commit (b : PassbackList) (pass stamp : Nat) : PassbackList :=
  { b with
    entries := (b.entries.filter fun x => !(x.pass == pass)) ++ [{ pass := pass, phase := .committed stamp }] }

/-- R101, step 3: the paid count, and the new days count when a day was added. -/
def State.countPaid (s : State) (l : LaneId) (isNew : Bool) : State :=
  let s := s.countLane l fun c => { c with paid := bump c.paid }
  if isNew then s.setToday { s.tally.today with newDays := bump s.tally.today.newDays } else s

/-- R100, R101: the commit of the admission of an entry with its marker. -/
def State.commitEntry (s : State) (l : LaneId) (e : PassEntry) (m : AdmissionMarker) : State :=
  let u := e.usageForCommit m.day
  let offset := m.day - e.start
  let isNew := isNewDay (s.allowance e) u.days offset
  let v := commitUsage u m.day offset isNew { stamp := s.stamp, lane := l }
  let s := s.updatePass e.pass fun x => { x with marker := none, usage := some v }
  let s := s.setPbl (s.pbl.commit e.pass s.stamp)
  let s := s.writeRecord (.passage l e.pass isNew v.rides)
  s.countPaid l isNew

/-- The entry and marker of the admission pending at a lane (R100). -/
def State.pendingEntry (s : State) (l : LaneId) : Option (PassEntry × AdmissionMarker) :=
  match s.pendingPass l with
  | none => none
  | some p =>
    match s.findPass p with
    | none => none
    | some e => e.marker.map fun m => (e, m)

/-- R71: a rotation at an UNLOCKED lane. A commit under an interval of 0 expires at once (R109). Where the marker of
the pending admission is missing nothing is done (assumption log 12). -/
def State.paidRotation (s : State) (l : LaneId) : State :=
  match s.pendingEntry l with
  | none => s
  | some (e, m) =>
    let s := s.commitEntry l e m
    let s := s.handRotation l .paid
    let s := s.setLane l { s.lane l with unlockTimer := none }
    s.expirePassback

/-- R74: a FREE rotation. -/
def State.freeRotation (s : State) (l : LaneId) : State :=
  (s.handRotation l .free).writeRecord (.rider l .free)

/-- R74: a FORCED rotation. -/
def State.forcedRotation (s : State) (l : LaneId) : State :=
  let s := s.handRotation l .forced
  let s := s.setLane l { (s.lane l).soundAlarm with forcedStamp := s.stamp }
  let s := s.raise (.laneAlarm l)
  s.writeRecord (.rider l .forced)

/-- R71, R74: a rotation at a GATE lane. -/
def State.rotate (s : State) (l : LaneId) : State :=
  if (s.pendingPass l).isSome then s.paidRotation l
  else if (s.lane l).armOverride = .free then s.freeRotation l
  else s.forcedRotation l

/-- R71: a rotation pulse. An input that is not watched has no effect (R59). -/
def State.rotation (s : State) (l : LaneId) : State := if (s.lane l).role = .gate then s.rotate l else s

/-- R72: the unlock timer expires. An expiry at a lane not in UNLOCKED does not occur (assumption log 9). -/
def State.unlockExpiry (s : State) (l : LaneId) : State :=
  if (s.lane l).unlockTimer.isSome && s.laneState l == .unlocked then s.lapse l .timeout else s

/-! ## The Passback List -/

/-- R105: the owner of PASSBACK_SET; the new interval applies at once (R109). -/
def State.passbackSetRequest (s : State) (tag : Byte) (interval : Nat) : State :=
  if 3600 < interval then s.answerCode .passbackSet tag .badValue
  else ((s.setPbl { s.pbl with interval := interval }).expirePassback).answerCode .passbackSet tag .ok

end Sys2Proof.Machine
end

