-- ==== Sys2Proof/Machine/Clock.lean ====
section
/-!
DEFINITION. Chapter 1: the resets, the modes, the site configuration, the clock, the lift status, the calendar,
and the second advance.
-/

namespace Sys2Proof.Machine

/-! ## The clock and the day -/

/-- The clock at a new state, day and second. -/
def State.setClockTo (s : State) (st : ClockState) (day second : Nat) : State :=
  s.setRcc { s.rcc with clock := { state := st, day := day, second := second } }

/-- R126: the finished day's set moves to the previous set, DAY_ROLL is written from it, and today's set is cleared
with the admitted preset and the new day. -/
def State.moveTally (s : State) (finished : Nat) : State :=
  let t := s.tally.today
  let s := s.setTally { s.tally with previous := t }
  let s := s.writeRecord (.dayRoll finished t.riders t.newDays t.refundsSettled t.payoutTotal)
  s.setToday (s.clearedSet (some s.today))

/-- R3: the finished day is announced to the Passback List, the Rider Tally, the Journal and the Notice Latch. -/
def State.announceDay (s : State) (finished : Nat) : State :=
  ((s.clearCommitted).moveTally finished).raise .dayRolled

/-- R3: a rollover on days 0 to 238. -/
def State.rollOver (s : State) : State :=
  (s.setClockTo s.rcc.clock.state (s.today + 1) 0).announceDay s.today

/-- R4: the rollover of day 239 ends the season, in three parts. -/
def State.endSeason (s : State) : State :=
  let s := s.setClockTo .expired 239 86399
  let s := s.lapseAll .seasonEnd
  let s := s.announceDay 239
  s.raise .clockExpired

/-- R2: one second of the timebase. -/
def State.advanceSecond (s : State) : State :=
  match s.rcc.clock.state with
  | .unset | .expired => s
  | .running =>
    let s :=
      if s.rcc.clock.second < 86399 then
        s.setClockTo .running s.rcc.clock.day (s.rcc.clock.second + 1)
      else if s.rcc.clock.day < 239 then s.rollOver
      else s.endSeason
    s.stampMoved

/-- R5: SET_CLOCK in SETUP. -/
def State.setClockInSetup (s : State) (day second : Nat) : State :=
  let s := s.setClockTo .running day second
  let s := s.clearCommitted
  let s := s.setToday { s.tally.today with day := some day }
  s.stampMoved

/-- R6: SET_CLOCK in RUN, for the same day or a later one. -/
def State.setClockInRun (s : State) (day second : Nat) : State :=
  let old := s.rcc.clock.day
  let s := s.setClockTo .running day second
  let s := if old < day then s.announceDay old else s
  s.stampMoved

/-- R5, R6: the owner of SET_CLOCK. -/
def State.setClockRequest (s : State) (tag : Byte) (day second : Nat) : State :=
  if 239 < day ∨ 86399 < second then s.answerCode .setClock tag .badValue
  else
    match s.rcc.mode with
    | .setup => (s.setClockInSetup day second).answerCode .setClock tag .ok
    | .run =>
      if day < s.rcc.clock.day then s.answerCode .setClock tag .backward
      else (s.setClockInRun day second).answerCode .setClock tag .ok

/-! ## Site configuration, lift status, calendar -/

/-- R8: the owner of SITE_CONFIG. -/
def State.siteConfigRequest (s : State) (tag : Byte) (f : SiteFields) : State :=
  match s.rcc.mode with
  | .run => s.answerCode .siteConfig tag .wrongMode
  | .setup =>
    match siteOf f with
    | none => s.answerCode .siteConfig tag .badValue
    | some c => (s.setRcc { s.rcc with site := c }).answerCode .siteConfig tag .ok

/-- R10, R11: the lift status takes a different value; a close lapses every pending admission, the LIFT record
standing before the LAPSED ones. -/
def State.changeLift (s : State) (v : LiftStatus) : State :=
  let s := s.setRcc { s.rcc with lift := v }
  let s := s.writeRecord (.lift v)
  if v = .closed then s.lapseAll .liftClosed else s

/-- R10: the owner of LIFT_STATUS. -/
def State.liftStatusRequest (s : State) (tag value : Byte) : State :=
  match liftStatusOf value with
  | none => s.answerCode .liftStatus tag .badValue
  | some v =>
    if s.rcc.lift = v then s.answerCode .liftStatus tag .ok
    else (s.changeLift v).answerCode .liftStatus tag .ok

/-- R12: the owner of CALENDAR_MARK. -/
def State.calendarMarkRequest (s : State) (tag : Byte) (day : Nat) (mark : Byte) : State :=
  match dayMarkOf mark with
  | none => s.answerCode .calendarMark tag .badValue
  | some m =>
    if 239 < day then s.answerCode .calendarMark tag .badValue
    else
      (s.setRcc { s.rcc with calendar := s.rcc.calendar.setIfInBounds day m }).answerCode .calendarMark tag .ok

/-! ## Operating modes -/

/-- The mode changes, with its MODE record (R15, R16, R17). -/
def State.changeMode (s : State) (m : Mode) (cause : ModeCause) : State :=
  (s.setRcc { s.rcc with mode := m }).writeRecord (.mode m cause)

/-- R15: the owner of RUN. -/
def State.runRequest (s : State) (tag : Byte) : State :=
  if s.clockRunning = false then s.answerCode .run tag .notReady
  else if s.rcc.mode = .run then s.answerCode .run tag .ok
  else (s.changeMode .run .request).answerCode .run tag .ok

/-- R16: an admission is pending at some lane, or some quote slot is not FREE. -/
def State.workInFlight (s : State) : Bool :=
  fourInOrder.any fun i => (s.pendingPass i).isSome || (s.slot i).state != .free

/-- R16: the owner of SETUP. -/
def State.setupRequest (s : State) (tag : Byte) : State :=
  if s.rcc.mode = .setup then s.answerCode .setup tag .ok
  else if s.workInFlight then s.answerCode .setup tag .busy
  else (s.changeMode .setup .request).answerCode .setup tag .ok

/-! ## Resets -/

/-- Table 4.9, Table 6.3: what a warm restart does to a lane once its admission has lapsed. -/
def Lane.restart (x : Lane) : Lane :=
  { x.endAlarm with
    armOverride := .auto
    greenOverride := .auto
    amberOverride := .auto
    redOverride := .auto
    buzzerOverride := .auto
    display := none
    detector := .idle
    rotations := []
    entries := [] }

/-- R44: a transfer open at a warm restart is closed with RESTARTED. -/
def Transfer.restart (t : Transfer) : Transfer :=
  if t.condition = .isOpen then { t with condition := .restarted } else t

/-- R17, step 4: the lift is CLOSED after the restart, with a LIFT record if it was not. -/
def State.restartLift (s : State) : State :=
  if s.rcc.lift = .closed then s
  else (s.setRcc { s.rcc with lift := .closed }).writeRecord (.lift .closed)

/-- R17: the effects of a warm restart, in their order. -/
def State.warmRestart (s : State) : State :=
  let s := s.setNotices { s.notices with pending := [] }
  let s := s.withdrawAll
  let s := s.lapseAll .restart
  let s := s.setAe { s.ae with pointer := 0 }
  let s := fourInOrder.foldl (fun s i => s.restartSlot i) s
  let s := s.setRfc { busy := none, queue := [] }
  let s := s.restartLift
  let s := s.changeMode .setup .restart
  let s := s.setXfer s.xfer.restart
  s.setLanes (s.lanes.map Lane.restart)

/-- R17: the owner of RESTART: answered OK after all its effects have been made. -/
def State.restartRequest (s : State) (tag : Byte) : State := s.warmRestart.answerCode .restart tag .ok

/-- R176: every block at its cold values, the straps sampled at the end. The lane input levels are the world's and stay
(assumption log 7). -/
def State.coldReset (s : State) (rate1 rate0 : Bool) : State :=
  (State.cold { rate1 := rate1, rate0 := rate0 } s.lanes).setPending s.pending

end Sys2Proof.Machine
end

