-- ==== Sys2Proof/Machine/LaneUnit.lean ====
section
/-!
DEFINITION. Chapter 4: the Lane Units' requests, their reads, their fault latches and their timers.
-/

namespace Sys2Proof.Machine

/-! ## LANE_CONFIG -/

/-- The fields of LANE_CONFIG, in their ranges (R60). -/
structure LaneFields where
  lane : LaneId
  role : Role
  timeout : Nat
  autoQuote : Bool
  deriving DecidableEq, Repr

/-- R60: the fields carried, if each is in its range and auto-quote is on for a DESK lane only. -/
def laneFieldsOf (lane role timeout autoQuote : Byte) : Option LaneFields :=
  match fourOf lane, roleOf role, boolOf autoQuote with
  | some l, some r, some q =>
    if 2 ≤ timeout.toNat ∧ timeout.toNat ≤ 30 ∧ (q = true → r = .desk) then
      some { lane := l, role := r, timeout := timeout.toNat, autoQuote := q }
    else none
  | _, _, _ => none

/-- The stuck timer of an input that a lane finds stuck when it becomes GATE (R61). -/
def stuckTimer (role : Role) (stuck : Bool) (duration : Nat) : Option Nat :=
  if role = .gate ∧ stuck = true then some duration else none

/-- R61: the lane afresh under its new role. -/
def Lane.afresh (x : Lane) (site : SiteConfig) (f : LaneFields) : Lane :=
  { role := f.role
    unlockTimeout := f.timeout
    autoQuote := f.autoQuote
    beamA := x.beamA
    beamB := x.beamB
    armRest := x.armRest
    silentCount := 0
    lossPresent := false
    recoveryCount := 0
    latches := LatchSet.empty
    beamATimer := stuckTimer f.role x.beamA site.beamStuck
    beamBTimer := stuckTimer f.role x.beamB site.beamStuck
    armTimer := stuckTimer f.role (!x.armRest) site.armStuck
    unlockTimer := none
    armOverride := .auto
    greenOverride := .auto
    amberOverride := .auto
    redOverride := .auto
    buzzerOverride := .auto
    display := none
    pattern := x.endAlarm.pattern
    alarmTimer := false
    forcedStamp := 0
    detector := .idle
    rotations := []
    entries := [] }

/-- R61: the effects of a change of role. -/
def State.changeRole (s : State) (f : LaneFields) : State :=
  let s := s.withdraw f.lane
  let wasLatched := (s.lane f.lane).latches.any
  let s := s.setLane f.lane ((s.lane f.lane).afresh s.rcc.site f)
  if wasLatched then s.writeRecord (.faultCleared f.lane) else s

/-- R60: a LANE_CONFIG that keeps the role changes the two other fields only. -/
def State.keepRole (s : State) (f : LaneFields) : State :=
  s.setLane f.lane { s.lane f.lane with unlockTimeout := f.timeout, autoQuote := f.autoQuote }

/-- R60: a LANE_CONFIG that is taken. -/
def State.configureLane (s : State) (f : LaneFields) : State :=
  if (s.lane f.lane).role = f.role then s.keepRole f else s.changeRole f

/-- R60: the owner of LANE_CONFIG. -/
def State.laneConfigRequest (s : State) (tag lane role timeout autoQuote : Byte) : State :=
  match s.rcc.mode with
  | .run => s.answerCode .laneConfig tag .wrongMode
  | .setup =>
    match laneFieldsOf lane role timeout autoQuote with
    | none => s.answerCode .laneConfig tag .badValue
    | some f => (s.configureLane f).answerCode .laneConfig tag .ok

/-! ## LANE_OUTPUT -/

/-- R77: the arm override takes a value; a LOCK lapses the pending admission and withdraws the waiting request. -/
def State.setArm (s : State) (l : LaneId) (v : ArmOverride) : State :=
  if (s.lane l).armOverride = v then s
  else
    let s := s.setLane l { s.lane l with armOverride := v }
    if v = .lock then (s.lapse l .locked).withdraw l else s

/-- R76: the override of a lamp or of the buzzer takes a value. -/
def Lane.setOverride (x : Lane) (o : LaneOutput) (v : OutputOverride) : Lane :=
  match o with
  | .arm => x
  | .green => { x with greenOverride := v }
  | .amber => { x with amberOverride := v }
  | .red => { x with redOverride := v }
  | .buzzer => { x with buzzerOverride := v }

/-- R76: the effect of a LANE_OUTPUT, none if its value is not one the output takes. -/
def State.outputEffect (s : State) (l : LaneId) (o : LaneOutput) (value : Byte) : Option State :=
  match o with
  | .arm =>
    if (s.lane l).role = .gate then (armOverrideOf value).map fun v => s.setArm l v else none
  | .green | .amber | .red | .buzzer =>
    if (s.lane l).role = .off then none
    else (outputOverrideOf value).map fun v => s.setLane l ((s.lane l).setOverride o v)

/-- R76: the owner of LANE_OUTPUT. -/
def State.laneOutputRequest (s : State) (tag lane output value : Byte) : State :=
  match fourOf lane, laneOutputOf output with
  | some l, some o =>
    match s.outputEffect l o value with
    | some s' => s'.answerCode .laneOutput tag .ok
    | none => s.answerCode .laneOutput tag .badValue
  | _, _ => s.answerCode .laneOutput tag .badValue

/-! ## LANE_CLEAR -/

/-- The condition of a fault latch is present (Table 4.7). -/
def Lane.conditionPresent (x : Lane) : FaultLatch → Bool
  | .readerLost => x.lossPresent
  | .beamStuck => x.beamA || x.beamB
  | .armStuck => !x.armRest

/-- R82: the latches that stay set. -/
def Lane.latchesLeft (x : Lane) : LatchSet :=
  { readerLost := x.latches.readerLost && x.conditionPresent .readerLost
    beamStuck := x.latches.beamStuck && x.conditionPresent .beamStuck
    armStuck := x.latches.armStuck && x.conditionPresent .armStuck }

/-- R82: the examination of a lane's latches. A lane with none set is answered OK with the empty set (assumption
log 14). -/
def State.clearLane (s : State) (tag : Byte) (l : LaneId) : State :=
  let left := (s.lane l).latchesLeft
  let wasLatched := (s.lane l).latches.any
  let s := s.setLane l { s.lane l with latches := left }
  if left.any then s.answer .laneClear tag .conditionPresent (.latchedSet left)
  else
    let s := if wasLatched then s.writeRecord (.faultCleared l) else s
    s.answer .laneClear tag .ok (.latchedSet left)

/-- R82: the owner of LANE_CLEAR. -/
def State.laneClearRequest (s : State) (tag lane : Byte) : State :=
  match fourOf lane with
  | none => s.answerCode .laneClear tag .badValue
  | some l => s.clearLane tag l

/-! ## Reads and LANE_INJECT -/

/-- R67, R83, R85: a lane in READY places a request in the waiting set. -/
def State.submit (s : State) (l : LaneId) (pass : Nat) (kind : RequestClass) : State :=
  s.setAe { s.ae with waiting := s.ae.waiting.set l (some { pass := pass, kind := kind }) }

/-- R85: the owner of LANE_INJECT. The reply of a taken one is deferred. -/
def State.laneInjectRequest (s : State) (tag lane : Byte) (pass : Nat) : State :=
  match fourOf lane with
  | none => s.answerCode .laneInject tag .badValue
  | some l =>
    if legalPass pass = false then s.answerCode .laneInject tag .badValue
    else if s.laneState l = .ready then s.submit l pass (.test tag)
    else s.answerCode .laneInject tag .busy

/-- R68: a read is discarded with a chirp. -/
def State.discardRead (s : State) (l : LaneId) : State := s.setLane l ((s.lane l).soundShort .chirp)

/-- The cause a CLOSED lane refuses a read with (R66, case 3). -/
def State.closedCause (s : State) : RefusalCause :=
  if s.rcc.mode = .setup then .setupMode
  else if s.rcc.lift = .closed then .liftClosed
  else .noClock

/-- A read in READY: a READ is submitted, a BAD_READ refused (R66, R83). -/
def State.readyRead (s : State) (l : LaneId) (kind : RequestClass) : Option Nat → State
  | some pass => s.submit l pass kind
  | none => s.refuse l .unreadable none

/-- R66: a read at a GATE lane; `pass` is absent for a BAD_READ. -/
def State.gateRead (s : State) (l : LaneId) (pass : Option Nat) : State :=
  if s.laneState l = .fault then s.refuse l .laneFault pass
  else if (s.lane l).armOverride = .lock then s.refuse l .laneLocked pass
  else
    match s.laneState l with
    | .closed => s.refuse l s.closedCause pass
    | .ready => s.readyRead l .gate pass
    | .waiting | .unlocked | .fault | .off => s.discardRead l

/-- R83: a read at a DESK lane. -/
def State.deskRead (s : State) (l : LaneId) (pass : Option Nat) : State :=
  if s.laneState l = .fault then s.refuse l .laneFault pass
  else if s.clockRunning = false then s.refuse l .noClock pass
  else if s.laneState l = .ready then s.readyRead l .desk pass
  else s.discardRead l

/-- A read at a lane, by its role (R62). -/
def State.read (s : State) (l : LaneId) (pass : Option Nat) : State :=
  match (s.lane l).role with
  | .gate => s.gateRead l pass
  | .desk => s.deskRead l pass
  | .off => s

/-- R63: a SILENT outcome's count. -/
def Lane.silent (x : Lane) : Lane :=
  { x with silentCount := min 64 (x.silentCount + 1), recoveryCount := 0 }

/-- R63: a SILENT outcome; at the threshold the loss condition becomes present and READER_LOST is latched. -/
def State.pollSilent (s : State) (l : LaneId) : State :=
  let s := s.setLane l (s.lane l).silent
  if s.rcc.site.readerLoss ≤ (s.lane l).silentCount then
    (s.setLane l { s.lane l with lossPresent := true }).latchFault l .readerLost
  else s

/-- R63: an IDLE, READ or BAD_READ outcome's effect on reader health. -/
def Lane.healthy (x : Lane) : Lane :=
  if x.lossPresent then
    if x.recoveryCount = 0 then { x with silentCount := 0, recoveryCount := 1 }
    else { x with silentCount := 0, recoveryCount := 0, lossPresent := false }
  else { x with silentCount := 0 }

/-- R63, on the state. -/
def State.pollHealthy (s : State) (l : LaneId) : State := s.setLane l (s.lane l).healthy

/-- R62: a READ of an illegal pass number is taken as a BAD_READ. -/
def readPass (pass : Nat) : Option Nat := if legalPass pass then some pass else none

/-- R62: a poll outcome at a lane that polls. -/
def State.poll (s : State) (l : LaneId) : PollOutcome → State
  | .silent => s.pollSilent l
  | .idle => s.pollHealthy l
  | .badRead => (s.pollHealthy l).read l none
  | .read pass => (s.pollHealthy l).read l (readPass pass.toNat)

/-- R62: a poll outcome. The Lane Unit of an OFF lane does not poll (assumption log 9). -/
def State.pollOutcome (s : State) (l : LaneId) (o : PollOutcome) : State :=
  if (s.lane l).role = .off then s else s.poll l o

/-! ## The arm rest input and the stuck timers -/

/-- R80: the arm timer starts when the arm rest input becomes absent and stops when it returns, at a GATE lane. -/
def Lane.armMoved (x : Lane) (present : Bool) (duration : Nat) : Lane :=
  { x with
    armRest := present
    armTimer := if x.role = .gate then (if present then none else some duration) else x.armTimer }

/-- R80: a change of the arm rest input. A level already held is no change (assumption log 8). -/
def State.armRestChange (s : State) (l : LaneId) (present : Bool) : State :=
  if (s.lane l).armRest = present then s
  else s.setLane l ((s.lane l).armMoved present s.rcc.site.armStuck)

/-- R80: a beam timer's expiry latches BEAM_STUCK. -/
def State.beamStuckExpiry (s : State) (l : LaneId) (beam : Beam) : State :=
  match (s.lane l).beamTimer beam with
  | none => s
  | some _ => (s.setLane l ((s.lane l).setBeamTimer beam none)).latchFault l .beamStuck

/-- R80: the arm timer's expiry latches ARM_STUCK. -/
def State.armStuckExpiry (s : State) (l : LaneId) : State :=
  match (s.lane l).armTimer with
  | none => s
  | some _ => (s.setLane l { s.lane l with armTimer := none }).latchFault l .armStuck

/-! ## Display time, alarm and buzzer patterns -/

/-- R79: the display time ends. -/
def State.displayExpiry (s : State) (l : LaneId) : State := s.setLane l { s.lane l with display := none }

/-- R79: the alarm timer expires. One that does not run does not (assumption log 9). -/
def State.alarmExpiry (s : State) (l : LaneId) : State :=
  if (s.lane l).alarmTimer then s.setLane l (s.lane l).endAlarm else s

/-- R79: a chirp or a double tone has sounded for its time. -/
def Lane.endShort (x : Lane) : Lane :=
  if x.pattern = .alarm then x else { x with pattern := .silence }

end Sys2Proof.Machine
end

