-- ==== Sys2Proof/Machine/Line.lean ====
section
/-!
DEFINITION. Chapter 10: the receiver, the line conditions, the malformed frame and the transmitter's next frame.
-/

namespace Sys2Proof.Machine

/-! ## The malformed frame -/

/-- R183: the BAD_FORMAT reply: the frame's KIND with its top bit set, its TAG, the status byte alone. -/
def State.answerBadFormat (s : State) (kind tag : Byte) : State :=
  s.placeReply (replyFrame kind tag .badFormat .nothing)

/-! ## The receiver -/

/-- No partial frame, the gap timer stopped (R178). -/
def Receiver.hunting : Receiver := { state := .hunt, chars := [], gapTimer := false }

/-- The state with its receiver replaced. -/
def State.setReceiver (s : State) (r : Receiver) : State := s.setLif { s.lif with receiver := r }

/-- A character held in the partial frame, the gap timer started afresh (R178). -/
def Receiver.hold (r : Receiver) (c : Byte) (next : ReceiverState) : Receiver :=
  { state := next, chars := r.chars ++ [c], gapTimer := true }

/-- The LEN of the partial frame: its first character after the start byte. -/
def Receiver.len (r : Receiver) : Nat := (r.chars.head?.map (·.toNat)).getD 0

/-- R178: the state after TAG: PAYLOAD, or CHECK_HIGH if LEN is 0. -/
def Receiver.afterTag (r : Receiver) : ReceiverState := if r.len = 0 then .checkHigh else .payload

/-- R178: the state after a payload character: CHECK_HIGH after the LEN-th one. -/
def Receiver.afterPayload (r : Receiver) : ReceiverState :=
  if r.len + 3 ≤ r.chars.length + 1 then .checkHigh else .payload

/-- The KIND, TAG and payload of a complete frame's characters after its start byte. -/
def completeFrame (chars : List Byte) : InFrame :=
  let body := chars.take (chars.length - 2)
  { kind := (body[1]?).getD 0, tag := (body[2]?).getD 0, payload := body.drop 3 }

/-- R177: the check formed over LEN, KIND, TAG and payload equals the CHECK received. -/
def checkGood (chars : List Byte) : Bool :=
  let body := chars.take (chars.length - 2)
  bytes16 (checkWord body) == chars.drop (chars.length - 2)

/-- R179: a failed check sets CHECK_ERROR. -/
def State.flagCheckError (s : State) : State :=
  s.setLif { s.lif with flags := { s.lif.flags with checkError := true } }

/-- R178, R179, R182: the frame is complete: a good one joins the inbound buffers; of a failed one the characters are
to be examined again. -/
def State.frameComplete (s : State) (chars : List Byte) : State × List Byte :=
  let s := s.setReceiver Receiver.hunting
  if checkGood chars then (s.joinInbound (completeFrame chars), []) else (s.flagCheckError, chars)

/-- R178: one character examined. Answers the state and the characters to be examined again before any other. -/
def State.examineOne (s : State) (c : Byte) : State × List Byte :=
  let r := s.lif.receiver
  match r.state with
  | .hunt =>
    if c = 0xD5 then (s.setReceiver { state := .length, chars := [], gapTimer := true }, []) else (s, [])
  | .length =>
    if c.toNat ≤ Config.maxPayload then (s.setReceiver (r.hold c .kind), [])
    else (s.setReceiver Receiver.hunting, r.chars ++ [c])
  | .kind => (s.setReceiver (r.hold c .tag), [])
  | .tag => (s.setReceiver (r.hold c r.afterTag), [])
  | .payload => (s.setReceiver (r.hold c r.afterPayload), [])
  | .checkHigh => (s.setReceiver (r.hold c .checkLow), [])
  | .checkLow => s.frameComplete (r.chars ++ [c])

/-- R179: the characters of a discarded frame are examined before any later one. The fuel bounds the characters
examined; `rescanFuel` is always enough (assumption log 20). -/
def State.examineAll : Nat → List Byte → State → State
  | 0, _, s => s
  | _ + 1, [], s => s
  | fuel + 1, c :: cs, s =>
    let next := s.examineOne c
    State.examineAll fuel (next.2 ++ cs) next.1

/-- Enough fuel for `n` characters, the partial frame's among them: each of them starts at most one scan. -/
def rescanFuel (n : Nat) : Nat := (n + 1) * (n + 1)

/-- R178: one received character, with the rescans it brings. -/
def State.receive (s : State) (c : Byte) : State :=
  State.examineAll (rescanFuel (s.lif.receiver.chars.length + 2)) [c] s

/-- R179: the gap timer expires: GAP_TIMEOUT is set and the partial frame examined again. -/
def State.gapExpiry (s : State) : State :=
  let chars := s.lif.receiver.chars
  let s := s.setLif { s.lif with
    receiver := Receiver.hunting
    flags := { s.lif.flags with gapTimeout := true } }
  State.examineAll (rescanFuel (chars.length + 2)) chars s

/-- R179: the gap timer expires. One that does not run does not (assumption log 9). -/
def State.gapTimeout (s : State) : State := if s.lif.receiver.gapTimer then s.gapExpiry else s

/-- R180: a character without its stop bit. -/
def State.framingError (s : State) : State :=
  s.setLif { s.lif with
    receiver := Receiver.hunting
    flags := { s.lif.flags with framing := true } }

/-- R180: a break on the line; its first character has no stop bit either. -/
def State.lineBreak (s : State) : State :=
  s.setLif { s.lif with
    receiver := Receiver.hunting
    flags := { s.lif.flags with framing := true, breakSeen := true } }

/-! ## The transmitter -/

/-- R185: the shifting frame's last character has gone. -/
def State.shiftingDone (s : State) : State := s.setLif { s.lif with shifting := none }

end Sys2Proof.Machine
end

