-- ==== Sys2Proof/Machine/Quote.lean ====
section
/-!
DEFINITION. Chapter 8: QUOTE, CONFIRM, CANCEL, QUOTE_QUERY, the hold expiry and the completion of a computation.
-/

namespace Sys2Proof.Machine

/-- R148, R149: the owner of QUOTE. -/
def State.quoteRequest (s : State) (tag : Byte) (pass : Nat) : State :=
  match s.rcc.mode with
  | .setup => s.answerCode .quote tag .wrongMode
  | .run =>
    if legalPass pass = false then s.answerCode .quote tag .badValue
    else
      match s.quoteChecks pass with
      | .fails code => s.answerCode .quote tag code
      | .slotFree slot => (s.acceptQuote slot pass .line).answer .quote tag .accepted (.slotOpened slot)

/-! ## CONFIRM -/

/-- R155: the recount of the pass's day counts equals the snapshot's Uf, Us and Un. -/
def State.fingerprintHolds (s : State) (pass : Nat) (snap : Snapshot) : Bool :=
  match s.findPass pass with
  | none => false
  | some e =>
    s.dayCounts e ==
      { fullDays := snap.fullDays, stormDays := snap.stormDays, noServiceDays := snap.noServiceDays }

/-- R156: today is after window start + W − 1 + deadline days. -/
def State.deadlinePassed (s : State) (snap : Snapshot) : Bool :=
  decide (deadlineDay snap.start snap.window snap.deadlineDays < s.today)

/-- The items of a settlement (R157, step 3). -/
def settlementOf (slot : SlotId) (i : QuoteIdentity) (r : Results) : Settlement :=
  { pass := i.pass, slot := slot, source := i.source, hUsed := r.hUsed, hTotal := r.hTotal, gross := r.gross,
    fixedFee := r.fixedFee, percentFee := r.percentFee, payout := r.payout, residue := r.residue,
    flags := r.flags }

/-- R157, step 4: the refund counted and its payout added. -/
def State.countSettlement (s : State) (payout : Nat) : State :=
  s.setToday { s.tally.today with
    refundsSettled := bump s.tally.today.refundsSettled
    payoutTotal := satAdd Config.payoutCeiling s.tally.today.payoutTotal payout }

/-- R157, steps 1 to 5. -/
def State.settle (s : State) (slot : SlotId) (items : Settlement) : State :=
  let s := s.updatePass items.pass fun e => { e with status := .refunded }
  let s := s.writeRecord (.settlement items)
  let s := s.countSettlement items.payout
  s.setSlot slot { s.slot slot with state := .free }

/-- R154, checks 7 and 8: a CONFIRM that drops its quote. -/
def State.confirmDrops (s : State) (tag : Byte) (slot : SlotId) (code : StatusCode) (reason : DropReason) : State :=
  (s.dropQuote slot reason).answer .confirm tag code (.slotDropped slot reason)

/-- R154, checks 6 to 9, and R157: the CONFIRM of a QUOTED slot. -/
def State.confirmQuoted (s : State) (tag : Byte) (slot : SlotId) (i : QuoteIdentity) (snap : Snapshot)
    (r : Results) : State :=
  if r.payout = 0 then s.answerCode .confirm tag .nothingDue
  else if s.fingerprintHolds i.pass snap = false then s.confirmDrops tag slot .stale .stale
  else if s.deadlinePassed snap then s.confirmDrops tag slot .deadline .deadline
  else if Config.settlementCapacity ≤ s.journal.settlementCount then s.answerCode .confirm tag .journalFull
  else
    let items := settlementOf slot i r
    (s.settle slot items).answer .confirm tag .ok (.settled items)

/-- R154, checks 2 to 5. -/
def State.confirmSlot (s : State) (tag : Byte) (slot : SlotId) (pass : Nat) : State :=
  match (s.slot slot).state with
  | .free => s.answerCode .confirm tag .notFound
  | .cancelling => s.answerCode .confirm tag .busy
  | .queued i =>
    if i.pass = pass then s.answerCode .confirm tag .busy else s.answerCode .confirm tag .badValue
  | .computing i _ =>
    if i.pass = pass then s.answerCode .confirm tag .busy else s.answerCode .confirm tag .badValue
  | .quoted i snap r _ =>
    if i.pass = pass then s.confirmQuoted tag slot i snap r else s.answerCode .confirm tag .badValue

/-- R154: the owner of CONFIRM. -/
def State.confirmRequest (s : State) (tag slot : Byte) (pass : Nat) : State :=
  match fourOf slot with
  | none => s.answerCode .confirm tag .badValue
  | some i =>
    if legalPass pass = false then s.answerCode .confirm tag .badValue
    else s.confirmSlot tag i pass

/-! ## CANCEL and QUOTE_QUERY -/

/-- R158: the CANCEL of a slot. -/
def State.cancelSlot (s : State) (tag : Byte) (slot : SlotId) (pass : Nat) : State :=
  match (s.slot slot).state.identity? with
  | none => s.answerCode .cancel tag .notFound
  | some i =>
    if i.pass = pass then (s.dropQuote slot .cancelled).answerCode .cancel tag .ok
    else s.answerCode .cancel tag .badValue

/-- R158: the owner of CANCEL. -/
def State.cancelRequest (s : State) (tag slot : Byte) (pass : Nat) : State :=
  match fourOf slot with
  | none => s.answerCode .cancel tag .badValue
  | some i =>
    if legalPass pass = false then s.answerCode .cancel tag .badValue
    else s.cancelSlot tag i pass

/-- R160: the owner of QUOTE_QUERY. -/
def State.quoteQueryRequest (s : State) (tag slot : Byte) : State :=
  match fourOf slot with
  | none => s.answerCode .quoteQuery tag .badValue
  | some i => s.answer .quoteQuery tag .ok (.slotRecord i (s.slot i))

/-! ## Hold expiry and completion -/

/-- R152: the Quote Table acts on the results handed over: a COMPUTING slot becomes QUOTED with its hold started and
QUOTE_READY raised; a CANCELLING slot becomes FREE and the results are discarded. -/
def State.handOver (s : State) (c : Computation) : State :=
  match (s.slot c.slot).state with
  | .computing i snap =>
    let expiry := s.stamp + s.rcc.site.holdTime
    let s := s.setSlot c.slot
      { s.slot c.slot with state := .quoted i snap c.results expiry }
    s.raise (.quoteReady c.slot)
  | .cancelling => s.setSlot c.slot { s.slot c.slot with state := .free }
  | .free | .queued _ | .quoted .. => s

/-- R132: the calculator becomes IDLE and the next slot of the queue starts. -/
def State.completeComputation (s : State) : State :=
  match s.rfc.busy with
  | none => s
  | some c =>
    let s := s.handOver c
    let s := s.setRfc { s.rfc with busy := none }
    s.startComputation

/-- R132: one calculator step of the computation in progress. -/
def State.calculatorStep (s : State) : State :=
  match s.rfc.busy with
  | none => s
  | some c => s.setRfc { s.rfc with busy := some c.advance }

end Sys2Proof.Machine
end

