-- ==== Sys2Proof/Machine/Report.lean ====
section
/-!
DEFINITION. Chapters 9 and 10: STATUS, JOURNAL_FETCH, NOTICE_MASK, IDENTIFY.
-/

namespace Sys2Proof.Machine

/-! ## STATUS -/

/-- R174: one lane as STATUS reports it. -/
def State.laneReport (s : State) (l : LaneId) : LaneReport :=
  { role := (s.lane l).role, state := s.laneState l, latches := (s.lane l).latches }

/-- R174: the content of the STATUS reply. -/
def State.report (s : State) : StatusReport :=
  { mode := s.rcc.mode
    clock := s.rcc.clock
    lift := s.rcc.lift
    lanes := Quad.tabulate s.laneReport
    slots := Quad.tabulate fun i => (s.slot i).state.phase
    transferOpen := s.xfer.condition == .isOpen
    pending := s.notices.pending.map fun x => (x.key, s.notices.mask.get x.key.kind)
    mask := s.notices.mask
    records := s.journal.records.length
    settlements := s.journal.settlementCount
    gap := s.journal.gap
    evictions := s.pbl.evictions
    flags := s.lif.flags }

/-- R174: the option CLEAR, once the content has been formed. -/
def State.clearReported (s : State) : State :=
  (s.setLif { s.lif with flags := LineFlags.clear }).setPbl { s.pbl with evictions := 0 }

/-- R174: the owner of STATUS: option 0 NONE, 1 CLEAR. -/
def State.statusRequest (s : State) (tag option : Byte) : State :=
  match boolOf option with
  | none => s.answerCode .status tag .badValue
  | some clear =>
    (if clear then s.clearReported else s).answer .status tag .ok (.report s.report)

/-! ## JOURNAL_FETCH -/

/-- R168: how many of the oldest records a fetch selects: at most `asked`, each fitting in the `room` bytes left, and
none behind the first that does not fit. -/
def selectCount : Nat → Nat → List JournalRecord → Nat
  | 0, _, _ => 0
  | _ + 1, _, [] => 0
  | asked + 1, room, r :: rs =>
    if r.body.recordLength ≤ room then selectCount asked (room - r.body.recordLength) rs + 1 else 0

/-- R168: the journal after a fetch of its `k` oldest records. -/
def Journal.fetched (j : Journal) (k : Nat) : Journal := { j with records := j.records.drop k, gap := 0 }

/-- R168: the owner of JOURNAL_FETCH. -/
def State.journalFetchRequest (s : State) (tag : Byte) (asked : Nat) : State :=
  if asked < 1 ∨ 8 < asked then s.answerCode .journalFetch tag .badValue
  else
    let k := selectCount asked Config.fetchRecordBytes s.journal.records
    let j := s.journal.fetched k
    (s.setJournal j).answer .journalFetch tag .ok
      (.records s.journal.gap (s.journal.records.take k) j.records.length j.settlementCount)

/-! ## NOTICE_MASK and IDENTIFY -/

/-- R173: the owner of NOTICE_MASK. -/
def State.noticeMaskRequest (s : State) (tag kind setting : Byte) : State :=
  match noticeKindOf kind, maskSettingOf setting with
  | some k, some masked =>
    let mask := s.notices.mask.set k masked
    (s.setNotices { s.notices with mask := mask }).answer .noticeMask tag .ok (.mask mask)
  | _, _ => s.answerCode .noticeMask tag .badValue

/-- R186: the owner of IDENTIFY. -/
def State.identifyRequest (s : State) (tag : Byte) : State := s.answer .identify tag .ok (.identity s.lif.straps)

end Sys2Proof.Machine
end

