-- ==== Sys2Proof/Machine/Riders.lean ====
section
/-!
DEFINITION. Chapter 6: beam changes, match timers, and the requests of the Rider Tally.
-/

namespace Sys2Proof.Machine

/-- R113, R80: the beam input's level and stuck timer at a change, at a GATE lane. -/
def Lane.beamMoved (x : Lane) (beam : Beam) (blocked : Bool) (duration : Nat) : Lane :=
  (x.setBeam beam blocked).setBeamTimer beam (if blocked then some duration else none)

/-- R114, R115: the detector at a beam change, and whether an ENTRY is recognised; held IDLE while BEAM_STUCK is
latched. -/
def Lane.detect (x : Lane) (beam : Beam) (blocked : Bool) : DetectorState × Bool :=
  if x.latches.beamStuck then (.idle, false) else detectorMove x.detector beam blocked

/-- R113: a beam change at a GATE lane. -/
def State.gateBeamChange (s : State) (l : LaneId) (beam : Beam) (blocked : Bool) : State :=
  let d := (s.lane l).detect beam blocked
  let x := (s.lane l).beamMoved beam blocked s.rcc.site.beamStuck
  let s := s.setLane l { x with detector := d.1 }
  if d.2 then s.handEntry l else s

/-- R113; at a lane of another role only the level is recorded, and a level already held is no change (assumption
log 8). -/
def State.beamChange (s : State) (l : LaneId) (beam : Beam) (blocked : Bool) : State :=
  if (s.lane l).beam beam = blocked then s
  else if (s.lane l).role = .gate then s.gateBeamChange l beam blocked
  else s.setLane l ((s.lane l).setBeam beam blocked)

/-- R119: the match timer of an item expires; a list without that item has no such timer (assumption log 9). -/
def State.matchExpiry (s : State) (l : LaneId) (list : MatchList) (index : Nat) : State :=
  match list with
  | .rotation => s.setLane l { s.lane l with rotations := (s.lane l).rotations.eraseIdx index }
  | .entry =>
    if index < (s.lane l).entries.length then
      (s.setLane l { s.lane l with entries := (s.lane l).entries.eraseIdx index }).underRider l
    else s

/-! ## TALLY and TALLY_CLEAR -/

/-- The stamp of the oldest item of a list (R124). -/
def oldestStamp (items : List MatchItem) : Option Nat := items.head?.map (·.stamp)

/-- R124: what the reply adds for a lane of TODAY. -/
def State.inHand (s : State) (l : LaneId) : LaneInHand :=
  { pending := s.pendingCount l
    rotationItems := (s.lane l).rotations.length
    rotationOldest := oldestStamp (s.lane l).rotations
    entryItems := (s.lane l).entries.length
    entryOldest := oldestStamp (s.lane l).entries }

/-- R124: the selected part of the selected set. -/
def State.tallyPart (s : State) (isToday : Bool) : TallyPart → ReplyData
  | .lane l =>
    let t := if isToday then s.tally.today else s.tally.previous
    .laneTally t.day l (t.lanes.get l) (if isToday then some (s.inHand l) else none)
  | .lift =>
    let t := if isToday then s.tally.today else s.tally.previous
    .liftTally t.day t.riders t.newDays t.refundsSettled t.payoutTotal t.hours

/-- R124: the owner of TALLY. -/
def State.tallyRequest (s : State) (tag set part : Byte) : State :=
  match tallySetOf set, tallyPartOf part with
  | some isToday, some p => s.answer .tally tag .ok (s.tallyPart isToday p)
  | _, _ => s.answerCode .tally tag .badValue

/-- R125: the owner of TALLY_CLEAR. -/
def State.tallyClearRequest (s : State) (tag : Byte) : State :=
  (s.setToday (s.clearedSet s.tally.today.day)).answerCode .tallyClear tag .ok

end Sys2Proof.Machine
end

