-- ==== Sys2Proof/WellFormed.lean ====
section
/-!
DEFINITION. Which commands of `Instr` can reach the part as the row they name.

The widths of the fields and the lane numbers of events are kept by their types. What is left is checked
here: the lengths of USAGE_MERGE's and XFER_CHUNK's lists (R40, R46), and that a BAD_FORMAT_FRAME is one (R183).
-/

namespace Sys2Proof

/-- R40: 1 to 16 days. -/
def usageMergeLengthOk (days : List Byte) : Bool :=
  decide (1 ≤ days.length) && decide (days.length ≤ 16)

/-- R46: 1 to 12 records. -/
def chunkLengthOk (records : List PassRecord) : Bool :=
  decide (1 ≤ records.length) && decide (records.length ≤ 12)

/-- R177, R183: a frame of at most 120 payload bytes whose KIND or LEN the handler answers BAD_FORMAT. -/
def badFormatOk (kind tag : Byte) (payload : List Byte) : Bool :=
  decide (payload.length ≤ Config.maxPayload) && isBadFormat ⟨kind, tag, payload⟩

/-- The command is one the row can stand for. -/
def Instr.wellFormed : Instr → Bool
  | .usageMerge _ _ days => usageMergeLengthOk days
  | .xferChunk _ records => chunkLengthOk records
  | .badFormatFrame kind tag payload => badFormatOk kind tag payload
  | .coldReset .. | .restart .. | .run .. | .setup .. | .siteConfig .. | .identify .. | .setClock ..
  | .liftStatus .. | .calendarMark .. | .passbackSet .. | .productPut .. | .productClear .. | .passPut ..
  | .passBlock .. | .passUnblock .. | .passDelete .. | .passQuery .. | .xferOpen .. | .xferAbort ..
  | .xferStatus .. | .laneConfig .. | .laneOutput .. | .laneClear .. | .laneInject .. | .quote ..
  | .confirm .. | .cancel .. | .quoteQuery .. | .status .. | .tally .. | .tallyClear .. | .journalFetch ..
  | .noticeMask .. | .receiveCharacter .. | .gapTimeout | .framing | .lineBreak | .shiftingFrameDone
  | .secondAdvance | .passbackExpiry | .holdExpiry | .pollOutcome .. | .grant | .rotation ..
  | .armRestChange .. | .beamChange .. | .unlockTimerExpiry .. | .beamStuckTimerExpiry ..
  | .armStuckTimerExpiry .. | .displayTimeExpiry .. | .alarmTimerExpiry .. | .buzzerPatternEnd ..
  | .matchTimerExpiry .. | .computationCompletion => true

/-- `i` is well formed. -/
abbrev WellFormed (i : Instr) : Prop := i.wellFormed = true

end Sys2Proof
end

