-- ==== Sys2Proof/Machine/Tables.lean ====
section
/-!
DEFINITION. Chapter 2: the Tariff Table and the entry-wise requests of the Pass Table.
-/

namespace Sys2Proof.Machine

/-! ## The Tariff Table -/

/-- The product is of kind DAYS. -/
def ProductKind.isDays : ProductKind → Bool
  | .days _ => true
  | .season => false

/-- The kind and W step 3 of R21 compares with: the record's, or those a cleared slot keeps (R24). -/
def ProductSlot.shape (x : ProductSlot) : Option (Bool × Nat) :=
  match x.record with
  | some p => some (p.kind.isDays, p.window)
  | none => x.kept

/-- The state with one product slot replaced (R18). -/
def State.setProductSlot (s : State) (code : Nat) (x : ProductSlot) : State :=
  s.setTariff (s.tariff.setIfInBounds (code - 1) x)

/-- R21, step 3: the record would change the kind or W of a product that pass entries name. -/
def State.changesShape (s : State) (code : Nat) (p : Product) : Bool :=
  s.productNamed code && (s.productSlot code).shape != some (p.kind.isDays, p.window)

/-- R21: the owner of PRODUCT_PUT. -/
def State.productPutRequest (s : State) (tag : Byte) (code : Nat) (f : ProductFields) : State :=
  match s.rcc.mode with
  | .run => s.answerCode .productPut tag .wrongMode
  | .setup =>
    if legalCode code = false then s.answerCode .productPut tag .badValue
    else
      match productOf f with
      | none => s.answerCode .productPut tag .badValue
      | some p =>
        if s.changesShape code p then s.answerCode .productPut tag .busy
        else (s.setProductSlot code { record := some p, kept := none }).answerCode .productPut tag .ok

/-- R23: the owner of PRODUCT_CLEAR. -/
def State.productClearRequest (s : State) (tag : Byte) (code : Nat) : State :=
  match s.rcc.mode with
  | .run => s.answerCode .productClear tag .wrongMode
  | .setup =>
    if legalCode code = false then s.answerCode .productClear tag .badValue
    else
      let x : ProductSlot := { record := none, kept := (s.productSlot code).shape }
      (s.setProductSlot code x).answerCode .productClear tag .ok

/-! ## Writing a pass entry, shared by PASS_PUT and LOAD records -/

/-- R33, step 1: the status a record's fields carry, if every field is in its range and the product is present. A
price of 3 bytes is always in its range (R47). -/
def State.recordStatus? (s : State) (r : PassRecord) : Option PassStatus :=
  if legalPass r.pass.toNat ∧ legalCode r.product.toNat ∧ (s.product? r.product.toNat).isSome
      ∧ r.start.toNat ≤ 239
  then hostStatusOf r.status
  else none

/-- R34: the new entry of a record. -/
def newEntry (r : PassRecord) (st : PassStatus) : PassEntry :=
  { pass := r.pass.toNat, product := r.product.toNat, start := r.start.toNat, price := r.price.toNat,
    status := st, usage := none, marker := none, transferMark := true }

/-- The entry's product code and window start day are those of the record (R35). -/
def PassEntry.sameWindow (e : PassEntry) (r : PassRecord) : Bool :=
  e.product == r.product.toNat && e.start == r.start.toNat

/-- R35: the definition fields and status are replaced; the usage part is kept if the product code and the window
start day are equal, and discarded otherwise. -/
def PassEntry.rewrite (e : PassEntry) (r : PassRecord) (st : PassStatus) : PassEntry :=
  { e with
    product := r.product.toNat
    start := r.start.toNat
    price := r.price.toNat
    status := st
    usage := if e.sameWindow r then e.usage else none
    transferMark := true }

/-- Any definition field or the status of the entry differs from the record's (R35). -/
def PassEntry.differs (e : PassEntry) (r : PassRecord) (st : PassStatus) : Bool :=
  !(e.sameWindow r) || e.price != r.price.toNat || e.status != st

/-- The entry is in REFUND_HOLD (R31). -/
def PassEntry.isHeld (e : PassEntry) : Bool :=
  match e.status with
  | .refundHold _ => true
  | .active | .blocked | .refunded => false

/-- R34: a new entry takes its place in the order. -/
def State.addPass (s : State) (r : PassRecord) (st : PassStatus) : State :=
  s.setPasses (insertEntry (newEntry r st) s.passes)

/-- R35: an entry is rewritten. -/
def State.rewritePass (s : State) (r : PassRecord) (st : PassStatus) : State :=
  s.updatePass r.pass.toNat fun e => e.rewrite r st

/-- The outcome R35 reports for an existing entry. -/
def putOutcome (e : PassEntry) (r : PassRecord) (st : PassStatus) : PutOutcome :=
  if e.differs r st then .replaced else .unchanged

/-- R33, R34, R35: the owner of PASS_PUT. An UNCHANGED reply carries the number of entries too (DESIGN CHOICE,
assumption log 5). -/
def State.passPutRequest (s : State) (tag : Byte) (r : PassRecord) : State :=
  match s.recordStatus? r with
  | none => s.answerCode .passPut tag .badValue
  | some st =>
    match s.findPass r.pass.toNat with
    | some e =>
      if e.marker.isSome then s.answerCode .passPut tag .pending
      else if e.isHeld then s.answerCode .passPut tag .held
      else
        (s.rewritePass r st).answer .passPut tag .ok (.putOutcome (putOutcome e r st) s.passes.length)
    | none =>
      if Config.passCapacity ≤ s.passes.length then s.answerCode .passPut tag .full
      else (s.addPass r st).answer .passPut tag .ok (.putOutcome .added (s.passes.length + 1))

/-! ## The other entry-wise requests -/

/-- The common checks of section 2.6: an illegal pass number is BAD_VALUE, an absent pass NOT_FOUND. -/
def State.withEntry (s : State) (k : RequestKind) (tag : Byte) (pass : Nat) (act : PassEntry → State) : State :=
  if legalPass pass = false then s.answerCode k tag .badValue
  else
    match s.findPass pass with
    | none => s.answerCode k tag .notFound
    | some e => act e

/-- The state with the status of one pass replaced. -/
def State.setStatus (s : State) (pass : Nat) (st : PassStatus) : State :=
  s.updatePass pass fun e => { e with status := st }

/-- R36: the owner of PASS_BLOCK. -/
def State.passBlockRequest (s : State) (tag : Byte) (pass : Nat) : State :=
  s.withEntry .passBlock tag pass fun e =>
    match e.status with
    | .active => (s.setStatus pass .blocked).answerCode .passBlock tag .ok
    | .blocked => s.answerCode .passBlock tag .ok
    | .refundHold _ => s.answerCode .passBlock tag .held
    | .refunded => s.answerCode .passBlock tag .alreadyRefunded

/-- R37: the owner of PASS_UNBLOCK. -/
def State.passUnblockRequest (s : State) (tag : Byte) (pass : Nat) : State :=
  s.withEntry .passUnblock tag pass fun e =>
    match e.status with
    | .blocked => (s.setStatus pass .active).answerCode .passUnblock tag .ok
    | .active | .refundHold _ | .refunded => s.answerCode .passUnblock tag .badValue

/-- R38: the owner of PASS_DELETE. -/
def State.passDeleteRequest (s : State) (tag : Byte) (pass : Nat) : State :=
  s.withEntry .passDelete tag pass fun e =>
    if e.marker.isSome then s.answerCode .passDelete tag .pending
    else if e.isHeld then s.answerCode .passDelete tag .held
    else
      let s := s.setPasses (removeEntry pass s.passes)
      s.answer .passDelete tag .ok (.entryCount s.passes.length)

/-- R39: the entry a search finds. -/
def State.searchPass (s : State) (m : SearchMode) (pass : Nat) : Option PassEntry :=
  match m with
  | .exact => s.findPass pass
  | .atOrAfter => s.passes.find? fun e => decide (pass ≤ e.pass)

/-- R39: the owner of PASS_QUERY. -/
def State.passQueryRequest (s : State) (tag : Byte) (pass : Nat) (mode : Byte) : State :=
  match searchModeOf mode with
  | none => s.answerCode .passQuery tag .badValue
  | some m =>
    if legalPass pass = false then s.answerCode .passQuery tag .badValue
    else
      match s.searchPass m pass with
      | none => s.answer .passQuery tag .notFound (.entryCount s.passes.length)
      | some e => s.answer .passQuery tag .ok (.passFound s.passes.length e)

/-! ## USAGE_MERGE -/

/-- What a merge has done so far: the entry's usage part, and the three item counts of R40. -/
structure MergeTotals where
  usage : Option Usage
  added : Nat
  known : Nat
  outside : Nat
  deriving DecidableEq, Repr

/-- The day lies within the window of W days from the window start day (R41). -/
def inWindow (start window day : Nat) : Bool := decide (start ≤ day) && decide (day + 1 ≤ start + window)

/-- The usage part an in-window day finds: created with that day as first-use day if absent, the first-use day
lowered if the day is earlier (R41, R42). -/
def usageAt (u : Option Usage) (day : Nat) : Usage :=
  match u with
  | none => { firstUse := day, days := [], rides := 0, last := none }
  | some u => { u with firstUse := min u.firstUse day }

/-- R41, R42: one item of the list. -/
def mergeItem (p : Product) (start : Nat) (t : MergeTotals) (day : Nat) : MergeTotals :=
  if inWindow start p.window day = false then { t with outside := t.outside + 1 }
  else
    let u := usageAt t.usage day
    if p.kind.isDays = true ∧ day - start ∉ u.days then
      { t with usage := some { u with days := insertOffset (day - start) u.days }, added := t.added + 1 }
    else { t with usage := some u, known := t.known + 1 }

/-- R41, R42: the whole list, item by item; with an absent product every item is outside. -/
def State.mergeDays (s : State) (e : PassEntry) (days : List Nat) : MergeTotals :=
  let start : MergeTotals := { usage := e.usage, added := 0, known := 0, outside := 0 }
  match s.product? e.product with
  | none => { start with outside := days.length }
  | some p => days.foldl (mergeItem p e.start) start

/-- R40: the merge of a list into an entry, and its reply. -/
def State.mergeInto (s : State) (tag : Byte) (e : PassEntry) (days : List Nat) : State :=
  let t := s.mergeDays e days
  let size := ((t.usage.map (·.days)).getD []).length
  (s.updatePass e.pass fun x => { x with usage := t.usage }).answer .usageMerge tag .ok
    (.mergeCounts t.added t.known t.outside size)

/-- R40: the owner of USAGE_MERGE. A list of a wrong length is answered BAD_FORMAT (assumption log 17). -/
def State.usageMergeRequest (s : State) (tag : Byte) (pass : Nat) (days : List Byte) : State :=
  if usageMergeLengthOk days = false then s.answerCode .usageMerge tag .badFormat
  else if legalPass pass = false then s.answerCode .usageMerge tag .badValue
  else if days.any fun d => decide (239 < d.toNat) then s.answerCode .usageMerge tag .badValue
  else
    match s.findPass pass with
    | none => s.answerCode .usageMerge tag .notFound
    | some e => s.mergeInto tag e (days.map (·.toNat))

end Sys2Proof.Machine
end

