-- ==== Sys2Proof/Machine/Transfer.lean ====
section
/-!
DEFINITION. Chapter 3: the Transfer Engine.
-/

namespace Sys2Proof.Machine

/-! ## Opening, abort, status -/

/-- R45, step 3: the record of a transfer just opened. -/
def Transfer.opened (mode : TransferMode) (purge : Bool) (count : Nat) : Transfer :=
  { Transfer.cold with
    condition := .isOpen
    header := some { mode := mode, purge := purge, declared := count, remaining := count } }

/-- R45, step 4: every transfer mark cleared. -/
def clearMarks (es : List PassEntry) : List PassEntry := es.map fun e => { e with transferMark := false }

/-- R45, steps 3 and 4. -/
def State.openTransfer (s : State) (mode : TransferMode) (purge : Bool) (count : Nat) : State :=
  let s := s.setXfer (Transfer.opened mode purge count)
  if purge then s.setPasses (clearMarks s.passes) else s

/-- R45: the owner of XFER_OPEN. -/
def State.xferOpenRequest (s : State) (tag mode purge : Byte) (count : Nat) : State :=
  match transferModeOf mode, boolOf purge with
  | some m, some p =>
    if count < 1 ∨ 4096 < count then s.answerCode .xferOpen tag .badValue
    else if s.xfer.condition = .isOpen then s.answerCode .xferOpen tag .transferOpen
    else (s.openTransfer m p count).answer .xferOpen tag .ok (.entryCount s.passes.length)
  | _, _ => s.answerCode .xferOpen tag .badValue

/-- R55: the owner of XFER_ABORT. -/
def State.xferAbortRequest (s : State) (tag : Byte) : State :=
  if s.xfer.condition = .isOpen then
    (s.setXfer { s.xfer with condition := .aborted }).answer .xferAbort tag .ok
      (.remaining (s.xfer.header.map (·.remaining)))
  else s.answerCode .xferAbort tag .noTransfer

/-- R56: the owner of XFER_STATUS. -/
def State.xferStatusRequest (s : State) (tag : Byte) : State :=
  s.answer .xferStatus tag .ok (.transferRecord s.xfer s.passes.length)

/-! ## LOAD records -/

/-- R47: the outcome of a LOAD record, by the first check that applies. -/
def State.loadOutcome (s : State) (r : PassRecord) : RecordOutcome :=
  match s.recordStatus? r with
  | none => .rejectedBad
  | some st =>
    match s.findPass r.pass.toNat with
    | some e =>
      if e.marker.isSome then .skippedPending
      else if e.isHeld then .skippedHeld
      else if e.differs r st then .replaced
      else .unchanged
    | none => if Config.passCapacity ≤ s.passes.length then .rejectedFull else .added

/-- R48: the transfer mark of a pass's entry is set, if the entry is present. -/
def State.markPass (s : State) (pass : Nat) : State :=
  s.updatePass pass fun e => { e with transferMark := true }

/-- R47: the effect of a LOAD record of outcome `o` on the Pass Table. -/
def State.loadEffect (s : State) (r : PassRecord) (o : RecordOutcome) : State :=
  match s.recordStatus? r, o with
  | some st, .added => s.addPass r st
  | some st, .replaced => s.rewritePass r st
  | _, _ => s

/-- R47, R48: one LOAD record. -/
def State.loadRecord (s : State) (r : PassRecord) : State :=
  (s.loadEffect r (s.loadOutcome r)).markPass r.pass.toNat

/-- R46: each LOAD record handled adds one to the count of its outcome. -/
def LoadCounts.count (c : LoadCounts) : RecordOutcome → LoadCounts
  | .rejectedBad => { c with rejectedBad := c.rejectedBad + 1 }
  | .skippedPending => { c with skippedPending := c.skippedPending + 1 }
  | .skippedHeld => { c with skippedHeld := c.skippedHeld + 1 }
  | .rejectedFull => { c with rejectedFull := c.rejectedFull + 1 }
  | .added => { c with added := c.added + 1 }
  | .replaced => { c with replaced := c.replaced + 1 }
  | .unchanged => { c with unchanged := c.unchanged + 1 }
  | .missing | .isMatch | .differ => c

/-- One LOAD record, with its count. -/
def State.loadStep (s : State) (r : PassRecord) : State :=
  let o := s.loadOutcome r
  let s := s.loadRecord r
  s.setXfer { s.xfer with load := s.xfer.load.count o }

/-! ## VERIFY records -/

/-- R50: an entry in REFUND_HOLD is compared as ACTIVE. -/
def PassEntry.comparedStatus (e : PassEntry) : PassStatus :=
  match e.status with
  | .refundHold _ => .active
  | .active => .active
  | .blocked => .blocked
  | .refunded => .refunded

/-- R50: product code, window start day, price and compared status all equal the record's. -/
def PassEntry.verifies (e : PassEntry) (r : PassRecord) : Bool :=
  e.sameWindow r && e.price == r.price.toNat && hostStatusOf r.status == some e.comparedStatus

/-- R50: the outcome of a VERIFY record. -/
def State.verifyOutcome (s : State) (r : PassRecord) : RecordOutcome :=
  if legalPass r.pass.toNat = false then .missing
  else
    match s.findPass r.pass.toNat with
    | none => .missing
    | some e => if e.verifies r then .isMatch else .differ

/-- R46: each VERIFY record handled adds one to the count of its outcome. -/
def VerifyCounts.count (c : VerifyCounts) : RecordOutcome → VerifyCounts
  | .missing => { c with missing := c.missing + 1 }
  | .isMatch => { c with matched := c.matched + 1 }
  | .differ => { c with differ := c.differ + 1 }
  | .rejectedBad | .skippedPending | .skippedHeld | .rejectedFull | .added | .replaced | .unchanged => c

/-- R51: the mark of a VERIFY record; a MISSING one marks nothing. -/
def State.verifyMark (s : State) (r : PassRecord) (o : RecordOutcome) : State :=
  if o = .missing then s else s.markPass r.pass.toNat

/-- R51: the first record counted DIFFER or MISSING gives the first difference. -/
def firstDifferenceAfter (old : Option Nat) (r : PassRecord) (o : RecordOutcome) : Option Nat :=
  match old with
  | some p => some p
  | none => if o = .isMatch then none else some r.pass.toNat

/-- One VERIFY record, with its count and its mark. -/
def State.verifyStep (s : State) (r : PassRecord) : State :=
  let o := s.verifyOutcome r
  let s := s.verifyMark r o
  s.setXfer { s.xfer with
    verify := s.xfer.verify.count o
    firstDifference := firstDifferenceAfter s.xfer.firstDifference r o }

/-! ## Chunks and the end of a transfer -/

/-- The outcome of one record under the transfer's mode. -/
def State.recordOutcome (s : State) (m : TransferMode) (r : PassRecord) : RecordOutcome :=
  match m with
  | .load => s.loadOutcome r
  | .verify => s.verifyOutcome r

/-- One record under the transfer's mode. -/
def State.recordStep (s : State) (m : TransferMode) (r : PassRecord) : State :=
  match m with
  | .load => s.loadStep r
  | .verify => s.verifyStep r

/-- R46: the records of a chunk one after another, each seeing the table as those before it left it. Answers the
state and the outcomes in chunk order. -/
def State.handleRecords (m : TransferMode) : List PassRecord → State → State × List RecordOutcome
  | [], s => (s, [])
  | r :: rs, s =>
    let rest := State.handleRecords m rs (s.recordStep m r)
    (rest.1, s.recordOutcome m r :: rest.2)

/-- R53: an unmarked entry that the sweep keeps: it has an admission marker or is held. -/
def PassEntry.isProtected (e : PassEntry) : Bool := e.marker.isSome || e.isHeld

/-- R53: the LOAD sweep. -/
def State.loadSweep (s : State) : State :=
  let unmarked := s.passes.filter fun e => !e.transferMark
  let kept := unmarked.countP PassEntry.isProtected
  let s := s.setPasses (s.passes.filter fun e => e.transferMark || e.isProtected)
  s.setXfer { s.xfer with
    load := { s.xfer.load with removed := unmarked.length - kept, kept := kept } }

/-- R54: the VERIFY sweep. -/
def State.verifySweep (s : State) : State :=
  s.setXfer { s.xfer with
    verify := { s.xfer.verify with extra := s.passes.countP fun e => !e.transferMark } }

/-- R52, step 1. -/
def State.sweep (s : State) (m : TransferMode) : State :=
  match m with
  | .load => s.loadSweep
  | .verify => s.verifySweep

/-- R52, steps 1 and 2. -/
def State.completeTransfer (s : State) (h : TransferHeader) : State :=
  let s := if h.purge then s.sweep h.mode else s
  s.setXfer { s.xfer with condition := .completed }

/-- R46, step 4, and R52: a chunk that is taken. -/
def State.takeChunk (s : State) (tag : Byte) (h : TransferHeader) (records : List PassRecord) : State :=
  let done := State.handleRecords h.mode records s
  let left := h.remaining - records.length
  let s := done.1
  let s := s.setXfer { s.xfer with header := some { h with remaining := left } }
  if left = 0 then
    let s := s.completeTransfer h
    s.answer .xferChunk tag .ok (.chunk done.2 0 (some (s.xfer, s.passes.length)))
  else s.answer .xferChunk tag .ok (.chunk done.2 left none)

/-- R46: a refused chunk's reply carries the remaining count as it stands (absent in NONE, assumption log 16). -/
def State.refuseChunk (s : State) (tag : Byte) (code : StatusCode) : State :=
  s.answer .xferChunk tag code (.remaining (s.xfer.header.map (·.remaining)))

/-- R46: the owner of XFER_CHUNK. A list of a wrong length is answered BAD_FORMAT (assumption log 17). -/
def State.xferChunkRequest (s : State) (tag : Byte) (records : List PassRecord) : State :=
  if chunkLengthOk records = false then s.answerCode .xferChunk tag .badFormat
  else if s.xfer.condition = .isOpen then
    match s.xfer.header with
    | none => s.refuseChunk tag .noTransfer
    | some h =>
      if h.remaining < records.length then s.refuseChunk tag .badValue
      else s.takeChunk tag h records
  else s.refuseChunk tag .noTransfer

end Sys2Proof.Machine
end

