-- ==== Sys2Proof/Machine/Handler.lean ====
section
/-!
DEFINITION. The request handler (R182, R183): the owner of each request, what happens on the line at the end of every
event, and how a request reaches its owner.
-/

namespace Sys2Proof.Machine

/-- R183: what the owner of a request does when the handler hands it over. A command that is no request has no owner. -/
def State.owner (s : State) : Instr → State
  | .restart tag => s.restartRequest tag
  | .run tag => s.runRequest tag
  | .setup tag => s.setupRequest tag
  | .siteConfig tag f => s.siteConfigRequest tag f
  | .identify tag => s.identifyRequest tag
  | .setClock tag day second => s.setClockRequest tag day.toNat second.toNat
  | .liftStatus tag value => s.liftStatusRequest tag value
  | .calendarMark tag day mark => s.calendarMarkRequest tag day.toNat mark
  | .passbackSet tag interval => s.passbackSetRequest tag interval.toNat
  | .productPut tag code f => s.productPutRequest tag code.toNat f
  | .productClear tag code => s.productClearRequest tag code.toNat
  | .passPut tag r => s.passPutRequest tag r
  | .passBlock tag pass => s.passBlockRequest tag pass.toNat
  | .passUnblock tag pass => s.passUnblockRequest tag pass.toNat
  | .passDelete tag pass => s.passDeleteRequest tag pass.toNat
  | .passQuery tag pass mode => s.passQueryRequest tag pass.toNat mode
  | .usageMerge tag pass days => s.usageMergeRequest tag pass.toNat days
  | .xferOpen tag mode purge count => s.xferOpenRequest tag mode purge count.toNat
  | .xferChunk tag records => s.xferChunkRequest tag records
  | .xferAbort tag => s.xferAbortRequest tag
  | .xferStatus tag => s.xferStatusRequest tag
  | .laneConfig tag lane role timeout autoQuote => s.laneConfigRequest tag lane role timeout autoQuote
  | .laneOutput tag lane output value => s.laneOutputRequest tag lane output value
  | .laneClear tag lane => s.laneClearRequest tag lane
  | .laneInject tag lane pass => s.laneInjectRequest tag lane pass.toNat
  | .quote tag pass => s.quoteRequest tag pass.toNat
  | .confirm tag slot pass => s.confirmRequest tag slot pass.toNat
  | .cancel tag slot pass => s.cancelRequest tag slot pass.toNat
  | .quoteQuery tag slot => s.quoteQueryRequest tag slot
  | .status tag option => s.statusRequest tag option
  | .tally tag set part => s.tallyRequest tag set part
  | .tallyClear tag => s.tallyClearRequest tag
  | .journalFetch tag count => s.journalFetchRequest tag count.toNat
  | .noticeMask tag kind setting => s.noticeMaskRequest tag kind setting
  | .badFormatFrame kind tag _ => s.answerBadFormat kind tag
  | .coldReset .. | .receiveCharacter .. | .gapTimeout | .framing | .lineBreak | .shiftingFrameDone
  | .secondAdvance | .passbackExpiry | .holdExpiry | .pollOutcome .. | .grant | .rotation .. | .armRestChange ..
  | .beamChange .. | .unlockTimerExpiry .. | .beamStuckTimerExpiry .. | .armStuckTimerExpiry ..
  | .displayTimeExpiry .. | .alarmTimerExpiry .. | .buzzerPatternEnd .. | .matchTimerExpiry ..
  | .computationCompletion => s

/-- R182: the handler takes the oldest buffered frame whenever the reply queue can hold its reply. `n` bounds the frames
taken; each taking is followed by the transmitter's (R185). -/
def State.serve : Nat → State → State
  | 0, s => s.pump
  | n + 1, s =>
    match s.pump.lif.inbound with
    | [] => s.pump
    | f :: rest =>
      if s.pump.replyRoom then
        State.serve n ((s.pump.setLif { s.pump.lif with inbound := rest }).owner (decodeFrame f))
      else s.pump

/-- The part at the end of an event: the transmitter has drawn what it can, and the handler has taken what it can
(assumption logs 2 and 4). -/
def State.settled (s : State) : State := State.serve s.lif.inbound.length s

/-- The outcome of an event: the next state, the line settled. -/
def finish (s : State) : Host.Outcome State Fault Refusal := .next s.settled

/-- R182: no frame stands before a request that arrives now, and the reply queue can hold its reply. -/
def State.takesNow (s : State) : Bool := s.lif.inbound.isEmpty && s.replyRoom

/-- R182, assumption log 1: a request arrives as a good frame. With no frame before it and room for its reply the
handler takes it at once; otherwise its frame joins the inbound buffers, or is discarded with OVERRUN. -/
def handle (i : Instr) (s : State) : Host.Outcome State Fault Refusal :=
  if s.takesNow then finish (s.owner i) else finish (s.joinRequest i)

end Sys2Proof.Machine
end

