-- ==== Sys2Proof/Machine/EventMeanings.lean ====
section
/-!
DEFINITION. The meanings of the events: the resets, the line's characters and timers, the timebase, the lane ports, the
engines.
-/

namespace Sys2Proof.Machine

/-- COLD_RESET (R176). -/
def execColdReset (rate1 rate0 : Bool) (s : State) : Host.Outcome State Fault Refusal :=
  finish (s.coldReset rate1 rate0)

/-- RECEIVE_CHARACTER (R178). -/
def execReceiveCharacter (c : Byte) (s : State) : Host.Outcome State Fault Refusal :=
  finish (s.receive c)

/-- GAP_TIMEOUT (R179). -/
def execGapTimeout (s : State) : Host.Outcome State Fault Refusal :=
  finish s.gapTimeout

/-- FRAMING (R180). -/
def execFraming (s : State) : Host.Outcome State Fault Refusal :=
  finish s.framingError

/-- BREAK (R180). -/
def execLineBreak (s : State) : Host.Outcome State Fault Refusal :=
  finish s.lineBreak

/-- SHIFTING_FRAME_DONE (R185). -/
def execShiftingFrameDone (s : State) : Host.Outcome State Fault Refusal :=
  finish s.shiftingDone

/-- SECOND_ADVANCE (R2). -/
def execSecondAdvance (s : State) : Host.Outcome State Fault Refusal :=
  finish s.advanceSecond

/-- PASSBACK_EXPIRY (R109): every entry that is due leaves the list (assumption log 10). -/
def execPassbackExpiry (s : State) : Host.Outcome State Fault Refusal :=
  finish s.expirePassback

/-- HOLD_EXPIRY (R152): the holds that are due, in slot order (assumption log 10). -/
def execHoldExpiry (s : State) : Host.Outcome State Fault Refusal :=
  finish s.expireHolds

/-- POLL_OUTCOME (R62). -/
def execPollOutcome (l : LaneId) (o : PollOutcome) (s : State) : Host.Outcome State Fault Refusal :=
  finish (s.pollOutcome l o)

/-- GRANT (R89). -/
def execGrant (s : State) : Host.Outcome State Fault Refusal :=
  finish s.grant

/-- ROTATION (R71). -/
def execRotation (l : LaneId) (s : State) : Host.Outcome State Fault Refusal :=
  finish (s.rotation l)

/-- ARM_REST_CHANGE (R80). -/
def execArmRestChange (l : LaneId) (present : Bool) (s : State) : Host.Outcome State Fault Refusal :=
  finish (s.armRestChange l present)

/-- BEAM_CHANGE (R113). -/
def execBeamChange (l : LaneId) (beam : Beam) (blocked : Bool) (s : State) : Host.Outcome State Fault Refusal :=
  finish (s.beamChange l beam blocked)

/-- UNLOCK_TIMER_EXPIRY (R72). -/
def execUnlockTimerExpiry (l : LaneId) (s : State) : Host.Outcome State Fault Refusal :=
  finish (s.unlockExpiry l)

/-- BEAM_STUCK_TIMER_EXPIRY (R80). -/
def execBeamStuckTimerExpiry (l : LaneId) (beam : Beam) (s : State) : Host.Outcome State Fault Refusal :=
  finish (s.beamStuckExpiry l beam)

/-- ARM_STUCK_TIMER_EXPIRY (R80). -/
def execArmStuckTimerExpiry (l : LaneId) (s : State) : Host.Outcome State Fault Refusal :=
  finish (s.armStuckExpiry l)

/-- DISPLAY_TIME_EXPIRY (R79). -/
def execDisplayTimeExpiry (l : LaneId) (s : State) : Host.Outcome State Fault Refusal :=
  finish (s.displayExpiry l)

/-- ALARM_TIMER_EXPIRY (R79). -/
def execAlarmTimerExpiry (l : LaneId) (s : State) : Host.Outcome State Fault Refusal :=
  finish (s.alarmExpiry l)

/-- BUZZER_PATTERN_END (R79). -/
def execBuzzerPatternEnd (l : LaneId) (s : State) : Host.Outcome State Fault Refusal :=
  finish (s.setLane l (s.lane l).endShort)

/-- MATCH_TIMER_EXPIRY (R119). -/
def execMatchTimerExpiry (l : LaneId) (list : MatchList) (index : Fin 4) (s : State) :
    Host.Outcome State Fault Refusal :=
  finish (s.matchExpiry l list index.val)

/-- COMPUTATION_COMPLETION (R132). An IDLE calculator completes nothing (assumption log 9). -/
def execComputationCompletion (s : State) : Host.Outcome State Fault Refusal :=
  finish s.completeComputation

end Sys2Proof.Machine
end

