-- ==== Sys2Proof/Machine/RequestMeanings.lean ====
section
/-!
DEFINITION. The meanings of the requests: each reaches its owner through the request handler.
-/

namespace Sys2Proof.Machine

/-- RESTART (R17). -/
def execRestart (tag : Byte) (s : State) : Host.Outcome State Fault Refusal :=
  handle (.restart tag) s

/-- RUN (R15). -/
def execRun (tag : Byte) (s : State) : Host.Outcome State Fault Refusal :=
  handle (.run tag) s

/-- SETUP (R16). -/
def execSetup (tag : Byte) (s : State) : Host.Outcome State Fault Refusal :=
  handle (.setup tag) s

/-- SITE_CONFIG (R8). -/
def execSiteConfig (tag : Byte) (f : SiteFields) (s : State) : Host.Outcome State Fault Refusal :=
  handle (.siteConfig tag f) s

/-- IDENTIFY (R186). -/
def execIdentify (tag : Byte) (s : State) : Host.Outcome State Fault Refusal :=
  handle (.identify tag) s

/-- SET_CLOCK (R5, R6). -/
def execSetClock (tag day : Byte) (second : U24) (s : State) : Host.Outcome State Fault Refusal :=
  handle (.setClock tag day second) s

/-- LIFT_STATUS (R10). -/
def execLiftStatus (tag value : Byte) (s : State) : Host.Outcome State Fault Refusal :=
  handle (.liftStatus tag value) s

/-- CALENDAR_MARK (R12). -/
def execCalendarMark (tag day mark : Byte) (s : State) : Host.Outcome State Fault Refusal :=
  handle (.calendarMark tag day mark) s

/-- PASSBACK_SET (R105). -/
def execPassbackSet (tag : Byte) (interval : U16) (s : State) : Host.Outcome State Fault Refusal :=
  handle (.passbackSet tag interval) s

/-- PRODUCT_PUT (R21). -/
def execProductPut (tag code : Byte) (f : ProductFields) (s : State) : Host.Outcome State Fault Refusal :=
  handle (.productPut tag code f) s

/-- PRODUCT_CLEAR (R23). -/
def execProductClear (tag code : Byte) (s : State) : Host.Outcome State Fault Refusal :=
  handle (.productClear tag code) s

/-- PASS_PUT (R33). -/
def execPassPut (tag : Byte) (r : PassRecord) (s : State) : Host.Outcome State Fault Refusal :=
  handle (.passPut tag r) s

/-- PASS_BLOCK (R36). -/
def execPassBlock (tag : Byte) (pass : U32) (s : State) : Host.Outcome State Fault Refusal :=
  handle (.passBlock tag pass) s

/-- PASS_UNBLOCK (R37). -/
def execPassUnblock (tag : Byte) (pass : U32) (s : State) : Host.Outcome State Fault Refusal :=
  handle (.passUnblock tag pass) s

/-- PASS_DELETE (R38). -/
def execPassDelete (tag : Byte) (pass : U32) (s : State) : Host.Outcome State Fault Refusal :=
  handle (.passDelete tag pass) s

/-- PASS_QUERY (R39). -/
def execPassQuery (tag : Byte) (pass : U32) (mode : Byte) (s : State) : Host.Outcome State Fault Refusal :=
  handle (.passQuery tag pass mode) s

/-- USAGE_MERGE (R40). -/
def execUsageMerge (tag : Byte) (pass : U32) (days : List Byte) (s : State) : Host.Outcome State Fault Refusal :=
  handle (.usageMerge tag pass days) s

/-- XFER_OPEN (R45). -/
def execXferOpen (tag mode purge : Byte) (count : U16) (s : State) : Host.Outcome State Fault Refusal :=
  handle (.xferOpen tag mode purge count) s

/-- XFER_CHUNK (R46). -/
def execXferChunk (tag : Byte) (records : List PassRecord) (s : State) : Host.Outcome State Fault Refusal :=
  handle (.xferChunk tag records) s

/-- XFER_ABORT (R55). -/
def execXferAbort (tag : Byte) (s : State) : Host.Outcome State Fault Refusal :=
  handle (.xferAbort tag) s

/-- XFER_STATUS (R56). -/
def execXferStatus (tag : Byte) (s : State) : Host.Outcome State Fault Refusal :=
  handle (.xferStatus tag) s

/-- LANE_CONFIG (R60). -/
def execLaneConfig (tag lane role timeout autoQuote : Byte) (s : State) : Host.Outcome State Fault Refusal :=
  handle (.laneConfig tag lane role timeout autoQuote) s

/-- LANE_OUTPUT (R76). -/
def execLaneOutput (tag lane output value : Byte) (s : State) : Host.Outcome State Fault Refusal :=
  handle (.laneOutput tag lane output value) s

/-- LANE_CLEAR (R82). -/
def execLaneClear (tag lane : Byte) (s : State) : Host.Outcome State Fault Refusal :=
  handle (.laneClear tag lane) s

/-- LANE_INJECT (R85). -/
def execLaneInject (tag lane : Byte) (pass : U32) (s : State) : Host.Outcome State Fault Refusal :=
  handle (.laneInject tag lane pass) s

/-- QUOTE (R148). -/
def execQuote (tag : Byte) (pass : U32) (s : State) : Host.Outcome State Fault Refusal :=
  handle (.quote tag pass) s

/-- CONFIRM (R154). -/
def execConfirm (tag slot : Byte) (pass : U32) (s : State) : Host.Outcome State Fault Refusal :=
  handle (.confirm tag slot pass) s

/-- CANCEL (R158). -/
def execCancel (tag slot : Byte) (pass : U32) (s : State) : Host.Outcome State Fault Refusal :=
  handle (.cancel tag slot pass) s

/-- QUOTE_QUERY (R160). -/
def execQuoteQuery (tag slot : Byte) (s : State) : Host.Outcome State Fault Refusal :=
  handle (.quoteQuery tag slot) s

/-- STATUS (R174). -/
def execStatus (tag option : Byte) (s : State) : Host.Outcome State Fault Refusal :=
  handle (.status tag option) s

/-- TALLY (R124). -/
def execTally (tag set part : Byte) (s : State) : Host.Outcome State Fault Refusal :=
  handle (.tally tag set part) s

/-- TALLY_CLEAR (R125). -/
def execTallyClear (tag : Byte) (s : State) : Host.Outcome State Fault Refusal :=
  handle (.tallyClear tag) s

/-- JOURNAL_FETCH (R168). -/
def execJournalFetch (tag count : Byte) (s : State) : Host.Outcome State Fault Refusal :=
  handle (.journalFetch tag count) s

/-- NOTICE_MASK (R173). -/
def execNoticeMask (tag kind setting : Byte) (s : State) : Host.Outcome State Fault Refusal :=
  handle (.noticeMask tag kind setting) s

/-- BAD_FORMAT_FRAME (R183). A frame that is no such frame only joins the inbound buffers (assumption log 17). -/
def execBadFormatFrame (kind tag : Byte) (payload : List Byte) (s : State) : Host.Outcome State Fault Refusal :=
  if isBadFormat { kind := kind, tag := tag, payload := payload } then handle (.badFormatFrame kind tag payload) s
  else finish (s.joinRequest (.badFormatFrame kind tag payload))

end Sys2Proof.Machine
end

