-- ==== Sys2Proof/Machine/Dispatch.lean ====
section
/-!
DEFINITION. What each command does: one arm for each constructor of Instr, each a direct call of its meaning.
-/

namespace Sys2Proof.Machine

/-- A command's effect on everything but the queue. -/
def exec (i : Instr) (s : State) : Host.Outcome State Fault Refusal :=
  match i with
  | .coldReset rate1 rate0 => Sys2Proof.Machine.execColdReset rate1 rate0 s
  | .restart tag => Sys2Proof.Machine.execRestart tag s
  | .run tag => Sys2Proof.Machine.execRun tag s
  | .setup tag => Sys2Proof.Machine.execSetup tag s
  | .siteConfig tag fields => Sys2Proof.Machine.execSiteConfig tag fields s
  | .identify tag => Sys2Proof.Machine.execIdentify tag s
  | .setClock tag day second => Sys2Proof.Machine.execSetClock tag day second s
  | .liftStatus tag value => Sys2Proof.Machine.execLiftStatus tag value s
  | .calendarMark tag day mark => Sys2Proof.Machine.execCalendarMark tag day mark s
  | .passbackSet tag interval => Sys2Proof.Machine.execPassbackSet tag interval s
  | .productPut tag code fields => Sys2Proof.Machine.execProductPut tag code fields s
  | .productClear tag code => Sys2Proof.Machine.execProductClear tag code s
  | .passPut tag record => Sys2Proof.Machine.execPassPut tag record s
  | .passBlock tag pass => Sys2Proof.Machine.execPassBlock tag pass s
  | .passUnblock tag pass => Sys2Proof.Machine.execPassUnblock tag pass s
  | .passDelete tag pass => Sys2Proof.Machine.execPassDelete tag pass s
  | .passQuery tag pass mode => Sys2Proof.Machine.execPassQuery tag pass mode s
  | .usageMerge tag pass days => Sys2Proof.Machine.execUsageMerge tag pass days s
  | .xferOpen tag mode purge count => Sys2Proof.Machine.execXferOpen tag mode purge count s
  | .xferChunk tag records => Sys2Proof.Machine.execXferChunk tag records s
  | .xferAbort tag => Sys2Proof.Machine.execXferAbort tag s
  | .xferStatus tag => Sys2Proof.Machine.execXferStatus tag s
  | .laneConfig tag lane role timeout autoQuote => Sys2Proof.Machine.execLaneConfig tag lane role timeout autoQuote s
  | .laneOutput tag lane output value => Sys2Proof.Machine.execLaneOutput tag lane output value s
  | .laneClear tag lane => Sys2Proof.Machine.execLaneClear tag lane s
  | .laneInject tag lane pass => Sys2Proof.Machine.execLaneInject tag lane pass s
  | .quote tag pass => Sys2Proof.Machine.execQuote tag pass s
  | .confirm tag slot pass => Sys2Proof.Machine.execConfirm tag slot pass s
  | .cancel tag slot pass => Sys2Proof.Machine.execCancel tag slot pass s
  | .quoteQuery tag slot => Sys2Proof.Machine.execQuoteQuery tag slot s
  | .status tag option => Sys2Proof.Machine.execStatus tag option s
  | .tally tag set part => Sys2Proof.Machine.execTally tag set part s
  | .tallyClear tag => Sys2Proof.Machine.execTallyClear tag s
  | .journalFetch tag count => Sys2Proof.Machine.execJournalFetch tag count s
  | .noticeMask tag kind setting => Sys2Proof.Machine.execNoticeMask tag kind setting s
  | .badFormatFrame kind tag payload => Sys2Proof.Machine.execBadFormatFrame kind tag payload s
  | .receiveCharacter c => Sys2Proof.Machine.execReceiveCharacter c s
  | .gapTimeout => Sys2Proof.Machine.execGapTimeout s
  | .framing => Sys2Proof.Machine.execFraming s
  | .lineBreak => Sys2Proof.Machine.execLineBreak s
  | .shiftingFrameDone => Sys2Proof.Machine.execShiftingFrameDone s
  | .secondAdvance => Sys2Proof.Machine.execSecondAdvance s
  | .passbackExpiry => Sys2Proof.Machine.execPassbackExpiry s
  | .holdExpiry => Sys2Proof.Machine.execHoldExpiry s
  | .pollOutcome lane outcome => Sys2Proof.Machine.execPollOutcome lane outcome s
  | .grant => Sys2Proof.Machine.execGrant s
  | .rotation lane => Sys2Proof.Machine.execRotation lane s
  | .armRestChange lane present => Sys2Proof.Machine.execArmRestChange lane present s
  | .beamChange lane beam blocked => Sys2Proof.Machine.execBeamChange lane beam blocked s
  | .unlockTimerExpiry lane => Sys2Proof.Machine.execUnlockTimerExpiry lane s
  | .beamStuckTimerExpiry lane beam => Sys2Proof.Machine.execBeamStuckTimerExpiry lane beam s
  | .armStuckTimerExpiry lane => Sys2Proof.Machine.execArmStuckTimerExpiry lane s
  | .displayTimeExpiry lane => Sys2Proof.Machine.execDisplayTimeExpiry lane s
  | .alarmTimerExpiry lane => Sys2Proof.Machine.execAlarmTimerExpiry lane s
  | .buzzerPatternEnd lane => Sys2Proof.Machine.execBuzzerPatternEnd lane s
  | .matchTimerExpiry lane list index => Sys2Proof.Machine.execMatchTimerExpiry lane list index s
  | .computationCompletion => Sys2Proof.Machine.execComputationCompletion s

end Sys2Proof.Machine
end

