-- ==== Sys2Proof/Machine/Step.lean ====
section
/-!
DEFINITION. One step: the command at the front of the queue; on an empty queue the calculator makes one of its steps.
-/

namespace Sys2Proof.Machine

/-- R132, assumption log 11: with no command in the queue a BUSY calculator makes one calculator step, and nothing else
happens (on a reachable state the line is settled already, assumption log 2). -/
def State.idle (s : State) : Host.Outcome State Fault Refusal := finish s.calculatorStep

/-- One step of the part. -/
def step (s : State) : Host.Outcome State Fault Refusal :=
  match s.pending with
  | [] => s.idle
  | c :: rest => exec c (s.setPending rest)

/-- The state with the command a table word spells at the front of its queue; no word spells one (assumption log 1). -/
def State.withFetchWord (s : State) (nbits w : Nat) : State :=
  match decodeTableWord nbits w with
  | some c => s.setPending (c :: s.pending)
  | none => s

end Sys2Proof.Machine
end

