-- ==== Sys2Proof/Safety.lean ====
section
/-!
DEFINITION. The terms claims use: which blocks a command may change, what a reply adds to the line, and the properties
of the state that every step keeps.
-/

namespace Sys2Proof.Machine

/-! ## Frames -/

/-- The blocks of the state, and the queue. -/
inductive Block where
  | lif | rcc | tariff | passes | xfer | lanes | ae | pbl | tally | rfc | quotes | journal | notices | pending
  deriving DecidableEq, Repr

/-- The block is the same in both states. -/
def Block.same (s u : State) : Block → Prop
  | .lif => u.lif = s.lif
  | .rcc => u.rcc = s.rcc
  | .tariff => u.tariff = s.tariff
  | .passes => u.passes = s.passes
  | .xfer => u.xfer = s.xfer
  | .lanes => u.lanes = s.lanes
  | .ae => u.ae = s.ae
  | .pbl => u.pbl = s.pbl
  | .tally => u.tally = s.tally
  | .rfc => u.rfc = s.rfc
  | .quotes => u.quotes = s.quotes
  | .journal => u.journal = s.journal
  | .notices => u.notices = s.notices
  | .pending => u.pending = s.pending

/-- Every block but those listed is the same in both states. -/
def State.keepsAllBut (s u : State) (bs : List Block) : Prop := ∀ b, b ∉ bs → b.same s u

/-- The line of `u` is that of `s` with one more reply at the young end of the reply queue. -/
def State.repliesWith (s u : State) (k : RequestKind) (tag : Byte) (st : StatusCode) (d : ReplyData) : Prop :=
  u.lif = { s.lif with replies := s.lif.replies ++ [replyFrame k.code tag st d] }

/-- The request is answered, and nothing else happens. -/
def State.onlyAnswers (s u : State) (k : RequestKind) (tag : Byte) (st : StatusCode) (d : ReplyData) : Prop :=
  s.repliesWith u k tag st d ∧ s.keepsAllBut u [.lif]

/-- R182, assumption log 1: the handler takes a request that arrives now: no frame stands before it in the inbound
buffers, and replies and reservations leave room for its reply. -/
def State.takes (s : State) : Prop := s.lif.inbound = [] ∧ s.lif.replies.length + s.reserved < 8

/-- Today's counters of a lane. -/
def State.counters (s : State) (l : LaneId) : LaneCounters := s.tally.today.lanes.get l

/-- The tally with today's counters of one lane replaced, and nothing else. -/
def State.tallyWith (s : State) (l : LaneId) (c : LaneCounters) : Tally :=
  { s.tally with today := { s.tally.today with lanes := s.tally.today.lanes.set l c } }

/-- The tally with today's counters of one lane replaced and one rider more, in the hour bin of the wall hour. -/
def State.tallyRider (s : State) (l : LaneId) (c : LaneCounters) : Tally :=
  { s.tally with today := { s.tally.today with
      lanes := s.tally.today.lanes.set l c
      riders := bump s.tally.today.riders
      hours := bumpAt s.tally.today.hours s.wallHour } }

/-- The tally with one lapse more at each lane that has an admission pending (R103). -/
def State.lapsedCounters (s : State) (l : LaneId) : LaneCounters :=
  { s.counters l with
    lapsed := if (s.pendingPass l).isSome then bump (s.counters l).lapsed else (s.counters l).lapsed }

/-- R103: the admissions pending at `s` have lost their markers in `u`, and nothing else of the Pass Table differs. -/
def State.markersEnded (s u : State) : Prop :=
  (u.passes.map fun e => { e with marker := none }) = (s.passes.map fun e => { e with marker := none }) ∧
    ∀ l pass, s.pendingPass l = some pass → ∀ e, u.findPass pass = some e → e.marker = none

/-- R91: the BUSY reply that a withdrawal at the lane places, if its waiting request is a TEST. -/
def State.busyReplies (s : State) (l : LaneId) : List OutFrame :=
  match s.ae.waiting.get l with
  | some { pass := _, kind := .test tag } => [replyFrame RequestKind.laneInject.code tag .busy .nothing]
  | _ => []

/-- R109: the entry stays in a list of this interval: it is PENDING, or COMMITTED and younger than the interval. -/
def PassbackEntry.staysAt (x : PassbackEntry) (stamp interval : Nat) : Bool :=
  match x.phase with
  | .pending _ => true
  | .committed c => decide (stamp - c < interval)

/-! ## What a request's fields name -/

/-- Table 1.2: every field of SITE_CONFIG is in its range. -/
def SiteFieldsInRange (f : SiteFields) : Prop :=
  f.liftNumber.toNat ≤ 15 ∧ f.rolloverMinute.toNat ≤ 1439 ∧ (4 ≤ f.readerLoss.toNat ∧ f.readerLoss.toNat ≤ 64) ∧
  (5 ≤ f.beamStuck.toNat ∧ f.beamStuck.toNat ≤ 60) ∧ (5 ≤ f.armStuck.toNat ∧ f.armStuck.toNat ≤ 60) ∧
  (1 ≤ f.matchWindow.toNat ∧ f.matchWindow.toNat ≤ 10) ∧ (30 ≤ f.holdTime.toNat ∧ f.holdTime.toNat ≤ 600)

/-- R20: the policy bytes of a product record name this refund policy. -/
def NamesPolicy (f : ProductFields) (r : RefundPolicy) : Prop :=
  r.fixedFee = f.fixedFee.toNat ∧ r.percentFee = f.percentFee.toNat ∧ f.percentFee.toNat ≤ 10000 ∧
  r.minimum = f.minimum.toNat ∧ r.rounding = f.rounding.toNat ∧ f.rounding.toNat ∈ [1, 5, 10, 25, 50, 100] ∧
  boolOf f.stormCredit = some r.stormCredit ∧ r.deadlineDays = f.deadlineDays.toNat ∧ f.deadlineDays.toNat ≤ 60

/-- R19, R20: the fields of PRODUCT_PUT are in their ranges, agree, and name this product. -/
def NamesProduct (f : ProductFields) (p : Product) : Prop :=
  ((f.kind.toNat = 0 ∧ p.kind = .days f.days.toNat ∧ 1 ≤ f.days.toNat ∧ f.days.toNat ≤ 14 ∧
      f.days.toNat ≤ f.window.toNat ∧ f.window.toNat ≤ 32) ∨
    (f.kind.toNat = 1 ∧ p.kind = .season ∧ f.days.toNat = 0 ∧ 1 ≤ f.window.toNat ∧ f.window.toNat ≤ 240 ∧
      p.policy = none)) ∧
  p.window = f.window.toNat ∧ p.liftMask = f.liftMask ∧
  p.openMinute = f.openMinute.toNat ∧ p.closeMinute = f.closeMinute.toNat ∧
  f.openMinute.toNat < f.closeMinute.toNat ∧ f.closeMinute.toNat ≤ 1440 ∧
  ((f.policyPresent.toNat = 0 ∧ p.policy = none) ∨
    (f.policyPresent.toNat = 1 ∧ ∃ r, p.policy = some r ∧ NamesPolicy f r))

/-- R33, step 1: the fields of a pass record are in their ranges, its product is present, and `st` is its status. -/
def State.namesPass (s : State) (r : PassRecord) (st : PassStatus) : Prop :=
  (1 ≤ r.pass.toNat ∧ r.pass.toNat ≤ 4294967294) ∧ (1 ≤ r.product.toNat ∧ r.product.toNat ≤ 63) ∧
  (s.product? r.product.toNat).isSome ∧ r.start.toNat ≤ 239 ∧
  ((r.status.toNat = 0 ∧ st = .active) ∨ (r.status.toNat = 1 ∧ st = .blocked) ∨
    (r.status.toNat = 3 ∧ st = .refunded))

/-- The definition fields and the status of an entry are those of a record (R35). -/
def SameAsRecord (e : PassEntry) (r : PassRecord) (st : PassStatus) : Prop :=
  e.product = r.product.toNat ∧ e.start = r.start.toNat ∧ e.price = r.price.toNat ∧ e.status = st

/-- R34: the entry a record adds. -/
def addedEntry (r : PassRecord) (st : PassStatus) : PassEntry :=
  { pass := r.pass.toNat, product := r.product.toNat, start := r.start.toNat, price := r.price.toNat,
    status := st, usage := none, marker := none, transferMark := true }

/-- R35: the entry a record leaves of an existing one: the usage part stays exactly when product code and window start
day are unchanged. -/
def replacedEntry (e : PassEntry) (r : PassRecord) (st : PassStatus) : PassEntry :=
  { pass := e.pass, product := r.product.toNat, start := r.start.toNat, price := r.price.toNat, status := st,
    usage := if e.product = r.product.toNat ∧ e.start = r.start.toNat then e.usage else none,
    marker := e.marker, transferMark := true }

/-! ## How a command ends -/

/-- The command answers the state `u` with the line settled. -/
def ends (i : Instr) (s u : State) : Prop := exec i s = .next u.settled

/-- The request ends in the state its owner makes of `s`, with the line settled. -/
def asks (i : Instr) (s u : State) : Prop := u = s.owner i ∧ ends i s u

/-- The part as it stands once a record has been written: the journal of R165, and the raise of R167. -/
def State.recorded (s u : State) (body : RecordBody) : Prop :=
  u.journal = s.journal.write s.stamp body ∧
    u.notices = (if (s.journal.write s.stamp body).isHigh then s.notices.raise .journalHigh else s.notices)

/-- A record written, with the raises it brings: JOURNAL_HIGH (R167), and QUOTE_ENDED behind a QUOTE_DROPPED (R150). -/
def recordAndRaise (stamp : Nat) (x : Journal × NoticeLatch) (body : RecordBody) : Journal × NoticeLatch :=
  let j := x.1.write stamp body
  let n := if j.isHigh then x.2.raise .journalHigh else x.2
  (j, match body with
    | .quoteDropped _ slot _ => n.raise (.quoteEnded slot)
    | _ => n)

/-! ## The clock and the site (R1, R14, Table 1.2) -/

/-- The clock and site configuration lie in their ranges, and UNSET and EXPIRED hold the values R1 gives. -/
def ClockBlock.Kept (c : ClockBlock) : Prop :=
  c.clock.day ≤ 239 ∧ c.clock.second ≤ 86399 ∧
  (c.clock.state = .unset → c.clock.day = 0 ∧ c.clock.second = 0 ∧ c.mode = .setup) ∧
  (c.clock.state = .expired → c.clock.day = 239 ∧ c.clock.second = 86399) ∧
  c.site.liftNumber ≤ 15 ∧ c.site.rolloverMinute ≤ 1439 ∧
  4 ≤ c.site.readerLoss ∧ c.site.readerLoss ≤ 64 ∧
  5 ≤ c.site.beamStuck ∧ c.site.beamStuck ≤ 60 ∧ 5 ≤ c.site.armStuck ∧ c.site.armStuck ≤ 60 ∧
  1 ≤ c.site.matchWindow ∧ c.site.matchWindow ≤ 10 ∧ 30 ≤ c.site.holdTime ∧ c.site.holdTime ≤ 600

/-- The Resort Clock and Calendar is kept. -/
def State.ClockKept (s : State) : Prop := s.rcc.Kept

/-! ## The Pass Table (R25, R26, R28, R29, R22) -/

/-- Strictly ascending by pass number (R25). -/
def PassesOrdered (es : List PassEntry) : Prop := es.Pairwise fun a b => a.pass < b.pass

/-- The definition fields of an entry lie in the ranges of Table 2.3. -/
def PassEntry.FieldsKept (e : PassEntry) : Prop :=
  (1 ≤ e.pass ∧ e.pass ≤ 4294967294) ∧ (1 ≤ e.product ∧ e.product ≤ 63) ∧ e.start ≤ 239 ∧ e.price ≤ 16777215

/-- R25, R26: the Pass Table is ordered, holds at most 4,096 entries, and their fields lie in their ranges. -/
def State.TableKept (s : State) : Prop :=
  PassesOrdered s.passes ∧ s.passes.length ≤ 4096 ∧ ∀ e ∈ s.passes, e.FieldsKept

/-- R28, R29: the days-used set holds each offset once, in ascending order, and the rides stay within their field. -/
def Usage.Ordered (u : Usage) : Prop := u.days.Pairwise (· < ·) ∧ u.rides ≤ 65535

/-- R22: within a product of kind DAYS or SEASON (`isDays`) and window `w`, the days-used set holds offsets of the
window only, and none for SEASON. -/
def Usage.Within (u : Usage) (isDays : Bool) (w : Nat) : Prop :=
  (isDays = false → u.days = []) ∧ ∀ d ∈ u.days, d < w

/-- R92: the decision day lies in the window of its pass. -/
def PassEntry.MarkerWithin (e : PassEntry) (w : Nat) : Prop :=
  ∀ m, e.marker = some m → e.start ≤ m.day ∧ m.day < e.start + w

/-- What R22 and R29 say of one entry, whose product is or was of the kind and window `shape`. -/
def PassEntry.UsageKept (e : PassEntry) (shape : Option (Bool × Nat)) : Prop :=
  (∀ u, e.usage = some u → u.Ordered) ∧
  ∀ isDays w, shape = some (isDays, w) →
    (∀ u, e.usage = some u → u.Within isDays w) ∧ e.MarkerWithin w

/-- Every present product has a window of at least one day (Table 2.1). -/
def State.WindowsKept (s : State) : Prop := ∀ code p, s.product? code = some p → 1 ≤ p.window

/-- R22, R29: the days-used set of every entry is a set of offsets within its product's window. -/
def State.OffsetsKept (s : State) : Prop :=
  s.TableKept ∧ s.WindowsKept ∧ ∀ e ∈ s.passes, e.UsageKept (s.productSlot e.product).shape

/-! ## The Journal and the Notice Latch (R162, R170) -/

/-- R162: at most 512 records, at most 64 of them SETTLEMENT; the counters stay within their fields. -/
def State.JournalKept (s : State) : Prop :=
  s.journal.records.length ≤ 512 ∧ s.journal.settlementCount ≤ 64 ∧
  s.journal.nextSeq < 65536 ∧ s.journal.gap ≤ 65535

/-- R170: at most one pending notice for each kind and subject. -/
def State.NoticesKept (s : State) : Prop := (s.notices.pending.map PendingNotice.key).Nodup

/-! ## The line (R178, R182, R184, R185) -/

/-- R184: replies and reservations never take more than 8 places. R182: at most two buffered frames. R178: the gap
timer runs in every receiver state but HUNT. R185: the transmitter has taken what it can take. -/
def State.LineKept (s : State) : Prop :=
  s.lif.replies.length + s.reserved ≤ 8 ∧ s.lif.inbound.length ≤ 2 ∧
  (s.lif.receiver.gapTimer = true ↔ s.lif.receiver.state ≠ .hunt) ∧
  (s.lif.shifting = none → s.lif.holding = none) ∧
  (s.lif.holding = none → s.lif.replies = [] ∧ s.notices.pending.find? s.notices.eligible = none)

/-- R182: a frame waits in the inbound buffers only while the reply queue cannot hold its reply. -/
def State.HandlerKept (s : State) : Prop := s.lif.inbound = [] ∨ 8 ≤ s.lif.replies.length + s.reserved

/-! ## The matching lists and the detector (R113, R115, R116) -/

/-- R116: each list holds at most 4 items and the two are never both non-empty; a DESK or OFF lane's stay empty.
R113, R115: its detector, and that of a lane with BEAM_STUCK latched, rests in IDLE. -/
def Lane.CountingKept (x : Lane) : Prop :=
  x.rotations.length ≤ 4 ∧ x.entries.length ≤ 4 ∧ (x.rotations = [] ∨ x.entries = []) ∧
  (x.role ≠ .gate → x.rotations = [] ∧ x.entries = [] ∧ x.detector = .idle) ∧
  (x.latches.beamStuck = true → x.detector = .idle)

/-- The counting state of every lane is kept. -/
def State.CountingKept (s : State) : Prop := ∀ l, (s.lane l).CountingKept

/-! ## Pending admissions (R30, R106) -/

/-- The passback list holds a PENDING entry for a pass and a lane. -/
def State.pendingAt (s : State) (pass : Nat) (l : LaneId) : Prop :=
  { pass := pass, phase := .pending l : PassbackEntry } ∈ s.pbl.entries

/-- The pass table holds an entry of the pass with an admission marker for the lane. -/
def State.markedAt (s : State) (pass : Nat) (l : LaneId) : Prop :=
  ∃ e ∈ s.passes, e.pass = pass ∧ ∃ m, e.marker = some m ∧ m.lane = l

/-- R64, R77: what holds at a lane with an admission pending: it is UNLOCKED, with its unlock timer running and no
request waiting. -/
def State.UnlockedAt (s : State) (l : LaneId) : Prop :=
  s.laneState l = .unlocked ∧ (s.lane l).role = .gate ∧ (s.lane l).armOverride ≠ .lock ∧
  s.closedCondition = false ∧ s.isWaiting l = false ∧ (s.lane l).unlockTimer.isSome

/-- R67, R77: a GATE request waits at a GATE lane that is neither in FAULT nor under LOCK. -/
def State.GateRequestsKept (s : State) : Prop :=
  ∀ l r, s.ae.waiting.get l = some r → r.kind = .gate →
    (s.lane l).role = .gate ∧ (s.lane l).latches.any = false ∧ (s.lane l).armOverride ≠ .lock

/-- R30, R106: the passback list holds at most 256 entries and one for each pass; its PENDING entries correspond one to
one to the admission markers and to the lanes in UNLOCKED; no marked entry is held. -/
def State.AdmissionsKept (s : State) : Prop :=
  PassesOrdered s.passes ∧
  s.pbl.entries.length ≤ 256 ∧ (s.pbl.entries.map PassbackEntry.pass).Nodup ∧
  (∀ p l, s.pendingAt p l ↔ s.markedAt p l) ∧
  (∀ p q l, s.pendingAt p l → s.pendingAt q l → p = q) ∧
  (∀ p l, s.pendingAt p l → s.UnlockedAt l) ∧
  s.GateRequestsKept ∧
  ∀ e ∈ s.passes, e.marker.isSome → e.isHeld = false

/-! ## Open quotes (R128, R129, R146, R147) -/

/-- R147: every occupied slot names a pass in REFUND_HOLD with that slot, and every such pass is named by it. -/
def State.HoldsMatch (s : State) : Prop :=
  (∀ slot i, (s.slot slot).state.identity? = some i →
    ∃ e ∈ s.passes, e.pass = i.pass ∧ e.status = .refundHold slot) ∧
  ∀ e ∈ s.passes, ∀ slot, e.status = .refundHold slot →
    ∃ i, (s.slot slot).state.identity? = some i ∧ i.pass = e.pass

/-- R128: the calculator queue holds each QUEUED slot once and no other; the busy slot is the one COMPUTING or
CANCELLING; R129: an IDLE calculator has an empty queue. -/
def State.CalculatorKept (s : State) : Prop :=
  s.rfc.queue.Nodup ∧
  (∀ slot, slot ∈ s.rfc.queue ↔ (s.slot slot).state.phase = .queued) ∧
  (∀ c, s.rfc.busy = some c →
    (∃ i, (s.slot c.slot).state = .computing i c.snapshot) ∨ (s.slot c.slot).state = .cancelling) ∧
  (∀ slot, (s.slot slot).state.phase = .computing ∨ (s.slot slot).state.phase = .cancelling →
    ∃ c, s.rfc.busy = some c ∧ c.slot = slot) ∧
  (s.rfc.busy = none → s.rfc.queue = [])

/-- R128, R132: a BUSY calculator has made at most its 120 steps, and holds the working quantities those steps give. -/
def State.WorkKept (s : State) : Prop :=
  ∀ c, s.rfc.busy = some c → c.steps ≤ 120 ∧ c.work = workAfter c.snapshot c.steps

/-- R16, R20, R130: in SETUP every slot is FREE; the product of a held pass stays refundable. -/
def State.HeldProductsKept (s : State) : Prop :=
  (s.rcc.mode = .setup → ∀ slot, (s.slot slot).state = .free) ∧
  ∀ e ∈ s.passes, e.isHeld = true → (s.refundTerms e).isSome

/-- R128, R129, R147: the quote slots, the held passes and the calculator agree. -/
def State.QuotesKept (s : State) : Prop :=
  PassesOrdered s.passes ∧ s.HoldsMatch ∧ s.CalculatorKept ∧ s.HeldProductsKept

/-! ## The balances of the tally (R112, R121) -/

/-- The sum of a list of counters. -/
def total (ns : List Nat) : Nat := ns.foldl (· + ·) 0

/-- The counters of R121 that a lane adds to. -/
def LaneCounters.riderCounts (c : LaneCounters) : List Nat := [c.paid, c.free, c.forced, c.under]

/-- Paid, free, forced and under of all lanes. -/
def TallySet.riderCounts (t : TallySet) : List Nat := (t.lanes.toList.map LaneCounters.riderCounts).flatten

/-- No counter of R121 has reached its ceiling. -/
def TallySet.ridersBelowCeiling (t : TallySet) : Prop :=
  t.riders < Config.counterCeiling ∧ (∀ n ∈ t.riderCounts, n < Config.counterCeiling) ∧
  ∀ n ∈ t.hours.toList, n < Config.counterCeiling

/-- R121: while no counter has reached its ceiling, riders equal the lanes' counts and the hour bins. -/
def State.RidersBalanced (s : State) : Prop :=
  s.tally.today.ridersBelowCeiling →
    s.tally.today.riders = total s.tally.today.riderCounts ∧
    s.tally.today.riders = total s.tally.today.hours.toList

/-- No counter of R112 has reached its ceiling at a lane. -/
def LaneCounters.admittedBelowCeiling (c : LaneCounters) : Prop :=
  c.admittedCount < Config.counterCeiling ∧ c.paid < Config.counterCeiling ∧ c.lapsed < Config.counterCeiling

/-- R112: at every lane, while no counter has reached its ceiling, admitted equals paid, lapsed and pending. -/
def State.AdmittedBalanced (s : State) : Prop :=
  ∀ l, (s.tally.today.lanes.get l).admittedBelowCeiling →
    (s.tally.today.lanes.get l).admittedCount =
      (s.tally.today.lanes.get l).paid + (s.tally.today.lanes.get l).lapsed + s.pendingCount l

/-! ## Steps -/

/-- Every step that answers a next state keeps the property. -/
def KeptByStep (P : State → Prop) : Prop := ∀ s t, P s → step s = .next t → P t

end Sys2Proof.Machine
end

