-- ==== Sys2Proof/Certificates/Slice0/Obligations.lean ====
section
/-!
DEFINITION. The statements about the part, for the provers.

A request's statement assumes `s.takes`: the handler takes a request that arrives now (BufferedRequestsWaitAndAreTaken
says what happens otherwise). `ends c s u` says that exec answers the state `u` with the line settled, and `asks c s u`
that in addition `u` is what the request's owner makes of `s` (BufferedRequestsWaitAndAreTaken and TransmitterOrder say
how the line settles). Where a shared operation is named in a statement
(lapse, refuse, latchFault, dropQuote), a statement of its own says what it does.
-/

open Sys2Proof Sys2Proof.Machine

/-! ## The machine -/

/-- A step takes the command at the front of the queue and runs exec on it with the queue's rest. -/
def Obligations.StepRunsTheFrontCommand : Prop :=
  ∀ (c : Instr) (rest : List Instr) (s : State), s.pending = c :: rest → step s = exec c (s.setPending rest)

/-- Every command of the table, in every state, answers a next state, and leaves the queue as it was: no command
faults and none is refused. -/
def Obligations.EveryCommandAnswersNext : Prop :=
  ∀ (c : Instr) (s : State), ∃ t, exec c s = .next t ∧ t.pending = s.pending

/-- R182, with the model's choices of assumption logs 1, 2 and 11: a request that arrives with no frame before it and
with room for its reply is taken by its owner. Otherwise its frame joins the inbound buffers, or is discarded with
OVERRUN where both are full; a frame equal to one that stands there joins as any other. At the end of every event the
transmitter draws its frames, and the handler takes the buffered frames, oldest first, as long as the reply queue can
hold the reply, the transmitter serving each. On an empty queue of commands a BUSY calculator makes one of its 120
calculator steps, and the part idles otherwise; the line settles in the same way. -/
def Obligations.BufferedRequestsWaitAndAreTaken : Prop :=
  (∀ (i : Instr) (f : InFrame) (s : State), WellFormed i → encodeRequest i = some f →
    (s.takes → ends i s (s.owner i)) ∧
    (¬ s.takes → s.lif.inbound.length < 2 →
      ends i s (s.setLif { s.lif with inbound := s.lif.inbound ++ [f] })) ∧
    (¬ s.takes → 2 ≤ s.lif.inbound.length →
      ends i s (s.setLif { s.lif with flags := { s.lif.flags with overrun := true } }))) ∧
  (∀ s : State,
    (s.lif.inbound = [] → s.settled = s.pump) ∧
    (8 ≤ s.pump.lif.replies.length + s.pump.reserved → s.settled = s.pump) ∧
    (∀ f rest, s.lif.inbound = f :: rest → s.pump.lif.replies.length + s.pump.reserved < 8 →
      s.settled = ((s.pump.setLif { s.pump.lif with inbound := rest }).owner (decodeFrame f)).settled)) ∧
  (∀ (i : Instr) (s : State), (s.owner i).lif.inbound = s.lif.inbound) ∧
  (∀ s : State, s.pending = [] →
    (s.rfc.busy = none → step s = .next s.settled) ∧
    (∀ c d, s.rfc.busy = some c →
      d = (if c.steps < 120 then { c with steps := c.steps + 1, work := c.work.step c.snapshot c.steps } else c) →
      step s = .next (s.setRfc { s.rfc with busy := some d }).settled))

/-- R185, R172: an empty holding frame takes the reply at the head of the queue, otherwise the oldest pending notice
of an unmasked kind, formed at that moment; with nothing on the line the frame goes out at once (assumption log 4: the
model's choice). R177: a frame on the line is 0xD5, LEN, KIND, TAG, the payload and CHECK, high byte first: the check
register starts at 0xFFFF, takes each byte of LEN to the payload in its high byte, and is shifted eight times with the
polynomial 0x1021. A reply has its request's KIND with the top bit set, its TAG, and its status byte first; a notice has
KIND 0x7F, TAG 0, its kind code and its subject (R185). Table 10.1: the status codes; Table 9.3, R185: the kind codes of
notices and their subjects, 0xFF where a kind has none. -/
def Obligations.TransmitterOrder : Prop :=
  (([.ok, .accepted, .badFormat, .badValue, .wrongMode, .notReady, .notFound, .full, .pending, .held, .busy, .stale,
      .deadline, .alreadyRefunded, .notRefundable, .nothingDue, .blocked, .journalFull, .conditionPresent, .backward,
      .noTransfer, .transferOpen] : List StatusCode).map StatusCode.code =
    [0x00, 0x01, 0x02, 0x03, 0x04, 0x05, 0x06, 0x07, 0x08, 0x09, 0x0A, 0x0B, 0x0C, 0x0D, 0x0E, 0x0F, 0x10, 0x11, 0x12,
      0x13, 0x14, 0x15]) ∧
  (∀ (l : LaneId) (k : SlotId),
    ([.laneFault l, .laneAlarm l, .deskRead l, .quoteReady k, .quoteEnded k, .dayRolled, .journalHigh,
        .clockExpired] : List NoticeKey).map (fun key => (key.kind.code, key.subject)) =
      [(0, l.val), (1, l.val), (2, l.val), (3, k.val), (4, k.val), (5, 0xFF), (6, 0xFF), (7, 0xFF)]) ∧
  (∀ (kind tag : Byte) (st : StatusCode) (d : ReplyData) (body : List Byte) (check : BitVec 16),
    body = BitVec.ofNat 8 (d.bytes.length + 1) :: (kind ||| 0x80) :: tag :: BitVec.ofNat 8 st.code :: d.bytes →
    check = checkWord body →
    (replyFrame kind tag st d).wire =
      0xD5#8 :: body ++ [check.extractLsb' 8 8, check.extractLsb' 0 8]) ∧
  (∀ (key : NoticeKey) (c : NoticeContent) (body : List Byte) (check : BitVec 16),
    body = BitVec.ofNat 8 (c.bytes.length + 2) :: 0x7F#8 :: 0#8 :: BitVec.ofNat 8 key.kind.code ::
      BitVec.ofNat 8 key.subject :: c.bytes →
    check = checkWord body →
    (OutFrame.notice key c).wire = 0xD5#8 :: body ++ [check.extractLsb' 8 8, check.extractLsb' 0 8]) ∧
  (checkWord [] = 0xFFFF ∧
    (∀ (bs : List Byte) (b : Byte), checkWord (bs ++ [b]) =
      (List.range 8).foldl (fun (c : BitVec 16) _ => if c.msb then (c <<< 1) ^^^ 0x1021 else c <<< 1)
        (checkWord bs ^^^ (b.setWidth 16 <<< 8))) ∧
    checkWord [0x31, 0x32, 0x33, 0x34, 0x35, 0x36, 0x37, 0x38, 0x39] = 0x29B1) ∧
  ∀ s : State,
    (∀ f h, s.lif.shifting = some f → s.lif.holding = some h → s.pump = s) ∧
    (∀ f r rest, s.lif.shifting = some f → s.lif.holding = none → s.lif.replies = r :: rest →
      s.pump = s.setLif { s.lif with holding := some r, replies := rest }) ∧
    (∀ f x, s.lif.shifting = some f → s.lif.holding = none → s.lif.replies = [] →
      s.notices.pending.find? s.notices.eligible = some x →
      s.pump = (s.setLif { s.lif with holding := some (.notice x.key (s.noticeContent x)) }).setNotices
        { s.notices with pending := s.notices.pending.eraseP s.notices.eligible }) ∧
    (∀ f, s.lif.shifting = some f → s.lif.holding = none → s.lif.replies = [] →
      s.notices.pending.find? s.notices.eligible = none → s.pump = s) ∧
    (∀ h, s.lif.shifting = none → s.lif.holding = some h →
      s.pump = (s.setLif { s.lif with shifting := some h, holding := none }).pump) ∧
    (∀ r rest, s.lif.shifting = none → s.lif.holding = none → s.lif.replies = r :: rest →
      s.pump = (s.setLif { s.lif with shifting := some r, replies := rest }).pump) ∧
    (∀ x, s.lif.shifting = none → s.lif.holding = none → s.lif.replies = [] →
      s.notices.pending.find? s.notices.eligible = some x →
      s.pump = ((s.setLif { s.lif with shifting := some (.notice x.key (s.noticeContent x)) }).setNotices
        { s.notices with pending := s.notices.pending.eraseP s.notices.eligible }).pump) ∧
    (s.lif.shifting = none → s.lif.holding = none → s.lif.replies = [] →
      s.notices.pending.find? s.notices.eligible = none → s.pump = s)

/-! ## Resets and modes -/

/-- The values the manual gives after a cold reset (Tables 1.1, 1.2, 2.6, 4.9, 5.4, 6.3, 8.4, 9.2, 9.5; R44, R178 to
R185), block by block: the clock and site, the tables, the transfer record with its counts, every field of every lane
but its three input levels, the outputs of an OFF lane, the Admission Engine, the Passback List, both tally sets, the
calculator, the quote slots, the Journal, the Notice Latch and the line. The levels of straps and lane inputs are the
model's choice (assumption log 7) and are not stated. -/
def Obligations.StateAfterReset : Prop :=
  State.reset.rcc.clock = { state := .unset, day := 0, second := 0 } ∧
  State.reset.rcc.site = { liftNumber := 0, rolloverMinute := 180, readerLoss := 16, beamStuck := 20,
                           armStuck := 10, matchWindow := 3, holdTime := 180 } ∧
  State.reset.rcc.lift = .closed ∧ State.reset.rcc.mode = .setup ∧
  (∀ day, State.reset.markOf day = .noMark) ∧
  (∀ code, State.reset.product? code = none) ∧ State.reset.passes = [] ∧
  State.reset.xfer = { condition := .none, header := none, load := ⟨0, 0, 0, 0, 0, 0, 0, 0, 0⟩,
                       verify := ⟨0, 0, 0, 0⟩, firstDifference := none } ∧
  (∀ l, State.reset.lane l =
      { role := .off, unlockTimeout := 8, autoQuote := false
        beamA := (State.reset.lane l).beamA, beamB := (State.reset.lane l).beamB
        armRest := (State.reset.lane l).armRest
        silentCount := 0, lossPresent := false, recoveryCount := 0
        latches := { readerLost := false, beamStuck := false, armStuck := false }
        beamATimer := none, beamBTimer := none, armTimer := none, unlockTimer := none
        armOverride := .auto, greenOverride := .auto, amberOverride := .auto, redOverride := .auto
        buzzerOverride := .auto, display := none, pattern := .silence, alarmTimer := false, forcedStamp := 0
        detector := .idle, rotations := [], entries := [] } ∧
    State.reset.latchRelease l = false ∧ State.reset.lamps l = ⟨.dark, .dark, .dark⟩ ∧
    State.reset.buzzer l = .silent ∧ State.reset.laneState l = .off ∧ State.reset.ae.waiting.get l = none) ∧
  State.reset.ae.pointer = 0 ∧
  State.reset.pbl = { entries := [], interval := 300, evictions := 0 } ∧
  State.reset.tally.today = TallySet.zero (some 0) ∧ State.reset.tally.previous = TallySet.zero none ∧
  (∀ day, TallySet.zero day =
      { day := day, lanes := (TallySet.zero day).lanes, riders := 0, newDays := 0, refundsSettled := 0
        payoutTotal := 0, hours := Vector.replicate 24 0 } ∧
    ∀ l, (TallySet.zero day).lanes.get l =
      { admittedCount := 0, paid := 0, lapsed := 0, free := 0, forced := 0, under := 0, testReads := 0
        deskReads := 0, refusals := Vector.replicate 19 0 }) ∧
  State.reset.rfc = { busy := none, queue := [] } ∧
  (∀ i, State.reset.slot i = { state := .free, lastEnding := none }) ∧
  State.reset.journal = { records := [], nextSeq := 0, gap := 0 } ∧
  State.reset.notices.pending = [] ∧ (∀ k, State.reset.notices.mask.get k = false) ∧
  State.reset.lif.receiver = { state := .hunt, chars := [], gapTimer := false } ∧
  State.reset.lif.inbound = [] ∧ State.reset.lif.replies = [] ∧ State.reset.lif.holding = none ∧
  State.reset.lif.shifting = none ∧ State.reset.lif.flags = LineFlags.clear ∧ State.reset.pending = []

/-- COLD_RESET completes in every state: every block takes its reset values and the straps are sampled; the levels of
the lane inputs and the queue stay (assumption log 7). -/
def Obligations.ColdResetReturnsEveryBlock : Prop :=
  ∀ (rate1 rate0 : Bool) (s : State), ∃ t, exec (.coldReset rate1 rate0) s = .next t ∧
    t.lif = { State.reset.lif with straps := { rate1 := rate1, rate0 := rate0 } } ∧
    (∀ l, t.lane l = { State.reset.lane l with
      beamA := (s.lane l).beamA, beamB := (s.lane l).beamB, armRest := (s.lane l).armRest }) ∧
    t.pending = s.pending ∧ State.reset.keepsAllBut t [.lif, .lanes, .pending]

/-- R17, R91, R103, R104, R111, R150, R163, R184: RESTART completes whenever it is taken. The notices pending before
are gone; the waiting requests are withdrawn in lane order, each TEST answered BUSY; the pending admissions lapse in lane
order; the open quotes are dropped in slot order, their passes ACTIVE again; the calculator is IDLE; the lift is CLOSED
and the mode SETUP; an open transfer is closed; the lanes' overrides are AUTO. The journal keeps its records and takes
LAPSED, QUOTE_DROPPED, LIFT (where the lift was not CLOSED) and MODE in that order, each with its raises, and the OK
reply comes last. Clock, site, calendar, tariff, COMMITTED passback entries, latches, roles, input levels, and every
entry's other fields are kept. That a chirp or double tone then sounding runs to its end is the model's choice
(assumption log 19). -/
def Obligations.RestartEndsWorkInFlight : Prop :=
  ∀ (tag : Byte) (s : State), s.takes → ∃ u, asks (.restart tag) s u ∧
    u.rcc = { s.rcc with mode := .setup, lift := .closed } ∧
    u.passes = s.passes.map (fun e => { e with
      marker := if some e.pass ∈ fourInOrder.map s.pendingPass then none else e.marker
      status := if some e.pass ∈ fourInOrder.map (fun k => (s.slot k).state.identity?.map QuoteIdentity.pass)
        then .active else e.status }) ∧
    u.xfer = { s.xfer with
      condition := if s.xfer.condition = .isOpen then .restarted else s.xfer.condition } ∧
    (∀ l, u.lane l = { s.lane l with
      unlockTimer := if (s.pendingPass l).isSome then none else (s.lane l).unlockTimer
      armOverride := .auto, greenOverride := .auto, amberOverride := .auto, redOverride := .auto,
      buzzerOverride := .auto, display := none, alarmTimer := false
      pattern := if (s.lane l).pattern = .alarm then .silence else (s.lane l).pattern
      detector := .idle, rotations := [], entries := [] }) ∧
    (∀ l, u.pendingPass l = none ∧ u.ae.waiting.get l = none) ∧ u.ae.pointer = 0 ∧
    u.pbl = { s.pbl with entries := s.pbl.entries.filter PassbackEntry.isCommitted } ∧
    u.tally = { s.tally with today := { s.tally.today with lanes := u.tally.today.lanes } } ∧
    (∀ l, u.counters l = { s.counters l with
      lapsed := if (s.pendingPass l).isSome then bump (s.counters l).lapsed else (s.counters l).lapsed }) ∧
    u.rfc = { busy := none, queue := [] } ∧
    (∀ k, u.slot k = { state := .free, lastEnding := match (s.slot k).state.identity? with
      | some i => some { pass := i.pass, reason := .restart }
      | none => (s.slot k).lastEnding }) ∧
    (∀ records, records =
        fourInOrder.filterMap (fun l => (s.pendingPass l).map fun p => RecordBody.lapsed l p .restart) ++
        fourInOrder.filterMap (fun k =>
          (s.slot k).state.identity?.map fun i => RecordBody.quoteDropped i.pass k .restart) ++
        (if s.rcc.lift = .closed then [] else [RecordBody.lift .closed]) ++ [RecordBody.mode .setup .restart] →
      u.journal = records.foldl (fun j b => j.write s.stamp b) s.journal ∧
      (u.journal, u.notices) = records.foldl (recordAndRaise s.stamp)
        (s.journal, { s.notices with pending := [] })) ∧
    u.lif = { s.lif with
      replies := s.lif.replies ++ s.busyReplies 0 ++ s.busyReplies 1 ++ s.busyReplies 2 ++ s.busyReplies 3 ++
        [replyFrame RequestKind.restart.code tag .ok .nothing] } ∧
    u.tariff = s.tariff ∧ u.pending = s.pending

/-- R15, R16: RUN is refused with NOT_READY while the clock is not RUNNING, changes nothing in RUN, and in SETUP moves
the part to RUN with a MODE record. SETUP changes nothing in SETUP; from RUN it is refused with BUSY while an admission
is pending at a lane or a slot is not FREE, and otherwise moves the part to SETUP with a MODE record. -/
def Obligations.ModeRequestsMoveTheMode : Prop :=
  (∀ (tag : Byte) (s : State), s.takes → ∃ u, asks (.run tag) s u ∧
    (s.rcc.clock.state ≠ .running → s.onlyAnswers u .run tag .notReady .nothing) ∧
    (s.rcc.clock.state = .running → s.rcc.mode = .run → s.onlyAnswers u .run tag .ok .nothing) ∧
    (s.rcc.clock.state = .running → s.rcc.mode = .setup →
      u.rcc = { s.rcc with mode := .run } ∧ s.recorded u (.mode .run .request) ∧
      s.repliesWith u .run tag .ok .nothing ∧ s.keepsAllBut u [.lif, .rcc, .journal, .notices])) ∧
  (∀ (tag : Byte) (s : State), s.takes → ∃ u, asks (.setup tag) s u ∧
    (s.rcc.mode = .setup → s.onlyAnswers u .setup tag .ok .nothing) ∧
    (∀ i, s.rcc.mode = .run → ((s.pendingPass i).isSome ∨ (s.slot i).state ≠ .free) →
      s.onlyAnswers u .setup tag .busy .nothing) ∧
    (s.rcc.mode = .run → (∀ i, s.pendingPass i = none ∧ (s.slot i).state = .free) →
      u.rcc = { s.rcc with mode := .setup } ∧ s.recorded u (.mode .setup .request) ∧
      s.repliesWith u .setup tag .ok .nothing ∧ s.keepsAllBut u [.lif, .rcc, .journal, .notices]))

/-- SITE_CONFIG (R8) is refused with WRONG_MODE in RUN, and in SETUP takes all seven fields together or none of them.
CALENDAR_MARK (R12) sets the mark of one day, or is refused with BAD_VALUE; its mark byte is 0 NONE, 1 CLOSED_EARLY,
2 CLOSED_ALL_DAY (section 10.9). -/
def Obligations.SiteConfigAndCalendarMark : Prop :=
  (∀ b : Byte, dayMarkOf b = ([.noMark, .closedEarly, .closedAllDay] : List DayMark)[b.toNat]?) ∧
  (∀ (tag : Byte) (f : SiteFields) (s : State), s.takes →
    ∃ u, asks (.siteConfig tag f) s u ∧
      (s.rcc.mode = .run → s.onlyAnswers u .siteConfig tag .wrongMode .nothing) ∧
      (s.rcc.mode = .setup → ¬ SiteFieldsInRange f → s.onlyAnswers u .siteConfig tag .badValue .nothing) ∧
      (s.rcc.mode = .setup → SiteFieldsInRange f →
        u.rcc = { s.rcc with site :=
          { liftNumber := f.liftNumber.toNat, rolloverMinute := f.rolloverMinute.toNat,
            readerLoss := f.readerLoss.toNat, beamStuck := f.beamStuck.toNat, armStuck := f.armStuck.toNat,
            matchWindow := f.matchWindow.toNat, holdTime := f.holdTime.toNat } } ∧
        s.repliesWith u .siteConfig tag .ok .nothing ∧ s.keepsAllBut u [.lif, .rcc])) ∧
  (∀ (tag day mark : Byte) (s : State), s.takes →
    ∃ u, asks (.calendarMark tag day mark) s u ∧
      (239 < day.toNat ∨ dayMarkOf mark = none → s.onlyAnswers u .calendarMark tag .badValue .nothing) ∧
      (∀ m, day.toNat ≤ 239 → dayMarkOf mark = some m →
        u.markOf day.toNat = m ∧ (∀ d, d ≠ day.toNat → u.markOf d = s.markOf d) ∧
        u.rcc = { s.rcc with calendar := u.rcc.calendar } ∧
        s.repliesWith u .calendarMark tag .ok .nothing ∧ s.keepsAllBut u [.lif, .rcc]))

/-! ## The clock and the lift -/

/-- SET_CLOCK (R5, R6): out of range BAD_VALUE; in SETUP the clock runs from the values carried, the COMMITTED passback
entries go and today's set stands for the new day; in RUN an earlier day is BACKWARD, the same day moves the second, a
later day makes the rollover effects once, for the day being left. Every COMMITTED entry that the moved stamp makes due
goes (R109), and then every hold that it makes due is dropped with EXPIRED, in slot order (R7, R152, QuotesEndUnsettled;
that it happens at this event is assumption log 10, the model's choice); with none due the passes, the quotes and the
calculator stay. -/
def Obligations.SetClockByMode : Prop :=
  ∀ (tag day : Byte) (second : U24) (s : State), s.takes →
    ∃ u, asks (.setClock tag day second) s u ∧
      (239 < day.toNat ∨ 86399 < second.toNat → s.onlyAnswers u .setClock tag .badValue .nothing) ∧
      (day.toNat ≤ 239 → second.toNat ≤ 86399 → s.rcc.mode = .run → day.toNat < s.rcc.clock.day →
        s.onlyAnswers u .setClock tag .backward .nothing) ∧
      (∀ stamp, day.toNat ≤ 239 → second.toNat ≤ 86399 → (s.rcc.mode = .run → s.rcc.clock.day ≤ day.toNat) →
        stamp = day.toNat * 86400 + second.toNat →
        (∃ w, w.rcc = { s.rcc with
            clock := { state := .running, day := day.toNat, second := second.toNat } } ∧
          s.keepsAllBut w [.rcc, .pbl, .tally, .journal, .notices] ∧
          u = ((((w.expireHold 0).expireHold 1).expireHold 2).expireHold 3).answerCode .setClock tag .ok ∧
          ((∀ k i x r e, (s.slot k).state = .quoted i x r e → stamp < e) → u = w.answerCode .setClock tag .ok) ∧
          (s.rcc.mode = .setup →
            w.pbl = { s.pbl with entries := s.pbl.entries.filter fun x => !x.isCommitted } ∧
            w.tally = { s.tally with today := { s.tally.today with day := some day.toNat } } ∧
            w.journal = s.journal ∧ w.notices = s.notices) ∧
          (s.rcc.mode = .run → day.toNat = s.rcc.clock.day →
            w.pbl = { s.pbl with entries := s.pbl.entries.filter fun x => x.staysAt stamp s.pbl.interval } ∧
            w.tally = s.tally ∧ w.journal = s.journal ∧ w.notices = s.notices) ∧
          (s.rcc.mode = .run → s.rcc.clock.day < day.toNat →
            w.pbl = { s.pbl with entries := s.pbl.entries.filter fun x => !x.isCommitted } ∧
            w.tally = { today := s.clearedSet (some day.toNat), previous := s.tally.today } ∧
            w.journal = s.journal.write stamp
              (.dayRoll s.rcc.clock.day s.tally.today.riders s.tally.today.newDays
                s.tally.today.refundsSettled s.tally.today.payoutTotal) ∧
            w.notices = (if w.journal.isHigh then s.notices.raise .journalHigh else s.notices).raise
              .dayRolled)) ∧
        s.repliesWith u .setClock tag .ok .nothing ∧
        s.keepsAllBut u [.lif, .rcc, .passes, .pbl, .tally, .rfc, .quotes, .journal, .notices] ∧
        ((∀ k i x r e, (s.slot k).state = .quoted i x r e → stamp < e) →
          s.keepsAllBut u [.lif, .rcc, .pbl, .tally, .journal, .notices]))

/-- R10, R11: LIFT_STATUS of an unknown value is BAD_VALUE, of the status held changes nothing, and of another writes
its LIFT record first and then, at a close, lapses every pending admission in lane order (LapseEndsTheAdmission). The
byte is 0 OPEN, 1 HOLD, 2 CLOSED (section 10.9). -/
def Obligations.LiftStatusChanges : Prop :=
  (∀ b : Byte, liftStatusOf b = ([.isOpen, .hold, .closed] : List LiftStatus)[b.toNat]?) ∧
  ∀ (tag value : Byte) (s : State), s.takes →
    ∃ u, asks (.liftStatus tag value) s u ∧
      (liftStatusOf value = none → s.onlyAnswers u .liftStatus tag .badValue .nothing) ∧
      (liftStatusOf value = some s.rcc.lift → s.onlyAnswers u .liftStatus tag .ok .nothing) ∧
      (∀ v, liftStatusOf value = some v → v ≠ s.rcc.lift → v ≠ .closed →
        u.rcc = { s.rcc with lift := v } ∧ s.recorded u (.lift v) ∧
        s.repliesWith u .liftStatus tag .ok .nothing ∧ s.keepsAllBut u [.lif, .rcc, .journal, .notices]) ∧
      (liftStatusOf value = some .closed → s.rcc.lift ≠ .closed →
        ∃ w, w.rcc = { s.rcc with lift := .closed } ∧ s.recorded w (.lift .closed) ∧
          s.keepsAllBut w [.rcc, .journal, .notices] ∧
          u = ((((w.lapse 0 .liftClosed).lapse 1 .liftClosed).lapse 2 .liftClosed).lapse 3 .liftClosed).answerCode
            .liftStatus tag .ok ∧
          ∀ l, u.pendingPass l = none)

/-- R2: a second advance changes nothing while the clock is UNSET or EXPIRED; while it runs, below second 86,399, the
second goes up by one and every COMMITTED passback entry that has reached the interval goes (R109). R3, R4, R126: the
second advance at second 86,399 starts the next day, clears the COMMITTED passback entries, moves the tally, writes
DAY_ROLL and raises DAY_ROLLED; on day 239 it sets the clock EXPIRED, then lapses every pending admission in lane order
with SEASON_END (LapseEndsTheAdmission), then makes the same day's-end effects, and raises CLOCK_EXPIRED last. Last of
all, every hold due at the stamp reached is dropped with EXPIRED, in slot order (R7, R152, QuotesEndUnsettled; that it
happens at this event, after its other effects, is assumption log 10, the model's choice). -/
def Obligations.SecondAdvanceAndDayEnd : Prop :=
  (∀ s : State, ∃ u, ends .secondAdvance s u ∧
    (s.rcc.clock.state ≠ .running → u = s) ∧
    (s.rcc.clock.state = .running → s.rcc.clock.second < 86399 →
      (∃ w, w.rcc = { s.rcc with clock := { s.rcc.clock with second := s.rcc.clock.second + 1 } } ∧
        w.pbl = { s.pbl with entries := s.pbl.entries.filter fun x => x.staysAt (s.stamp + 1) s.pbl.interval } ∧
        s.keepsAllBut w [.rcc, .pbl] ∧
        u = (((w.expireHold 0).expireHold 1).expireHold 2).expireHold 3) ∧
      s.keepsAllBut u [.rcc, .passes, .pbl, .rfc, .quotes, .journal, .notices] ∧
      ((∀ k i x r e, (s.slot k).state = .quoted i x r e → s.stamp + 1 < e) → s.keepsAllBut u [.rcc, .pbl]))) ∧
  (∀ s : State, s.rcc.clock.state = .running → s.rcc.clock.second = 86399 → ∃ u, ends .secondAdvance s u ∧
    (s.rcc.clock.day < 239 →
      (∃ w, w.rcc = { s.rcc with clock := { state := .running, day := s.rcc.clock.day + 1, second := 0 } } ∧
        w.tally = { today := s.clearedSet (some (s.rcc.clock.day + 1)), previous := s.tally.today } ∧
        w.pbl = { s.pbl with entries := s.pbl.entries.filter fun x => !x.isCommitted } ∧
        w.journal = s.journal.write (s.stamp + 1)
          (.dayRoll s.rcc.clock.day s.tally.today.riders s.tally.today.newDays s.tally.today.refundsSettled
            s.tally.today.payoutTotal) ∧
        w.notices = (if w.journal.isHigh then s.notices.raise .journalHigh else s.notices).raise .dayRolled ∧
        s.keepsAllBut w [.rcc, .pbl, .tally, .journal, .notices] ∧
        u = (((w.expireHold 0).expireHold 1).expireHold 2).expireHold 3) ∧
      s.keepsAllBut u [.rcc, .passes, .pbl, .tally, .rfc, .quotes, .journal, .notices] ∧
      ((∀ k i x r e, (s.slot k).state = .quoted i x r e → s.stamp + 1 < e) →
        s.keepsAllBut u [.rcc, .pbl, .tally, .journal, .notices])) ∧
    (s.rcc.clock.day = 239 →
      (∃ x w, x = (((((s.setRcc { s.rcc with
            clock := { state := .expired, day := 239, second := 86399 } }).lapse 0 .seasonEnd).lapse 1
              .seasonEnd).lapse 2 .seasonEnd).lapse 3 .seasonEnd) ∧
        w.tally = { today := TallySet.zero (some 239), previous := x.tally.today } ∧
        w.pbl = { s.pbl with entries := [] } ∧
        w.journal = x.journal.write (239 * 86400 + 86399)
          (.dayRoll 239 s.tally.today.riders s.tally.today.newDays s.tally.today.refundsSettled
            s.tally.today.payoutTotal) ∧
        w.notices = ((if w.journal.isHigh then x.notices.raise .journalHigh else x.notices).raise
          .dayRolled).raise .clockExpired ∧
        x.keepsAllBut w [.pbl, .tally, .journal, .notices] ∧
        u = (((w.expireHold 0).expireHold 1).expireHold 2).expireHold 3) ∧
      u.rcc = { s.rcc with clock := { state := .expired, day := 239, second := 86399 } } ∧
      u.pbl = { s.pbl with entries := [] } ∧
      u.tally.today = TallySet.zero (some 239) ∧
      u.tally.previous = { s.tally.today with lanes := u.tally.previous.lanes } ∧
      (∀ l, u.tally.previous.lanes.get l = s.lapsedCounters l) ∧
      (∀ l, u.lane l = { s.lane l with
        unlockTimer := if (s.pendingPass l).isSome then none else (s.lane l).unlockTimer }) ∧
      PendingNotice.clockExpired ∈ u.notices.pending ∧ PendingNotice.dayRolled ∈ u.notices.pending ∧
      s.keepsAllBut u [.rcc, .passes, .lanes, .pbl, .tally, .rfc, .quotes, .journal, .notices] ∧
      ((∀ k i x r e, (s.slot k).state = .quoted i x r e → s.stamp < e) →
        s.markersEnded u ∧ u.notices.mask = s.notices.mask ∧
        s.keepsAllBut u [.rcc, .passes, .lanes, .pbl, .tally, .journal, .notices])))

/-- R105, R109: PASSBACK_SET above 3,600 is BAD_VALUE; otherwise the interval is taken and every COMMITTED entry whose
age has reached it goes at once. PASSBACK_EXPIRY takes whatever is due. -/
def Obligations.PassbackIntervalAndExpiry : Prop :=
  (∀ (tag : Byte) (interval : U16) (s : State), s.takes →
    ∃ u, asks (.passbackSet tag interval) s u ∧
      (3600 < interval.toNat → s.onlyAnswers u .passbackSet tag .badValue .nothing) ∧
      (interval.toNat ≤ 3600 →
        u.pbl = { s.pbl with
          interval := interval.toNat
          entries := s.pbl.entries.filter fun x => x.staysAt s.stamp interval.toNat } ∧
        s.repliesWith u .passbackSet tag .ok .nothing ∧ s.keepsAllBut u [.lif, .pbl])) ∧
  (∀ s : State, ends .passbackExpiry s (s.setPbl { s.pbl with
    entries := s.pbl.entries.filter fun x => x.staysAt s.stamp s.pbl.interval }))

/-! ## Products and passes -/

/-- R21, R23: PRODUCT_PUT and PRODUCT_CLEAR are refused with WRONG_MODE in RUN; in SETUP a put is BAD_VALUE for a bad
code or record, BUSY where it would change the kind or W of a named product, and otherwise the slot holds the record;
a clear empties the slot, which keeps its kind and W (R24). No pass entry changes. The kind and W compared are those of
the record the slot holds, or those kept after a clear; a product is named where some pass entry carries its code. That a
policy-presence or storm-credit byte above 1 makes a bad record is read from R183 (section 10.4): the model's choice,
assumption log 18. -/
def Obligations.ProductPutAndClear : Prop :=
  ((∀ y : ProductSlot, y.shape = match y.record with
      | some p => some (p.kind.isDays, p.window)
      | none => y.kept) ∧
    (∀ n, (ProductKind.days n).isDays = true) ∧ ProductKind.season.isDays = false ∧
    (∀ code, legalCode code = true ↔ 1 ≤ code ∧ code ≤ 63) ∧
    ∀ (s : State) (code : Nat), s.productNamed code = true ↔ ∃ e ∈ s.passes, e.product = code) ∧
  (∀ (tag code : Byte) (f : ProductFields) (s : State), s.takes →
    ∃ u, asks (.productPut tag code f) s u ∧
      (s.rcc.mode = .run → s.onlyAnswers u .productPut tag .wrongMode .nothing) ∧
      (s.rcc.mode = .setup → legalCode code.toNat = false ∨ (¬ ∃ p, NamesProduct f p) →
        s.onlyAnswers u .productPut tag .badValue .nothing) ∧
      (∀ p, s.rcc.mode = .setup → legalCode code.toNat = true → NamesProduct f p →
        s.productNamed code.toNat = true → (s.productSlot code.toNat).shape ≠ some (p.kind.isDays, p.window) →
        s.onlyAnswers u .productPut tag .busy .nothing) ∧
      (∀ p, s.rcc.mode = .setup → legalCode code.toNat = true → NamesProduct f p →
        (s.productNamed code.toNat = true →
          (s.productSlot code.toNat).shape = some (p.kind.isDays, p.window)) →
        u.product? code.toNat = some p ∧
        (∀ c, legalCode c = true → c ≠ code.toNat → u.productSlot c = s.productSlot c) ∧
        s.repliesWith u .productPut tag .ok .nothing ∧ s.keepsAllBut u [.lif, .tariff])) ∧
  (∀ (tag code : Byte) (s : State), s.takes →
    ∃ u, asks (.productClear tag code) s u ∧
      (s.rcc.mode = .run → s.onlyAnswers u .productClear tag .wrongMode .nothing) ∧
      (s.rcc.mode = .setup → legalCode code.toNat = false →
        s.onlyAnswers u .productClear tag .badValue .nothing) ∧
      (s.rcc.mode = .setup → legalCode code.toNat = true →
        u.product? code.toNat = none ∧
        (u.productSlot code.toNat).shape = (s.productSlot code.toNat).shape ∧
        (∀ c, legalCode c = true → c ≠ code.toNat → u.productSlot c = s.productSlot c) ∧
        s.repliesWith u .productClear tag .ok .nothing ∧ s.keepsAllBut u [.lif, .tariff]))

/-- R33, R34, R35: PASS_PUT's refusals in their order, the new entry at its place, the rewritten entry with its usage
part kept exactly when product code and window start day are unchanged. The reply carries the outcome and the number of
entries; that it carries the number with UNCHANGED too is the model's choice (assumption log 5). -/
def Obligations.PassPutAddsOrReplaces : Prop :=
  ∀ (tag : Byte) (r : PassRecord) (s : State), s.takes →
    ∃ u, asks (.passPut tag r) s u ∧
      ((¬ ∃ st, s.namesPass r st) → s.onlyAnswers u .passPut tag .badValue .nothing) ∧
      (∀ st e, s.namesPass r st → s.findPass r.pass.toNat = some e → e.marker.isSome →
        s.onlyAnswers u .passPut tag .pending .nothing) ∧
      (∀ st e, s.namesPass r st → s.findPass r.pass.toNat = some e → e.marker = none →
        e.isHeld = true → s.onlyAnswers u .passPut tag .held .nothing) ∧
      (∀ st, s.namesPass r st → s.findPass r.pass.toNat = none → 4096 ≤ s.passes.length →
        s.onlyAnswers u .passPut tag .full .nothing) ∧
      (∀ st, s.namesPass r st → s.findPass r.pass.toNat = none → s.passes.length < 4096 →
        u.findPass r.pass.toNat = some (addedEntry r st) ∧
        (∀ q, q ≠ r.pass.toNat → u.findPass q = s.findPass q) ∧ u.passes.length = s.passes.length + 1 ∧
        s.repliesWith u .passPut tag .ok (.putOutcome .added (s.passes.length + 1)) ∧
        s.keepsAllBut u [.lif, .passes]) ∧
      (∀ st e, s.namesPass r st → s.findPass r.pass.toNat = some e → e.marker = none → e.isHeld = false →
        u.findPass r.pass.toNat = some (replacedEntry e r st) ∧
        (∀ q, q ≠ r.pass.toNat → u.findPass q = s.findPass q) ∧ u.passes.length = s.passes.length ∧
        (SameAsRecord e r st →
          s.repliesWith u .passPut tag .ok (.putOutcome .unchanged s.passes.length)) ∧
        (¬ SameAsRecord e r st →
          s.repliesWith u .passPut tag .ok (.putOutcome .replaced s.passes.length)) ∧
        s.keepsAllBut u [.lif, .passes])

/-- R36, R38: PASS_BLOCK after the common checks acts by the entry's status. PASS_DELETE after the common checks is PENDING
for a marked entry, HELD for a held one, and otherwise removes the entry; the Passback List, the journal and the tally
keep what concerns the pass. The legal pass numbers are 1 to 4,294,967,294. -/
def Obligations.PassBlockAndDelete : Prop :=
  (∀ pass, legalPass pass = true ↔ 1 ≤ pass ∧ pass ≤ 4294967294) ∧
  (∀ (tag : Byte) (pass : U32) (s : State), s.takes →
    ∃ u, asks (.passBlock tag pass) s u ∧
      (legalPass pass.toNat = false → s.onlyAnswers u .passBlock tag .badValue .nothing) ∧
      (legalPass pass.toNat = true → s.findPass pass.toNat = none →
        s.onlyAnswers u .passBlock tag .notFound .nothing) ∧
      (∀ e, legalPass pass.toNat = true → s.findPass pass.toNat = some e →
        (e.status = .active →
          u.findPass pass.toNat = some { e with status := .blocked } ∧
          (∀ q, q ≠ pass.toNat → u.findPass q = s.findPass q) ∧
          s.repliesWith u .passBlock tag .ok .nothing ∧ s.keepsAllBut u [.lif, .passes]) ∧
        (e.status = .blocked → s.onlyAnswers u .passBlock tag .ok .nothing) ∧
        (e.isHeld = true → s.onlyAnswers u .passBlock tag .held .nothing) ∧
        (e.status = .refunded → s.onlyAnswers u .passBlock tag .alreadyRefunded .nothing))) ∧
  (∀ (tag : Byte) (pass : U32) (s : State), s.takes →
    ∃ u, asks (.passDelete tag pass) s u ∧
      (legalPass pass.toNat = false → s.onlyAnswers u .passDelete tag .badValue .nothing) ∧
      (legalPass pass.toNat = true → s.findPass pass.toNat = none →
        s.onlyAnswers u .passDelete tag .notFound .nothing) ∧
      (∀ e, legalPass pass.toNat = true → s.findPass pass.toNat = some e →
        (e.marker.isSome → s.onlyAnswers u .passDelete tag .pending .nothing) ∧
        (e.marker = none → e.isHeld = true → s.onlyAnswers u .passDelete tag .held .nothing) ∧
        (e.marker = none → e.isHeld = false →
          u.findPass pass.toNat = none ∧ (∀ q, q ≠ pass.toNat → u.findPass q = s.findPass q) ∧
          s.repliesWith u .passDelete tag .ok (.entryCount u.passes.length) ∧
          s.keepsAllBut u [.lif, .passes])))

/-- R37: PASS_UNBLOCK after the common checks takes a BLOCKED entry to ACTIVE, everything else of it as it was, and
refuses any other status with BAD_VALUE. -/
def Obligations.PassUnblockRestoresActive : Prop :=
  ∀ (tag : Byte) (pass : U32) (s : State), s.takes →
    ∃ u, asks (.passUnblock tag pass) s u ∧
      (legalPass pass.toNat = false → s.onlyAnswers u .passUnblock tag .badValue .nothing) ∧
      (legalPass pass.toNat = true → s.findPass pass.toNat = none →
        s.onlyAnswers u .passUnblock tag .notFound .nothing) ∧
      (∀ e, legalPass pass.toNat = true → s.findPass pass.toNat = some e →
        (e.status = .blocked →
          u.findPass pass.toNat = some { e with status := .active } ∧
          (∀ q, q ≠ pass.toNat → u.findPass q = s.findPass q) ∧
          s.repliesWith u .passUnblock tag .ok .nothing ∧ s.keepsAllBut u [.lif, .passes]) ∧
        (e.status ≠ .blocked → s.onlyAnswers u .passUnblock tag .badValue .nothing))

/-- R40, R41, R42: USAGE_MERGE is refused whole for a wrong length, an illegal pass, a day above 239 or an absent pass;
otherwise the three item counts sum to the list's length, the merged days within the window of a DAYS product are in the
set, nothing leaves it and nothing else joins it, the first-use day never rises, and rides, last passage, status, markers
and transfer mark stay. -/
def Obligations.UsageMergeAddsDays : Prop :=
  ∀ (tag : Byte) (pass : U32) (days : List Byte) (s : State),
    s.takes → ∃ u, asks (.usageMerge tag pass days) s u ∧
      (days.length < 1 ∨ 16 < days.length → s.onlyAnswers u .usageMerge tag .badFormat .nothing) ∧
      (1 ≤ days.length → days.length ≤ 16 → legalPass pass.toNat = false ∨ (∃ d ∈ days, 239 < d.toNat) →
        s.onlyAnswers u .usageMerge tag .badValue .nothing) ∧
      (1 ≤ days.length → days.length ≤ 16 → legalPass pass.toNat = true → (∀ d ∈ days, d.toNat ≤ 239) →
        s.findPass pass.toNat = none → s.onlyAnswers u .usageMerge tag .notFound .nothing) ∧
      (∀ e, 1 ≤ days.length → days.length ≤ 16 → legalPass pass.toNat = true → (∀ d ∈ days, d.toNat ≤ 239) →
        s.findPass pass.toNat = some e →
        ∃ x added known outside size,
          u.findPass pass.toNat = some { e with usage := x } ∧ (∀ q, q ≠ pass.toNat → u.findPass q = s.findPass q) ∧
          u.passes.length = s.passes.length ∧
          s.repliesWith u .usageMerge tag .ok (.mergeCounts added known outside size) ∧
          s.keepsAllBut u [.lif, .passes] ∧
          added + known + outside = days.length ∧ size = ((x.map (·.days)).getD []).length ∧
          (s.product? e.product = none → outside = days.length ∧ x = e.usage) ∧
          (∀ v, x = some v → v.rides = (e.usage.map (·.rides)).getD 0 ∧ v.last = e.usage.bind (·.last)) ∧
          (∀ old, e.usage = some old → ∃ v, x = some v ∧ v.firstUse ≤ old.firstUse) ∧
          (∀ p, s.product? e.product = some p →
            outside = days.countP (fun d => !(e.start ≤ d.toNat && d.toNat < e.start + p.window)) ∧
            (∀ o ∈ e.daysUsed, o ∈ (x.map (·.days)).getD []) ∧
            (∀ o ∈ (x.map (·.days)).getD [], o ∈ e.daysUsed ∨
              (p.kind.isDays = true ∧ ∃ d ∈ days, d.toNat = e.start + o ∧ o < p.window)) ∧
            (∀ d ∈ days, e.start ≤ d.toNat → d.toNat < e.start + p.window →
              ∃ v, x = some v ∧ v.firstUse ≤ d.toNat ∧ (p.kind.isDays = true → d.toNat - e.start ∈ v.days)) ∧
            (∀ v, x = some v → (∃ old, e.usage = some old ∧ v.firstUse = old.firstUse) ∨
              ∃ d ∈ days, v.firstUse = d.toNat ∧ e.start ≤ d.toNat ∧ d.toNat < e.start + p.window) ∧
            (p.kind.isDays = false → added = 0 ∧ (x.map (·.days)).getD [] = e.daysUsed) ∧
            size = e.daysUsed.length + added))

/-! ## Transfers -/

/-- R45, R55, R56: XFER_OPEN's checks in their order, the record it starts and the marks a PURGE open clears; XFER_ABORT
closes an open transfer and keeps the rest of its record; XFER_STATUS reports the record. That a PURGE byte above 1 is
BAD_VALUE is read from R183 (section 10.4), which has the owner refuse an enumerated byte beyond its last value: the
model's choice, assumption log 18. The mode byte is 0 LOAD, 1 VERIFY, the PURGE byte 0 off, 1 on (section 10.9). -/
def Obligations.TransferOpenAbortStatus : Prop :=
  (∀ b : Byte, transferModeOf b = ([.load, .verify] : List TransferMode)[b.toNat]? ∧
    boolOf b = [false, true][b.toNat]?) ∧
  (∀ (tag mode purge : Byte) (count : U16) (s : State), s.takes →
    ∃ u, asks (.xferOpen tag mode purge count) s u ∧
      (transferModeOf mode = none ∨ boolOf purge = none ∨ count.toNat < 1 ∨ 4096 < count.toNat →
        s.onlyAnswers u .xferOpen tag .badValue .nothing) ∧
      (∀ m p, transferModeOf mode = some m → boolOf purge = some p → 1 ≤ count.toNat → count.toNat ≤ 4096 →
        (s.xfer.condition = .isOpen → s.onlyAnswers u .xferOpen tag .transferOpen .nothing) ∧
        (s.xfer.condition ≠ .isOpen →
          u.xfer = { condition := .isOpen, load := ⟨0, 0, 0, 0, 0, 0, 0, 0, 0⟩, verify := ⟨0, 0, 0, 0⟩,
                     header := some { mode := m, purge := p, declared := count.toNat, remaining := count.toNat },
                     firstDifference := none } ∧
          u.passes = (if p then s.passes.map (fun e => { e with transferMark := false }) else s.passes) ∧
          s.repliesWith u .xferOpen tag .ok (.entryCount s.passes.length) ∧
          s.keepsAllBut u [.lif, .xfer, .passes]))) ∧
  (∀ (tag : Byte) (s : State), s.takes → ∃ u, asks (.xferAbort tag) s u ∧
    (s.xfer.condition ≠ .isOpen → s.onlyAnswers u .xferAbort tag .noTransfer .nothing) ∧
    (s.xfer.condition = .isOpen →
      u.xfer = { s.xfer with condition := .aborted } ∧
      s.repliesWith u .xferAbort tag .ok (.remaining (s.xfer.header.map (·.remaining))) ∧
      s.keepsAllBut u [.lif, .xfer])) ∧
  (∀ (tag : Byte) (s : State), s.takes → ∃ u, asks (.xferStatus tag) s u ∧
    s.onlyAnswers u .xferStatus tag .ok (.transferRecord s.xfer s.passes.length))

/-- R46, R52, R53, R54: XFER_CHUNK is refused without an open transfer and where it exceeds the remaining count; a taken
chunk handles its records in order, each as TransferRecordOutcomes says, the remaining count falls by their number, and
the chunk that brings it to 0 makes the sweep of a PURGE transfer and completes the transfer. A chunk of no records is
answered BAD_FORMAT (R46, R183); that the command with more than 12 is answered so too is the model's choice (assumption
log 17: its frame, of more than 120 payload bytes, does not pass the receiver), and so is the reply of a chunk refused in
NONE, whose remaining count is absent (assumption log 16). -/
def Obligations.TransferChunkHandled : Prop :=
  (∀ m s, State.handleRecords m [] s = (s, [])) ∧
  (∀ m r rs s, State.handleRecords m (r :: rs) s =
    ((State.handleRecords m rs (s.recordStep m r)).1,
      s.recordOutcome m r :: (State.handleRecords m rs (s.recordStep m r)).2)) ∧
  ∀ (tag : Byte) (records : List PassRecord) (s : State),
    s.takes → ∃ u, asks (.xferChunk tag records) s u ∧
      (records.length < 1 ∨ 12 < records.length → s.onlyAnswers u .xferChunk tag .badFormat .nothing) ∧
      (1 ≤ records.length → records.length ≤ 12 → s.xfer.condition ≠ .isOpen →
        s.onlyAnswers u .xferChunk tag .noTransfer (.remaining (s.xfer.header.map (·.remaining)))) ∧
      (∀ h w outcomes, 1 ≤ records.length → records.length ≤ 12 → s.xfer.condition = .isOpen →
        s.xfer.header = some h → State.handleRecords h.mode records s = (w, outcomes) →
        (h.remaining < records.length →
          s.onlyAnswers u .xferChunk tag .badValue (.remaining (some h.remaining))) ∧
        (records.length < h.remaining →
          u.passes = w.passes ∧
          u.xfer = { w.xfer with header := some { h with remaining := h.remaining - records.length } } ∧
          s.repliesWith u .xferChunk tag .ok (.chunk outcomes (h.remaining - records.length) none) ∧
          s.keepsAllBut u [.lif, .xfer, .passes]) ∧
        (h.remaining = records.length →
          s.repliesWith u .xferChunk tag .ok (.chunk outcomes 0 (some (u.xfer, u.passes.length))) ∧
          s.keepsAllBut u [.lif, .xfer, .passes] ∧
          (h.purge = false → u.passes = w.passes ∧
            u.xfer = { w.xfer with condition := .completed, header := some { h with remaining := 0 } }) ∧
          (h.purge = true → h.mode = .load →
            u.passes = w.passes.filter (fun e => e.transferMark || e.marker.isSome || e.isHeld) ∧
            u.xfer = { w.xfer with
              condition := .completed
              header := some { h with remaining := 0 }
              load := { w.xfer.load with
                removed := w.passes.countP fun e => !(e.transferMark || e.marker.isSome || e.isHeld)
                kept := w.passes.countP fun e => !e.transferMark && (e.marker.isSome || e.isHeld) } }) ∧
          (h.purge = true → h.mode = .verify → u.passes = w.passes ∧
            u.xfer = { w.xfer with
              condition := .completed
              header := some { h with remaining := 0 }
              verify := { w.xfer.verify with extra := w.passes.countP fun e => !e.transferMark } })))

/-- R46, R47, R48, R50, R51: the outcome of each transfer record by its table, its effect on the Pass Table, its count
and the mark. A record adds one to the count of its own outcome and to no other. A status byte is 0 ACTIVE, 1 BLOCKED,
3 REFUNDED (section 10.9); the host names no other. -/
def Obligations.TransferRecordOutcomes : Prop :=
  (∀ c : LoadCounts,
    c.count .added = { c with added := c.added + 1 } ∧
    c.count .replaced = { c with replaced := c.replaced + 1 } ∧
    c.count .unchanged = { c with unchanged := c.unchanged + 1 } ∧
    c.count .skippedPending = { c with skippedPending := c.skippedPending + 1 } ∧
    c.count .skippedHeld = { c with skippedHeld := c.skippedHeld + 1 } ∧
    c.count .rejectedFull = { c with rejectedFull := c.rejectedFull + 1 } ∧
    c.count .rejectedBad = { c with rejectedBad := c.rejectedBad + 1 }) ∧
  (∀ c : VerifyCounts,
    c.count .isMatch = { c with matched := c.matched + 1 } ∧
    c.count .differ = { c with differ := c.differ + 1 } ∧
    c.count .missing = { c with missing := c.missing + 1 }) ∧
  (∀ (b : Byte) (st : PassStatus), hostStatusOf b = some st ↔
    (b.toNat = 0 ∧ st = .active) ∨ (b.toNat = 1 ∧ st = .blocked) ∨ (b.toNat = 3 ∧ st = .refunded)) ∧
  ∀ (s : State) (r : PassRecord),
    ((¬ ∃ st, s.namesPass r st) → s.recordOutcome .load r = .rejectedBad ∧
      (s.recordStep .load r).findPass r.pass.toNat =
        (s.findPass r.pass.toNat).map fun e => { e with transferMark := true }) ∧
    (∀ st, s.namesPass r st → s.findPass r.pass.toNat = none →
      (4096 ≤ s.passes.length → s.recordOutcome .load r = .rejectedFull ∧
        (s.recordStep .load r).passes = s.passes) ∧
      (s.passes.length < 4096 → s.recordOutcome .load r = .added ∧
        (s.recordStep .load r).findPass r.pass.toNat = some (addedEntry r st))) ∧
    (∀ st e, s.namesPass r st → s.findPass r.pass.toNat = some e →
      (e.marker.isSome → s.recordOutcome .load r = .skippedPending ∧
        (s.recordStep .load r).findPass r.pass.toNat = some { e with transferMark := true }) ∧
      (e.marker = none → e.isHeld = true → s.recordOutcome .load r = .skippedHeld ∧
        (s.recordStep .load r).findPass r.pass.toNat = some { e with transferMark := true }) ∧
      (e.marker = none → e.isHeld = false → ¬ SameAsRecord e r st → s.recordOutcome .load r = .replaced ∧
        (s.recordStep .load r).findPass r.pass.toNat = some (replacedEntry e r st)) ∧
      (e.marker = none → e.isHeld = false → SameAsRecord e r st → s.recordOutcome .load r = .unchanged ∧
        (s.recordStep .load r).findPass r.pass.toNat = some { e with transferMark := true })) ∧
    (legalPass r.pass.toNat = false ∨ s.findPass r.pass.toNat = none →
      s.recordOutcome .verify r = .missing ∧ (s.recordStep .verify r).passes = s.passes) ∧
    (∀ e, legalPass r.pass.toNat = true → s.findPass r.pass.toNat = some e →
      s.recordOutcome .verify r = (if e.product = r.product.toNat ∧ e.start = r.start.toNat ∧
        e.price = r.price.toNat ∧ hostStatusOf r.status = some (if e.isHeld then .active else e.status)
        then .isMatch else .differ) ∧
      (s.recordStep .verify r).findPass r.pass.toNat = some { e with transferMark := true }) ∧
    (s.recordStep .load r).xfer = { s.xfer with load := s.xfer.load.count (s.recordOutcome .load r) } ∧
    (s.recordStep .verify r).xfer = { s.xfer with
      verify := s.xfer.verify.count (s.recordOutcome .verify r)
      firstDifference :=
        if s.xfer.firstDifference = none ∧ s.recordOutcome .verify r ≠ .isMatch then some r.pass.toNat
        else s.xfer.firstDifference } ∧
    ∀ m, s.keepsAllBut (s.recordStep m r) [.passes, .xfer] ∧
      ∀ q, q ≠ r.pass.toNat → (s.recordStep m r).findPass q = s.findPass q

/-! ## Lane units -/

/-- R60, R61, R91: LANE_CONFIG is refused with WRONG_MODE in RUN and with BAD_VALUE for fields out of range; one that
keeps the role writes the other two fields; one that changes it withdraws the waiting request and starts the lane
afresh, with FAULT_CLEARED where a latch was set. Three clauses are the model's choice: the recovery count becomes 0
(assumption log 15), a chirp or double tone then sounding runs to its end (assumption log 19), and an auto-quote byte
above 1 is BAD_VALUE (read from R183, assumption log 18). The lane byte is 0 to 3, the role byte 0 GATE, 1 DESK, 2 OFF,
the auto-quote byte 0 off, 1 on (section 10.9). -/
def Obligations.LaneConfigKeepsOrChangesRole : Prop :=
  (∀ b : Byte, fourOf b = fourInOrder[b.toNat]? ∧ roleOf b = ([.gate, .desk, .off] : List Role)[b.toNat]? ∧
    boolOf b = [false, true][b.toNat]?) ∧
  ∀ (tag lane role timeout autoQuote : Byte) (s : State),
    s.takes →
    ∃ u, asks (.laneConfig tag lane role timeout autoQuote) s u ∧
      (s.rcc.mode = .run → s.onlyAnswers u .laneConfig tag .wrongMode .nothing) ∧
      (s.rcc.mode = .setup →
        (fourOf lane = none ∨ roleOf role = none ∨ boolOf autoQuote = none ∨ timeout.toNat < 2 ∨
          30 < timeout.toNat ∨ (boolOf autoQuote = some true ∧ roleOf role ≠ some .desk)) →
        s.onlyAnswers u .laneConfig tag .badValue .nothing) ∧
      (∀ l r q, s.rcc.mode = .setup → fourOf lane = some l → roleOf role = some r → boolOf autoQuote = some q →
        2 ≤ timeout.toNat → timeout.toNat ≤ 30 → (q = true → r = .desk) →
        (r = (s.lane l).role →
          u.lanes = s.lanes.set l { s.lane l with unlockTimeout := timeout.toNat, autoQuote := q } ∧
          s.repliesWith u .laneConfig tag .ok .nothing ∧ s.keepsAllBut u [.lif, .lanes]) ∧
        (r ≠ (s.lane l).role →
          u.ae = { s.ae with waiting := s.ae.waiting.set l none } ∧
          u.lanes = s.lanes.set l
            { role := r, unlockTimeout := timeout.toNat, autoQuote := q
              beamA := (s.lane l).beamA, beamB := (s.lane l).beamB, armRest := (s.lane l).armRest
              silentCount := 0, lossPresent := false, recoveryCount := 0, latches := LatchSet.empty
              beamATimer := if r = .gate ∧ (s.lane l).beamA = true then some s.rcc.site.beamStuck else none
              beamBTimer := if r = .gate ∧ (s.lane l).beamB = true then some s.rcc.site.beamStuck else none
              armTimer := if r = .gate ∧ (s.lane l).armRest = false then some s.rcc.site.armStuck else none
              unlockTimer := none, armOverride := .auto, greenOverride := .auto, amberOverride := .auto
              redOverride := .auto, buzzerOverride := .auto, display := none
              pattern := if (s.lane l).pattern = .alarm then .silence else (s.lane l).pattern
              alarmTimer := false, forcedStamp := 0, detector := .idle, rotations := [], entries := [] } ∧
          u.lif = { s.lif with replies := s.lif.replies ++ s.busyReplies l ++
            [replyFrame RequestKind.laneConfig.code tag .ok .nothing] } ∧
          ((s.lane l).latches.any = true → s.recorded u (.faultCleared l)) ∧
          ((s.lane l).latches.any = false → u.journal = s.journal ∧ u.notices = s.notices) ∧
          s.keepsAllBut u [.lif, .lanes, .ae, .journal, .notices]))

/-- R76, R77: LANE_OUTPUT is BAD_VALUE for a lane, output or value out of range, for an OFF lane and for ARM at a DESK
lane; otherwise the one override takes the value. An ARM override set to LOCK from another value lapses the pending
admission (LapseEndsTheAdmission) and withdraws the waiting request. R64, R83: the state of a lane is the first of
FAULT, UNLOCKED, CLOSED, WAITING and READY that holds at a GATE lane, and of FAULT, WAITING and READY at a DESK lane.
R75: the arm latch is released under FREE, and under AUTO while UNLOCKED. R78, Table 4.6: each lamp shows its override,
or under AUTO the display time's indication, or else the lane state's. R79: the buzzer sounds continuously under ON, is
silent under OFF, and under AUTO sounds the lane's pattern. The output byte is 0 ARM, 1 GREEN, 2 AMBER, 3 RED, 4 BUZZER,
the value byte 0 AUTO, 1 FREE, 2 LOCK for ARM and 0 AUTO, 1 ON, 2 OFF for the others (section 10.9). -/
def Obligations.LaneOutputSetsOneOverride : Prop :=
  (∀ b : Byte,
    laneOutputOf b = ([.arm, .green, .amber, .red, .buzzer] : List LaneOutput)[b.toNat]? ∧
    armOverrideOf b = ([.auto, .free, .lock] : List ArmOverride)[b.toNat]? ∧
    outputOverrideOf b = ([.auto, .on, .off] : List OutputOverride)[b.toNat]?) ∧
  (∀ (s : State) (l : LaneId),
    ((s.lane l).role = .off → s.laneState l = .off) ∧
    ((s.lane l).role = .gate → s.laneState l =
      (if (s.lane l).latches.readerLost = true ∨ (s.lane l).latches.beamStuck = true ∨
          (s.lane l).latches.armStuck = true then .fault
       else if s.pendingPass l ≠ none then .unlocked
       else if s.rcc.mode = .setup ∨ s.rcc.lift = .closed ∨ s.rcc.clock.state ≠ .running then .closed
       else if s.ae.waiting.get l ≠ none then .waiting
       else .ready)) ∧
    ((s.lane l).role = .desk → s.laneState l =
      (if (s.lane l).latches.readerLost = true then .fault
       else if s.ae.waiting.get l ≠ none then .waiting
       else .ready)) ∧
    (s.latchRelease l = true ↔ (s.lane l).role = .gate ∧ ((s.lane l).armOverride = .free ∨
      ((s.lane l).armOverride = .auto ∧ s.laneState l = .unlocked))) ∧
    ((s.lane l).role = .off → s.lamps l = ⟨.dark, .dark, .dark⟩ ∧ s.buzzer l = .silent) ∧
    (∀ shown : Lamps, (s.lane l).role ≠ .off →
      ((s.lane l).display = some .refusal → shown = ⟨.dark, .dark, .lit⟩) →
      ((s.lane l).display = some .served → shown = ⟨.lit, .dark, .dark⟩) →
      ((s.lane l).display = none →
        (s.laneState l = .fault → shown = ⟨.dark, .dark, .flashing⟩) ∧
        (s.laneState l = .unlocked → shown = ⟨.lit, .dark, .dark⟩) ∧
        (s.laneState l = .closed → shown = ⟨.dark, .dark, .lit⟩) ∧
        (s.laneState l = .waiting ∨ s.laneState l = .ready →
          ((s.lane l).role = .gate ∨ s.rcc.clock.state = .running → shown = ⟨.dark, .lit, .dark⟩) ∧
          ((s.lane l).role = .desk → s.rcc.clock.state ≠ .running → shown = ⟨.dark, .dark, .lit⟩))) →
      s.lamps l =
        { green := match (s.lane l).greenOverride with | .auto => shown.green | .on => .lit | .off => .dark
          amber := match (s.lane l).amberOverride with | .auto => shown.amber | .on => .lit | .off => .dark
          red := match (s.lane l).redOverride with | .auto => shown.red | .on => .lit | .off => .dark }) ∧
    ((s.lane l).role ≠ .off → s.buzzer l = match (s.lane l).buzzerOverride with
      | .on => .continuous | .off => .silent | .auto => .pattern (s.lane l).pattern)) ∧
  ∀ (tag lane output value : Byte) (s : State), s.takes →
    ∃ u, asks (.laneOutput tag lane output value) s u ∧
      (fourOf lane = none ∨ laneOutputOf output = none → s.onlyAnswers u .laneOutput tag .badValue .nothing) ∧
      (∀ l o, fourOf lane = some l → laneOutputOf output = some o → (s.lane l).role = .off →
        s.onlyAnswers u .laneOutput tag .badValue .nothing) ∧
      (∀ l, fourOf lane = some l → laneOutputOf output = some .arm →
        ((s.lane l).role = .desk ∨ armOverrideOf value = none →
          s.onlyAnswers u .laneOutput tag .badValue .nothing) ∧
        (∀ v, (s.lane l).role = .gate → armOverrideOf value = some v →
          (v ≠ .lock ∨ (s.lane l).armOverride = .lock →
            u.lanes = s.lanes.set l { s.lane l with armOverride := v } ∧
            s.repliesWith u .laneOutput tag .ok .nothing ∧ s.keepsAllBut u [.lif, .lanes]) ∧
          (v = .lock → (s.lane l).armOverride ≠ .lock →
            ∃ w, w = (s.setLane l { s.lane l with armOverride := .lock }).lapse l .locked ∧
              u.ae = { s.ae with waiting := s.ae.waiting.set l none } ∧
              u.lif = { s.lif with replies := s.lif.replies ++ s.busyReplies l ++
                [replyFrame RequestKind.laneOutput.code tag .ok .nothing] } ∧
              w.keepsAllBut u [.lif, .ae] ∧ u.latchRelease l = false ∧ u.pendingPass l = none))) ∧
      (∀ l o, fourOf lane = some l → laneOutputOf output = some o → o ≠ .arm → (s.lane l).role ≠ .off →
        (outputOverrideOf value = none → s.onlyAnswers u .laneOutput tag .badValue .nothing) ∧
        (∀ v, outputOverrideOf value = some v →
          u.lanes = s.lanes.set l (match o with
            | .green => { s.lane l with greenOverride := v }
            | .amber => { s.lane l with amberOverride := v }
            | .red => { s.lane l with redOverride := v }
            | .buzzer => { s.lane l with buzzerOverride := v }
            | .arm => s.lane l) ∧
          s.repliesWith u .laneOutput tag .ok .nothing ∧ s.keepsAllBut u [.lif, .lanes]))

/-- R82: LANE_CLEAR clears each latch whose condition is absent; it is answered CONDITION_PRESENT with the set that
stays, or OK with a FAULT_CLEARED record where every latch that was set has been cleared (with none set: assumption log
14). R85, R184: LANE_INJECT is BAD_VALUE for a lane or pass out of range and BUSY at a lane that is not READY; otherwise
a TEST request joins the waiting set with its tag, a place is reserved and no reply is placed. -/
def Obligations.LaneClearAndInject : Prop :=
  (∀ (tag lane : Byte) (s : State), s.takes →
    ∃ u, asks (.laneClear tag lane) s u ∧
      (fourOf lane = none → s.onlyAnswers u .laneClear tag .badValue .nothing) ∧
      (∀ l left, fourOf lane = some l →
        left = { readerLost := (s.lane l).latches.readerLost && (s.lane l).lossPresent,
                 beamStuck := (s.lane l).latches.beamStuck && ((s.lane l).beamA || (s.lane l).beamB),
                 armStuck := (s.lane l).latches.armStuck && !(s.lane l).armRest : LatchSet } →
        u.lanes = s.lanes.set l { s.lane l with latches := left } ∧
        s.keepsAllBut u [.lif, .lanes, .journal, .notices] ∧
        (left.any = true → s.repliesWith u .laneClear tag .conditionPresent (.latchedSet left) ∧
          u.journal = s.journal ∧ u.notices = s.notices) ∧
        (left.any = false → s.repliesWith u .laneClear tag .ok (.latchedSet LatchSet.empty) ∧
          ((s.lane l).latches.any = true → s.recorded u (.faultCleared l)) ∧
          ((s.lane l).latches.any = false → u.journal = s.journal ∧ u.notices = s.notices)))) ∧
  (∀ (tag lane : Byte) (pass : U32) (s : State), s.takes →
    ∃ u, asks (.laneInject tag lane pass) s u ∧
      (fourOf lane = none ∨ legalPass pass.toNat = false →
        s.onlyAnswers u .laneInject tag .badValue .nothing) ∧
      (∀ l, fourOf lane = some l → legalPass pass.toNat = true →
        (s.laneState l ≠ .ready → s.onlyAnswers u .laneInject tag .busy .nothing) ∧
        (s.laneState l = .ready →
          u.ae = { s.ae with
            waiting := s.ae.waiting.set l (some { pass := pass.toNat, kind := .test tag }) } ∧
          u.laneState l = .waiting ∧ u.reserved = s.reserved + 1 ∧ s.keepsAllBut u [.ae])))

/-- R62, R63: POLL_OUTCOME does nothing at an OFF lane (R62 says that an OFF lane does not poll; that the command changes
nothing there is assumption log 9, the model's choice); a SILENT outcome counts up to 64 and at the threshold makes the
loss condition present and latches READER_LOST (FaultLatchEffects); IDLE counts back to 0, and the second good outcome
in a row ends the loss condition. -/
def Obligations.PollOutcomeReaderHealth : Prop :=
  ∀ (l : LaneId) (s : State),
    (∀ o, (s.lane l).role = .off → ends (.pollOutcome l o) s s) ∧
    ((s.lane l).role ≠ .off → ends (.pollOutcome l .idle) s (s.setLane l { s.lane l with
      silentCount := 0
      lossPresent := (s.lane l).lossPresent && (s.lane l).recoveryCount == 0
      recoveryCount := if (s.lane l).lossPresent
        then (if (s.lane l).recoveryCount = 0 then 1 else 0) else (s.lane l).recoveryCount })) ∧
    (∀ n, (s.lane l).role ≠ .off → n = min 64 ((s.lane l).silentCount + 1) →
      (n < s.rcc.site.readerLoss → ends (.pollOutcome l .silent) s (s.setLane l { s.lane l with
        silentCount := n, recoveryCount := 0 })) ∧
      (s.rcc.site.readerLoss ≤ n → ends (.pollOutcome l .silent) s ((s.setLane l { s.lane l with
        silentCount := n, recoveryCount := 0, lossPresent := true }).latchFault l .readerLost)))

/-- R62, R63, R66, R67, R68, R79, R83: a read at a GATE or DESK lane first counts as a good outcome for reader health: the
silent count goes to 0, and where the loss condition is present the recovery count goes up by one, the second good outcome
in a row ending the condition (`h` is the state then). The read is then refused, discarded with a chirp, or submitted to
the waiting set, by the first case that applies. The chirp sounds only under AUTO and not while the alarm sounds. `pass`
is absent for a BAD_READ and for an illegal number. -/
def Obligations.ReadsRefusedDiscardedOrSubmitted : Prop :=
  ∀ (l : LaneId) (o : PollOutcome) (pass : Option Nat) (s : State),
    ((o = .badRead ∧ pass = none) ∨ ∃ n : U32, o = .read n ∧
      pass = if 1 ≤ n.toNat ∧ n.toNat ≤ 4294967294 then some n.toNat else none) →
    (s.lane l).role ≠ .off →
    ∃ h u, h = s.setLane l { s.lane l with
        silentCount := 0
        lossPresent := (s.lane l).lossPresent && (s.lane l).recoveryCount == 0
        recoveryCount := if (s.lane l).lossPresent
          then (if (s.lane l).recoveryCount = 0 then 1 else 0) else (s.lane l).recoveryCount } ∧
      ends (.pollOutcome l o) s u ∧
      (s.laneState l = .fault → u = h.refuse l .laneFault pass) ∧
      ((s.lane l).role = .gate → s.laneState l ≠ .fault →
        ((s.lane l).armOverride = .lock → u = h.refuse l .laneLocked pass) ∧
        ((s.lane l).armOverride ≠ .lock →
          (s.laneState l = .closed → u = h.refuse l
            (if s.rcc.mode = .setup then .setupMode else if s.rcc.lift = .closed then .liftClosed else .noClock)
            pass) ∧
          (s.laneState l = .waiting ∨ s.laneState l = .unlocked →
            u = h.setLane l { h.lane l with pattern :=
              if (s.lane l).buzzerOverride = .auto ∧ (s.lane l).pattern ≠ .alarm then .chirp
              else (s.lane l).pattern }) ∧
          (s.laneState l = .ready →
            (pass = none → u = h.refuse l .unreadable none) ∧
            (∀ p, pass = some p → u.isWaiting l = true ∧
              u.ae = { s.ae with waiting := s.ae.waiting.set l (some { pass := p, kind := .gate }) } ∧
              h.keepsAllBut u [.ae])))) ∧
      ((s.lane l).role = .desk → s.laneState l ≠ .fault →
        (s.clockRunning = false → u = h.refuse l .noClock pass) ∧
        (s.clockRunning = true →
          (s.laneState l = .waiting →
            u = h.setLane l { h.lane l with pattern :=
              if (s.lane l).buzzerOverride = .auto ∧ (s.lane l).pattern ≠ .alarm then .chirp
              else (s.lane l).pattern }) ∧
          (s.laneState l = .ready →
            (pass = none → u = h.refuse l .unreadable none) ∧
            (∀ p, pass = some p → u.isWaiting l = true ∧
              u.ae = { s.ae with waiting := s.ae.waiting.set l (some { pass := p, kind := .desk }) } ∧
              h.keepsAllBut u [.ae]))))

/-- R69: a refusal at a lane writes its REFUSAL record, counts its cause in today's set, shows the refusal for the
display time unless the lane is in FAULT, and sounds the double tone under AUTO unless the alarm sounds. -/
def Obligations.RefusalEffects : Prop :=
  ∀ (s u : State) (l : LaneId) (cause : RefusalCause) (pass : Option Nat), u = s.refuse l cause pass →
    s.recorded u (.refusal l cause pass) ∧
    u.tally = s.tallyWith l { s.counters l with refusals := (u.counters l).refusals } ∧
    (∀ k, (u.counters l).refusals[k]? =
      if k = cause.code then ((s.counters l).refusals[k]?).map bump else (s.counters l).refusals[k]?) ∧
    u.lanes = s.lanes.set l { s.lane l with
      display := if s.laneState l = .fault then (s.lane l).display else some .refusal
      pattern := if (s.lane l).buzzerOverride = .auto ∧ (s.lane l).pattern ≠ .alarm then .doubleTone
        else (s.lane l).pattern } ∧
    s.keepsAllBut u [.lanes, .tally, .journal, .notices]

/-- R81, R115, R167: a fault latch that goes from clear to set writes a FAULT record with the set after the change, takes
the detector to IDLE if it is BEAM_STUCK, and raises LANE_FAULT last; a lane that was not in FAULT has its display ended,
its pending admission lapsed and its request withdrawn. Each record raises JOURNAL_HIGH where R167 has it, as it is
written. A latch that is set already changes nothing. -/
def Obligations.FaultLatchEffects : Prop :=
  ∀ (s u : State) (l : LaneId) (f : FaultLatch), u = s.latchFault l f →
    ((s.lane l).latches.has f = true → u = s) ∧
    (∀ x, (s.lane l).latches.has f = false →
      x = { s.lane l with
        latches := (s.lane l).latches.add f
        detector := if f = .beamStuck then .idle else (s.lane l).detector } →
      PendingNotice.laneFault l ∈ u.notices.pending ∧ u.notices.mask = s.notices.mask ∧
      ((s.lane l).latches.any = true →
        u.lanes = s.lanes.set l x ∧ u.journal = s.journal.write s.stamp (.fault l x.latches) ∧
        u.notices = (if u.journal.isHigh then s.notices.raise .journalHigh else s.notices).raise (.laneFault l) ∧
        s.keepsAllBut u [.lanes, .journal, .notices]) ∧
      ((s.lane l).latches.any = false →
        u.lanes = s.lanes.set l { x with
          display := none
          unlockTimer := if (s.pendingPass l).isSome then none else (s.lane l).unlockTimer } ∧
        u.pendingPass l = none ∧ u.ae = { s.ae with waiting := s.ae.waiting.set l none } ∧
        u.lif = { s.lif with replies := s.lif.replies ++ s.busyReplies l } ∧
        (∀ p, s.pendingPass l = some p →
          u.journal = (s.journal.write s.stamp (.fault l x.latches)).write s.stamp (.lapsed l p .fault) ∧
          (∀ n, n = (if (s.journal.write s.stamp (.fault l x.latches)).isHigh then s.notices.raise .journalHigh
              else s.notices) →
            u.notices = (if u.journal.isHigh then n.raise .journalHigh else n).raise (.laneFault l)) ∧
          u.findPass p = (s.findPass p).map (fun e => { e with marker := none }) ∧
          (∀ q, q ≠ p → u.findPass q = s.findPass q) ∧
          u.pbl = { s.pbl with entries := s.pbl.entries.filter fun y => y.phase ≠ .pending l } ∧
          u.tally = s.tallyWith l (s.lapsedCounters l)) ∧
        (s.pendingPass l = none → u.journal = s.journal.write s.stamp (.fault l x.latches) ∧
          u.notices = (if u.journal.isHigh then s.notices.raise .journalHigh else s.notices).raise (.laneFault l) ∧
          u.passes = s.passes ∧ u.pbl = s.pbl ∧ u.tally = s.tally) ∧
        s.keepsAllBut u [.lif, .passes, .lanes, .ae, .pbl, .tally, .journal, .notices]))

/-- R79, R80: ARM_REST_CHANGE records the level and, at a GATE lane, starts or stops the arm timer; a level already held
is no change (assumption log 8). An expiry of a stuck timer that runs stops it and latches its fault (FaultLatchEffects);
one that does not run does not expire (assumption log 9). DISPLAY_TIME_EXPIRY, ALARM_TIMER_EXPIRY and BUZZER_PATTERN_END
end what they time. -/
def Obligations.LaneTimersAndArmRest : Prop :=
  ∀ (l : LaneId) (s : State),
    (∀ present, (s.lane l).armRest = present → ends (.armRestChange l present) s s) ∧
    (∀ present, (s.lane l).armRest ≠ present → ends (.armRestChange l present) s (s.setLane l { s.lane l with
      armRest := present
      armTimer := if (s.lane l).role = .gate
        then (if present then none else some s.rcc.site.armStuck) else (s.lane l).armTimer })) ∧
    ((s.lane l).armTimer = none → ends (.armStuckTimerExpiry l) s s) ∧
    (∀ d, (s.lane l).armTimer = some d → ends (.armStuckTimerExpiry l) s
      ((s.setLane l { s.lane l with armTimer := none }).latchFault l .armStuck)) ∧
    ((s.lane l).beamATimer = none → ends (.beamStuckTimerExpiry l .a) s s) ∧
    (∀ d, (s.lane l).beamATimer = some d → ends (.beamStuckTimerExpiry l .a) s
      ((s.setLane l { s.lane l with beamATimer := none }).latchFault l .beamStuck)) ∧
    ((s.lane l).beamBTimer = none → ends (.beamStuckTimerExpiry l .b) s s) ∧
    (∀ d, (s.lane l).beamBTimer = some d → ends (.beamStuckTimerExpiry l .b) s
      ((s.setLane l { s.lane l with beamBTimer := none }).latchFault l .beamStuck)) ∧
    ends (.displayTimeExpiry l) s (s.setLane l { s.lane l with display := none }) ∧
    ((s.lane l).alarmTimer = false → ends (.alarmTimerExpiry l) s s) ∧
    ((s.lane l).alarmTimer = true → ends (.alarmTimerExpiry l) s (s.setLane l { s.lane l with
      alarmTimer := false
      pattern := if (s.lane l).pattern = .alarm then .silence else (s.lane l).pattern })) ∧
    ends (.buzzerPatternEnd l) s (s.setLane l { s.lane l with
      pattern := if (s.lane l).pattern = .alarm then .alarm else .silence })

/-! ## Admission -/

/-- R92 to R96: a GATE or TEST request is decided ADMIT exactly when all thirteen checks pass, and the cause of a refused
one is that of the first check that fails, in the order of Table 5.1. -/
def Obligations.DecisionByThirteenChecks : Prop :=
  (∀ (s : State) (pass : Nat), s.decisionOn pass = .admitted ↔
    s.rcc.clock.state = .running ∧ s.rcc.mode = .run ∧ s.rcc.lift = .isOpen ∧
    ∃ e p, s.findPass pass = some e ∧ s.product? e.product = some p ∧ e.status = .active ∧
      p.liftMask.getLsbD s.rcc.site.liftNumber = true ∧
      p.openMinute ≤ s.wallMinute ∧ s.wallMinute < p.closeMinute ∧
      e.start ≤ s.today ∧ s.today ≤ e.start + p.window - 1 ∧
      (∀ n, p.kind = .days n → s.today - e.start ∈ e.daysUsed ∨ e.daysUsed.length < n) ∧
      e.marker = none ∧ ∀ x ∈ s.pbl.entries, x.pass ≠ pass) ∧
  (∀ (s : State) (pass : Nat),
    (s.rcc.clock.state ≠ .running → s.decisionOn pass = .refusedWith .noClock) ∧
    (s.rcc.clock.state = .running →
      (s.rcc.mode = .setup → s.decisionOn pass = .refusedWith .setupMode) ∧
      (s.rcc.mode = .run →
        (s.rcc.lift = .closed → s.decisionOn pass = .refusedWith .liftClosed) ∧
        (s.rcc.lift = .hold → s.decisionOn pass = .refusedWith .liftHold) ∧
        (s.rcc.lift = .isOpen →
          (s.findPass pass = none → s.decisionOn pass = .refusedWith .unknown) ∧
          (∀ e, s.findPass pass = some e →
            (s.product? e.product = none → s.decisionOn pass = .refusedWith .noProduct) ∧
            (∀ p, s.product? e.product = some p →
              (e.status = .blocked → s.decisionOn pass = .refusedWith .blocked) ∧
              (e.status = .refunded → s.decisionOn pass = .refusedWith .refunded) ∧
              (e.isHeld = true → s.decisionOn pass = .refusedWith .held) ∧
              (e.status = .active →
                (p.liftMask.getLsbD s.rcc.site.liftNumber = false →
                  s.decisionOn pass = .refusedWith .notThisLift) ∧
                (p.liftMask.getLsbD s.rcc.site.liftNumber = true →
                  (s.wallMinute < p.openMinute ∨ p.closeMinute ≤ s.wallMinute →
                    s.decisionOn pass = .refusedWith .outOfHours) ∧
                  (p.openMinute ≤ s.wallMinute → s.wallMinute < p.closeMinute →
                    (s.today < e.start → s.decisionOn pass = .refusedWith .notYet) ∧
                    (e.start ≤ s.today → e.start + p.window - 1 < s.today →
                      s.decisionOn pass = .refusedWith .expired) ∧
                    (e.start ≤ s.today → s.today ≤ e.start + p.window - 1 →
                      (e.dayAllowed p (s.today - e.start) = false →
                        s.decisionOn pass = .refusedWith .daysUsedUp) ∧
                      (e.dayAllowed p (s.today - e.start) = true →
                        (e.marker.isSome → s.decisionOn pass = .refusedWith .inLane) ∧
                        (e.marker = none → s.inPassback pass = true →
                          s.decisionOn pass = .refusedWith .passback))))))))))))

/-- R89: with no request waiting no grant is made, and that GRANT then changes nothing is the model's choice (assumption
log 9); otherwise the first waiting lane from the pointer onwards is granted, its request leaves the set, and the pointer
goes to the lane after it. -/
def Obligations.GrantInRotatingOrder : Prop :=
  ∀ s : State,
    ((∀ l, s.ae.waiting.get l = none) → ends .grant s s) ∧
    ∀ (k : Fin 4) (r : LaneRequest), s.ae.waiting.get (s.ae.pointer + k) = some r →
      (∀ j : Fin 4, j.val < k.val → s.ae.waiting.get (s.ae.pointer + j) = none) →
      ∃ u, ends .grant s u ∧ u.ae.pointer = s.ae.pointer + k + 1 ∧
        u.ae.waiting = s.ae.waiting.set (s.ae.pointer + k) none ∧
        u = (s.setAe { waiting := s.ae.waiting.set (s.ae.pointer + k) none,
                       pointer := s.ae.pointer + k + 1 }).evaluate (s.ae.pointer + k) r

/-- R99, R107, R70: an admitted GATE request sets the marker with the decision day, inserts the PENDING passback entry
at the young end (evicting the oldest COMMITTED entry of a full list), counts the admission, starts the lane's unlock
timer and ends its display time. A refused one is refused at the lane with its cause (RefusalEffects). R86, R98: a TEST
request is decided as a GATE request; it writes a TEST record, counts the test read, shows the decision unless the lane
is in FAULT and places the deferred reply; no entry, passback entry or other count changes. -/
def Obligations.GateAndTestGrants : Prop :=
  (∀ (s : State) (l : LaneId) (pass : Nat), s.grantedLane = some l →
    s.ae.waiting.get l = some { pass := pass, kind := .gate } →
    ∃ u, ends .grant s u ∧ u.ae = { waiting := s.ae.waiting.set l none, pointer := l + 1 } ∧
      (∀ cause, s.decisionOn pass = .refusedWith cause → u = (s.leaveSet l).refuse l cause (some pass)) ∧
      (s.decisionOn pass = .admitted →
        (∀ e, s.findPass pass = some e →
          u.findPass pass = some { e with marker := some { lane := l, day := s.rcc.clock.day } }) ∧
        (∀ q, q ≠ pass → u.findPass q = s.findPass q) ∧ u.passes.length = s.passes.length ∧
        (s.pbl.entries.length < 256 →
          u.pbl = { s.pbl with entries := s.pbl.entries ++ [{ pass := pass, phase := .pending l }] }) ∧
        (256 ≤ s.pbl.entries.length →
          u.pbl = { s.pbl with
            entries := s.pbl.entries.eraseP PassbackEntry.isCommitted ++ [{ pass := pass, phase := .pending l }]
            evictions := min 65535 (s.pbl.evictions + 1) }) ∧
        u.tally = s.tallyWith l { s.counters l with admittedCount := bump (s.counters l).admittedCount } ∧
        u.lanes = s.lanes.set l { s.lane l with
          unlockTimer := some (s.lane l).unlockTimeout, display := none } ∧
        s.keepsAllBut u [.ae, .passes, .pbl, .tally, .lanes])) ∧
  (∀ (s : State) (l : LaneId) (pass : Nat) (tag : Byte), s.grantedLane = some l →
    s.ae.waiting.get l = some { pass := pass, kind := .test tag } →
    ∃ u, ends .grant s u ∧ u.ae = { waiting := s.ae.waiting.set l none, pointer := l + 1 } ∧
      s.recorded u (.test l pass (s.decisionOn pass)) ∧
      s.repliesWith u .laneInject tag .ok (.testDecision (s.decisionOn pass)) ∧
      u.tally = s.tallyWith l { s.counters l with testReads := bump (s.counters l).testReads } ∧
      ((s.leaveSet l).laneState l ≠ .fault → u.lanes = s.lanes.set l { s.lane l with
        display := some (if s.decisionOn pass = .admitted then .served else .refusal) }) ∧
      ((s.leaveSet l).laneState l = .fault → u.lanes = s.lanes) ∧
      s.keepsAllBut u [.lif, .lanes, .ae, .tally, .journal, .notices])

/-- R84, R97, R151: a DESK request is refused with NO_CLOCK while the clock is not RUNNING; otherwise its lookup is
served: the desk read is counted, the auto-quote settled, DESK_READ raised with the summary, and the served indication
shown unless the lane is in FAULT. The lookup names the pass, and its entry's status, product and day counts. An
auto-quote that is opened takes its slot with the lane as its source, holds the pass, and joins the calculator queue
(R149); its computation starts at once when the calculator is IDLE (R129; an IDLE calculator has an empty queue, which
QuotesKeptByEveryStep keeps); every other pass and slot stays. -/
def Obligations.DeskGrantServesTheLookup : Prop :=
  ∀ (s : State) (l : LaneId) (pass : Nat), s.grantedLane = some l →
    s.ae.waiting.get l = some { pass := pass, kind := .desk } →
    (s.findPass pass = none → s.lookup pass =
      { pass := pass, status := none, product := none, days := none
        counts := { fullDays := 0, stormDays := 0, noServiceDays := 0 } }) ∧
    (∀ e, s.findPass pass = some e → (s.lookup pass).pass = pass ∧ (s.lookup pass).status = some e.status ∧
      (s.lookup pass).product = some e.product ∧ (s.lookup pass).counts = s.dayCounts e ∧
      ∀ n, (s.lookup pass).days = some n ↔ ∃ p, s.product? e.product = some p ∧ p.kind = .days n) ∧
    ∃ u, ends .grant s u ∧ u.ae = { waiting := s.ae.waiting.set l none, pointer := l + 1 } ∧
      (s.rcc.clock.state ≠ .running → u = (s.leaveSet l).refuse l .noClock (some pass)) ∧
      (s.rcc.clock.state = .running →
        u.tally = s.tallyWith l { s.counters l with deskReads := bump (s.counters l).deskReads } ∧
        ((s.leaveSet l).laneState l ≠ .fault →
          u.lanes = s.lanes.set l { s.lane l with display := some .served }) ∧
        ((s.leaveSet l).laneState l = .fault → u.lanes = s.lanes) ∧
        (∃ q, u.notices = s.notices.raise (.deskRead l { lookup := s.lookup pass, quote := q }) ∧
          ((s.lane l).autoQuote = false → q = .autoQuoteOff) ∧
          ((s.lane l).autoQuote = true → s.rcc.mode = .setup → q = .refusedWith .wrongMode) ∧
          (∀ code, (s.lane l).autoQuote = true → s.rcc.mode = .run → s.quoteChecks pass = .fails code →
            q = .refusedWith code) ∧
          (∀ slot, (s.lane l).autoQuote = true → s.rcc.mode = .run → s.quoteChecks pass = .slotFree slot →
            q = .opened slot ∧ (u.slot slot).lastEnding = (s.slot slot).lastEnding ∧
            (s.rfc.busy.isSome ∨ s.rfc.queue = [] → ∀ i, i ≠ slot → u.slot i = s.slot i) ∧
            u.findPass pass = (s.findPass pass).map (fun e => { e with status := .refundHold slot }) ∧
            (∀ p, p ≠ pass → u.findPass p = s.findPass p) ∧ u.passes.length = s.passes.length ∧
            (s.rfc.busy.isSome →
              (u.slot slot).state = .queued { pass := pass, source := .desk l } ∧
              u.rfc = { s.rfc with queue := s.rfc.queue ++ [slot] }) ∧
            (s.rfc.busy = none → s.rfc.queue = [] → ∀ e p n policy, s.findPass pass = some e →
              s.refundTerms e = some (p, n, policy) →
              u.rfc = { busy := some { slot := slot, snapshot := s.snapshotOf e p n policy, steps := 0,
                                       work := Working.start }, queue := [] } ∧
              (u.slot slot).state =
                .computing { pass := pass, source := .desk l } (s.snapshotOf e p n policy))) ∧
          ((∀ slot, q ≠ .opened slot) → u.passes = s.passes ∧ u.quotes = s.quotes ∧ u.rfc = s.rfc)) ∧
        s.keepsAllBut u [.passes, .lanes, .ae, .tally, .rfc, .quotes, .notices])

/-- R71, R100, R101, R108, R117: a rotation at a GATE lane with an admission pending commits it: the marker goes, the
usage part takes the day (once, and only below N), the ride and the passage, the passback entry becomes COMMITTED at the
young end (and goes at once under an interval of 0), PASSAGE is written, and the PAID rider is counted and meets the
matching lists. Any COMMITTED entry found due at the event goes with it (assumption log 10). -/
def Obligations.RotationCommitsTheAdmission : Prop :=
  ∀ (s : State) (l : LaneId) (pass : Nat) (e : PassEntry) (m : AdmissionMarker),
    (s.lane l).role = .gate → s.pendingPass l = some pass → s.findPass pass = some e → e.marker = some m →
    ∃ u v isNew, ends (.rotation l) s u ∧
      u.findPass pass = some { e with marker := none, usage := some v } ∧
      (∀ q, q ≠ pass → u.findPass q = s.findPass q) ∧ u.passes.length = s.passes.length ∧
      (isNew = true ↔ ∃ p n, s.product? e.product = some p ∧ p.kind = .days n ∧
        m.day - e.start ∉ e.daysUsed ∧ e.daysUsed.length < n) ∧
      v.days = (if isNew then insertOffset (m.day - e.start) e.daysUsed else e.daysUsed) ∧
      v.firstUse = min ((e.usage.map (·.firstUse)).getD m.day) m.day ∧
      v.rides = min 65535 ((e.usage.map (·.rides)).getD 0 + 1) ∧
      v.last = some { stamp := s.stamp, lane := l } ∧
      u.pbl = { s.pbl with entries := ((s.pbl.entries.filter fun (x : PassbackEntry) => x.pass ≠ pass) ++
        [({ pass := pass, phase := .committed s.stamp } : PassbackEntry)]).filter fun x => x.staysAt s.stamp s.pbl.interval } ∧
      s.recorded u (.passage l pass isNew v.rides) ∧
      u.tally.previous = s.tally.previous ∧
      u.tally.today = { (s.tallyRider l { s.counters l with paid := bump (s.counters l).paid }).today with
        newDays := if isNew then bump s.tally.today.newDays else s.tally.today.newDays } ∧
      (∀ x rest, (s.lane l).entries = x :: rest →
        u.lanes = s.lanes.set l { s.lane l with unlockTimer := none, entries := rest }) ∧
      ((s.lane l).entries = [] → u.lanes = s.lanes.set l { s.lane l with
        unlockTimer := none
        rotations := (if (s.lane l).rotations.length < 4 then (s.lane l).rotations
          else (s.lane l).rotations.drop 1) ++ [{ stamp := s.stamp, window := s.rcc.site.matchWindow }] }) ∧
      s.keepsAllBut u [.passes, .lanes, .pbl, .tally, .journal, .notices]

/-- R74, R117, R119, R120: a rotation at a GATE lane with no admission pending is a FREE rider under the override FREE,
and otherwise FORCED, with the alarm, its stamp and LANE_ALARM; the rider is counted, and matched with the oldest entry
item or held (a full list's oldest item leaves). At a lane of another role nothing happens. R79: under a buzzer override
ON or OFF the alarm is not sounded and not sounded later; that an alarm begun before the override ends with the timer
that is started afresh is the model's choice (assumption log 19). -/
def Obligations.RotationWithNonePending : Prop :=
  ∀ (s : State) (l : LaneId),
    ((s.lane l).role ≠ .gate → ends (.rotation l) s s) ∧
    (∀ x, (s.lane l).role = .gate → s.pendingPass l = none →
      (∀ y rest, (s.lane l).entries = y :: rest → x = { s.lane l with entries := rest }) →
      ((s.lane l).entries = [] → x = { s.lane l with
        rotations := (if (s.lane l).rotations.length < 4 then (s.lane l).rotations
          else (s.lane l).rotations.drop 1) ++ [{ stamp := s.stamp, window := s.rcc.site.matchWindow }] }) →
      ∃ u, ends (.rotation l) s u ∧ s.keepsAllBut u [.lanes, .tally, .journal, .notices] ∧
        ((s.lane l).armOverride = .free →
          u.tally = s.tallyRider l { s.counters l with free := bump (s.counters l).free } ∧
          s.recorded u (.rider l .free) ∧ u.lanes = s.lanes.set l x) ∧
        ((s.lane l).armOverride ≠ .free →
          u.tally = s.tallyRider l { s.counters l with forced := bump (s.counters l).forced } ∧
          u.journal = s.journal.write s.stamp (.rider l .forced) ∧
          u.notices = (if u.journal.isHigh then (s.notices.raise (.laneAlarm l)).raise .journalHigh
            else s.notices.raise (.laneAlarm l)) ∧
          u.lanes = s.lanes.set l { x with
            forcedStamp := s.stamp
            alarmTimer := true
            pattern := if (s.lane l).buzzerOverride = .auto then .alarm
              else if (s.lane l).pattern = .alarm then .silence else (s.lane l).pattern }))

/-- R103: a lapse at a lane with an admission pending removes its marker and its PENDING passback entry, counts it in
today's set, writes LAPSED with its reason and stops the unlock timer; the pass keeps its usage and status. A lapse at a
lane with none pending changes nothing. R72: an expiry of the unlock timer at a lane in UNLOCKED lapses with TIMEOUT. An
expiry with no timer running or at a lane not in UNLOCKED does not occur (R72); that the command changes nothing then is
the model's choice (assumption log 9). -/
def Obligations.LapseEndsTheAdmission : Prop :=
  ∀ (s : State) (l : LaneId),
    (∀ reason, s.pendingPass l = none → s.lapse l reason = s) ∧
    (∀ reason pass u, s.pendingPass l = some pass → u = s.lapse l reason →
      u.findPass pass = (s.findPass pass).map (fun e => { e with marker := none }) ∧
      (∀ q, q ≠ pass → u.findPass q = s.findPass q) ∧
      u.pbl = { s.pbl with entries := s.pbl.entries.filter fun x => x.phase ≠ .pending l } ∧
      u.pendingPass l = none ∧ (∀ k, k ≠ l → u.pendingPass k = s.pendingPass k) ∧
      u.tally = s.tallyWith l { s.counters l with lapsed := bump (s.counters l).lapsed } ∧
      s.recorded u (.lapsed l pass reason) ∧
      u.lanes = s.lanes.set l { s.lane l with unlockTimer := none } ∧
      s.keepsAllBut u [.passes, .lanes, .pbl, .tally, .journal, .notices]) ∧
    ((s.lane l).unlockTimer = none ∨ s.laneState l ≠ .unlocked → ends (.unlockTimerExpiry l) s s) ∧
    (∀ d, (s.lane l).unlockTimer = some d → s.laneState l = .unlocked →
      ends (.unlockTimerExpiry l) s (s.lapse l .timeout))

/-! ## Rider counting -/

/-- R113, R114, R115, R118, R119: a beam change at a GATE lane records the level, starts or stops the beam's stuck timer
and moves the detector as Table 6.1 gives, held in IDLE under BEAM_STUCK; B clearing in INNER hands one ENTRY to the
lists, which matches the oldest rotation item or joins the entry list, whose oldest item leaves as an UNDER rider if the
list is full. At another lane only the level is recorded, and a level already held is no change (assumption log 8). The
expiry of a rotation item's match timer removes it and counts nothing; that of an entry item removes it and counts an
UNDER rider, with its RIDER record. An item that is not there has no timer (assumption log 9). R120: a rider counted
adds one to the hour bin of the wall hour and to no other. Each beam has a level and a stuck timer of its own, and a
write of one touches no other. -/
def Obligations.BeamsAndMatchTimers : Prop :=
  (∀ (x : Lane) (blocked : Bool) (t : Option Nat),
    x.beam .a = x.beamA ∧ x.beam .b = x.beamB ∧
    x.setBeam .a blocked = { x with beamA := blocked } ∧ x.setBeam .b blocked = { x with beamB := blocked } ∧
    x.setBeamTimer .a t = { x with beamATimer := t } ∧ x.setBeamTimer .b t = { x with beamBTimer := t }) ∧
  (∀ (s : State) (l : LaneId) (beam : Beam) (blocked : Bool),
    ((s.lane l).beam beam = blocked → ends (.beamChange l beam blocked) s s) ∧
    ((s.lane l).beam beam ≠ blocked → (s.lane l).role ≠ .gate →
      ends (.beamChange l beam blocked) s (s.setLane l ((s.lane l).setBeam beam blocked))) ∧
    (∀ x, (s.lane l).beam beam ≠ blocked → (s.lane l).role = .gate →
      x = { ((s.lane l).setBeam beam blocked).setBeamTimer beam
              (if blocked then some s.rcc.site.beamStuck else none) with
            detector :=
              if (s.lane l).latches.beamStuck = true then .idle
              else if (s.lane l).detector = .idle ∧ beam = .a ∧ blocked = true then .outer
              else if (s.lane l).detector = .outer ∧ beam = .b ∧ blocked = true then .both
              else if (s.lane l).detector = .both ∧ beam = .a ∧ blocked = false then .inner
              else if (s.lane l).detector = .inner ∧ beam = .a ∧ blocked = true then .both
              else .idle } →
      (¬((s.lane l).latches.beamStuck = false ∧ (s.lane l).detector = .inner ∧ beam = .b ∧ blocked = false) →
        ends (.beamChange l beam blocked) s (s.setLane l x)) ∧
      ((s.lane l).latches.beamStuck = false → (s.lane l).detector = .inner → beam = .b → blocked = false →
        (∀ y rest, (s.lane l).rotations = y :: rest →
          ends (.beamChange l beam blocked) s (s.setLane l { x with rotations := rest })) ∧
        ((s.lane l).rotations = [] → (s.lane l).entries.length < 4 →
          ends (.beamChange l beam blocked) s (s.setLane l { x with entries := (s.lane l).entries ++
            [{ stamp := s.stamp, window := s.rcc.site.matchWindow }] })) ∧
        ((s.lane l).rotations = [] → 4 ≤ (s.lane l).entries.length →
          ∃ u, ends (.beamChange l beam blocked) s u ∧
            u.lanes = s.lanes.set l { x with entries := (s.lane l).entries.drop 1 ++
              [{ stamp := s.stamp, window := s.rcc.site.matchWindow }] } ∧
            u.tally = s.tallyRider l { s.counters l with under := bump (s.counters l).under } ∧
            s.recorded u (.rider l .under) ∧ s.keepsAllBut u [.lanes, .tally, .journal, .notices])))) ∧
  (∀ (s : State) (l : LaneId) (k : Fin 4),
    ends (.matchTimerExpiry l .rotation k) s
      (s.setLane l { s.lane l with rotations := (s.lane l).rotations.eraseIdx k.val }) ∧
    ((s.lane l).entries.length ≤ k.val → ends (.matchTimerExpiry l .entry k) s s) ∧
    (k.val < (s.lane l).entries.length → ∃ u, ends (.matchTimerExpiry l .entry k) s u ∧
      u.lanes = s.lanes.set l { s.lane l with entries := (s.lane l).entries.eraseIdx k.val } ∧
      u.tally = s.tallyRider l { s.counters l with under := bump (s.counters l).under } ∧
      s.recorded u (.rider l .under) ∧ s.keepsAllBut u [.lanes, .tally, .journal, .notices]) ∧
    (∀ c h, (s.tallyRider l c).today.hours[h]? =
      if h = (s.rcc.site.rolloverMinute + s.rcc.clock.second / 60) % 1440 / 60
      then (s.tally.today.hours[h]?).map bump else s.tally.today.hours[h]?))

/-- R124: TALLY reports the selected part of the selected set and changes no counter; any other selector is BAD_VALUE.
Behind its status byte a lane's reply takes 95 bytes and the lift's 87 (section 10.9): the day's presence and the day,
the counters in their order, and for a lane of TODAY what stands in its lists. That the stamp of an empty list is sent
as four zero bytes is the model's choice (assumption log 5). -/
def Obligations.TallyReportsOnePart : Prop :=
  (∀ (d : Nat) (l : LaneId) (c : LaneCounters) (h : LaneInHand),
    (ReplyData.laneTally (some d) l c (some h)).bytes =
      bytesOf 1 1 ++ bytesOf 1 d ++ bytesOf 1 l.val ++
      (([c.admittedCount, c.paid, c.lapsed, c.free, c.forced, c.under, c.testReads, c.deskReads] ++
        c.refusals.toList).map (bytesOf 3)).flatten ++
      bytesOf 1 h.pending ++ bytesOf 1 h.rotationItems ++ bytesOf 4 (h.rotationOldest.getD 0) ++
      bytesOf 1 h.entryItems ++ bytesOf 4 (h.entryOldest.getD 0) ∧
    (ReplyData.laneTally none l c none).bytes =
      bytesOf 2 0 ++ bytesOf 1 l.val ++
      (([c.admittedCount, c.paid, c.lapsed, c.free, c.forced, c.under, c.testReads, c.deskReads] ++
        c.refusals.toList).map (bytesOf 3)).flatten ++ bytesOf 11 0) ∧
  (∀ (d riders newDays refunds payout : Nat) (hours : Vector Nat 24),
    (ReplyData.liftTally (some d) riders newDays refunds payout hours).bytes =
      bytesOf 1 1 ++ bytesOf 1 d ++ bytesOf 3 riders ++ bytesOf 3 newDays ++ bytesOf 3 refunds ++
      bytesOf 4 payout ++ (hours.toList.map (bytesOf 3)).flatten) ∧
  (∀ day l c h, (ReplyData.laneTally day l c h).bytes.length = 95) ∧
  (∀ day riders newDays refunds payout hours,
    (ReplyData.liftTally day riders newDays refunds payout hours).bytes.length = 87) ∧
  ∀ (tag set part : Byte) (s : State), s.takes →
    ∃ u, asks (.tally tag set part) s u ∧
      (1 < set.toNat ∨ 4 < part.toNat → s.onlyAnswers u .tally tag .badValue .nothing) ∧
      (∀ l : LaneId, set.toNat = 0 → part.toNat = l.val →
        s.onlyAnswers u .tally tag .ok (.laneTally s.tally.today.day l (s.tally.today.lanes.get l)
          (some { pending := s.pendingCount l
                  rotationItems := (s.lane l).rotations.length
                  rotationOldest := (s.lane l).rotations.head?.map (·.stamp)
                  entryItems := (s.lane l).entries.length
                  entryOldest := (s.lane l).entries.head?.map (·.stamp) }))) ∧
      (∀ l : LaneId, set.toNat = 1 → part.toNat = l.val →
        s.onlyAnswers u .tally tag .ok
          (.laneTally s.tally.previous.day l (s.tally.previous.lanes.get l) none)) ∧
      (∀ t, set.toNat ≤ 1 → part.toNat = 4 → t = (if set.toNat = 0 then s.tally.today else s.tally.previous) →
        s.onlyAnswers u .tally tag .ok
          (.liftTally t.day t.riders t.newDays t.refundsSettled t.payoutTotal t.hours))

/-- R125: TALLY_CLEAR sets every counter of today's set to 0, presets each lane's admitted count to the admissions
pending there, keeps the set's day, and touches nothing else. -/
def Obligations.TallyClearPresetsAdmitted : Prop :=
  ∀ (tag : Byte) (s : State), s.takes → ∃ u, asks (.tallyClear tag) s u ∧
    u.tally.previous = s.tally.previous ∧ u.tally.today.day = s.tally.today.day ∧
    (∀ l, (u.tally.today.lanes.get l).admittedCount = (if (s.pendingPass l).isSome then 1 else 0) ∧
      { u.tally.today.lanes.get l with admittedCount := 0 } = LaneCounters.zero) ∧
    u.tally.today.riders = 0 ∧ u.tally.today.newDays = 0 ∧ u.tally.today.refundsSettled = 0 ∧
    u.tally.today.payoutTotal = 0 ∧ (∀ h, h < 24 → u.tally.today.hours[h]? = some 0) ∧
    s.repliesWith u .tallyClear tag .ok .nothing ∧ s.keepsAllBut u [.lif, .tally]

/-! ## Refunds -/

/-- R134, R135: the restoring long division and the shift-and-add multiplication are exact for every dividend and
multiplier of the bits they take. -/
def Obligations.DividerAndMultiplierExact : Prop :=
  (∀ bits n d : Nat, 0 < d → n < 2 ^ bits → longDivide bits n d = (n / d, n % d)) ∧
  ∀ bits a b : Nat, b < 2 ^ bits → shiftAddMultiply bits a b = a * b

/-- R136 to R144: over the snapshot ranges of Table 7.1 the results of every computation have the closed form of the
stages; they lie in the ranges of Table 7.3, 0 ≤ payout ≤ net ≤ gross ≤ price, the payout is a multiple of the rounding
unit, and gross equals price when the used units are 0. -/
def Obligations.RefundResultsAndTheirBounds : Prop :=
  (∀ x : Snapshot, x.price ≤ 16777215 → 1 ≤ x.days → x.days ≤ 14 → x.fixedFee ≤ 65535 → x.percentFee ≤ 10000 →
    x.rounding ∈ roundingUnits →
    (computeRefund x).hTotal = 2 * x.days ∧
    (computeRefund x).hUsed = 2 * x.fullDays + (if x.stormCredit then x.stormDays else 2 * x.stormDays) ∧
    (computeRefund x).hUnused = 2 * x.days - (computeRefund x).hUsed ∧
    (computeRefund x).q = x.price / (2 * x.days) ∧ (computeRefund x).r = x.price % (2 * x.days) ∧
    (computeRefund x).gross = (if (computeRefund x).hUnused = 0 then 0 else
      (computeRefund x).q * (computeRefund x).hUnused + ((computeRefund x).r - (computeRefund x).hUsed)) ∧
    (computeRefund x).percentFee = (computeRefund x).gross * x.percentFee / 10000 ∧
    (computeRefund x).net =
      (if (computeRefund x).gross < x.fixedFee + (computeRefund x).percentFee then 0
       else if (computeRefund x).gross - x.fixedFee - (computeRefund x).percentFee < x.minimum then 0
       else (computeRefund x).gross - x.fixedFee - (computeRefund x).percentFee) ∧
    (computeRefund x).payout = (computeRefund x).net / x.rounding * x.rounding ∧
    (computeRefund x).residue = (computeRefund x).net % x.rounding ∧
    ((computeRefund x).flags.unitsClamped = true ↔ 2 * x.days < (computeRefund x).hUsed) ∧
    ((computeRefund x).flags.netClamped = true ↔
      (computeRefund x).gross < x.fixedFee + (computeRefund x).percentFee) ∧
    ((computeRefund x).flags.belowMinimum = true ↔
      x.fixedFee + (computeRefund x).percentFee < (computeRefund x).gross ∧
      (computeRefund x).gross - x.fixedFee - (computeRefund x).percentFee < x.minimum)) ∧
  (∀ x : Snapshot, x.price ≤ 16777215 → 1 ≤ x.days → x.days ≤ 14 → x.fullDays + x.stormDays + x.noServiceDays ≤ 32 →
    x.fixedFee ≤ 65535 → x.percentFee ≤ 10000 → x.minimum ≤ 65535 → x.rounding ∈ roundingUnits →
    (computeRefund x).payout ≤ (computeRefund x).net ∧ (computeRefund x).net ≤ (computeRefund x).gross ∧
    (computeRefund x).gross ≤ x.price ∧ x.rounding ∣ (computeRefund x).payout ∧
    ((computeRefund x).hUsed = 0 → (computeRefund x).gross = x.price) ∧
    2 ≤ (computeRefund x).hTotal ∧ (computeRefund x).hTotal ≤ 28 ∧ (computeRefund x).hUsed ≤ 64 ∧
    (computeRefund x).hUnused ≤ 28 ∧ (computeRefund x).q ≤ 8388607 ∧ (computeRefund x).r ≤ 27 ∧
    (computeRefund x).fixedFee = x.fixedFee ∧ (computeRefund x).percentFee ≤ (computeRefund x).gross ∧
    (computeRefund x).residue < x.rounding ∧
    (computeRefund x).payout + (computeRefund x).residue = (computeRefund x).net ∧
    (((computeRefund x).flags.unitsClamped = true ∨ (computeRefund x).flags.netClamped = true ∨
      (computeRefund x).flags.belowMinimum = true) → (computeRefund x).payout = 0))

/-- R148, R149: QUOTE is refused with WRONG_MODE in SETUP and by the first of its nine checks that fails in RUN;
otherwise the lowest FREE slot takes the quote, the pass is held with it, the slot is queued (and its computation starts
at once when the calculator is IDLE, R129), and the reply is ACCEPTED. R13, R97, R130: the day counts sort the used days
by the calendar's marks of the days they name, and the snapshot is Table 7.1's fields, from the entry, its refundable
product (present, of kind DAYS, with a policy) and those counts. -/
def Obligations.QuoteChecksAndAcceptance : Prop :=
  (∀ (s : State) (e : PassEntry),
    (∀ (day : Nat) (h : day < 240), s.markOf day = s.rcc.calendar[day]) ∧
    (e.usage = none → e.daysUsed = []) ∧ (∀ v, e.usage = some v → e.daysUsed = v.days) ∧
    s.dayCounts e =
      { fullDays := (e.daysUsed.filter fun o => s.markOf (e.start + o) = .noMark).length
        stormDays := (e.daysUsed.filter fun o => s.markOf (e.start + o) = .closedEarly).length
        noServiceDays := (e.daysUsed.filter fun o => s.markOf (e.start + o) = .closedAllDay).length } ∧
    (∀ p n policy, s.refundTerms e = some (p, n, policy) ↔
      s.product? e.product = some p ∧ p.kind = .days n ∧ p.policy = some policy) ∧
    (∀ p n policy, s.snapshotOf e p n policy =
      { price := e.price, days := n, fullDays := (s.dayCounts e).fullDays, stormDays := (s.dayCounts e).stormDays
        noServiceDays := (s.dayCounts e).noServiceDays, start := e.start, window := p.window
        fixedFee := policy.fixedFee, percentFee := policy.percentFee, minimum := policy.minimum
        rounding := policy.rounding, stormCredit := policy.stormCredit, deadlineDays := policy.deadlineDays }) ∧
    (∀ pass x, s.takeSnapshot pass = some x ↔ ∃ e p n policy, s.findPass pass = some e ∧
      s.refundTerms e = some (p, n, policy) ∧ x = s.snapshotOf e p n policy)) ∧
  ∀ (tag : Byte) (pass : U32) (s : State), s.takes →
    ∃ u, asks (.quote tag pass) s u ∧
      (s.rcc.mode = .setup → s.onlyAnswers u .quote tag .wrongMode .nothing) ∧
      (s.rcc.mode = .run → legalPass pass.toNat = false → s.onlyAnswers u .quote tag .badValue .nothing) ∧
      (s.rcc.mode = .run → legalPass pass.toNat = true → s.findPass pass.toNat = none →
        s.onlyAnswers u .quote tag .notFound .nothing) ∧
      (∀ e, s.rcc.mode = .run → legalPass pass.toNat = true → s.findPass pass.toNat = some e →
        (s.refundTerms e = none → s.onlyAnswers u .quote tag .notRefundable .nothing) ∧
        (∀ p n policy, s.refundTerms e = some (p, n, policy) →
          (e.status = .blocked → s.onlyAnswers u .quote tag .blocked .nothing) ∧
          (e.status = .refunded → s.onlyAnswers u .quote tag .alreadyRefunded .nothing) ∧
          (e.isHeld = true → s.onlyAnswers u .quote tag .held .nothing) ∧
          (e.status = .active → e.marker.isSome → s.onlyAnswers u .quote tag .pending .nothing) ∧
          (e.status = .active → e.marker = none → e.start + p.window - 1 + policy.deadlineDays < s.today →
            s.onlyAnswers u .quote tag .deadline .nothing) ∧
          (e.status = .active → e.marker = none → s.today ≤ e.start + p.window - 1 + policy.deadlineDays →
            ((∀ i, (s.slot i).state ≠ .free) → s.onlyAnswers u .quote tag .full .nothing) ∧
            (∀ slot : SlotId, (s.slot slot).state = .free →
              (∀ i : SlotId, i.val < slot.val → (s.slot i).state ≠ .free) →
              u.findPass pass.toNat = some { e with status := .refundHold slot } ∧
              (∀ q, q ≠ pass.toNat → u.findPass q = s.findPass q) ∧
              (u.slot slot).lastEnding = (s.slot slot).lastEnding ∧
              s.repliesWith u .quote tag .accepted (.slotOpened slot) ∧
              s.keepsAllBut u [.lif, .passes, .rfc, .quotes] ∧
              (s.rfc.busy.isSome →
                (u.slot slot).state = .queued { pass := pass.toNat, source := .line } ∧
                (∀ i, i ≠ slot → u.slot i = s.slot i) ∧
                u.rfc = { s.rfc with queue := s.rfc.queue ++ [slot] }) ∧
              (s.rfc.busy = none → s.rfc.queue = [] → ∃ snap,
                snap = s.snapshotOf e p n policy ∧
                u.rfc = { busy := some { slot := slot, snapshot := snap, steps := 0, work := Working.start },
                          queue := [] } ∧
                (u.slot slot).state = .computing { pass := pass.toNat, source := .line } snap ∧
                ∀ i, i ≠ slot → u.slot i = s.slot i)))))

/-- R154, R155, R156, R157: CONFIRM's nine checks in their order, with the drops of STALE and DEADLINE, and the
settlement: the pass REFUNDED, the SETTLEMENT record, the refund and its payout counted, the slot FREE with its last
ending kept, and the reply carrying the settlement. -/
def Obligations.ConfirmSettlesOrRefuses : Prop :=
  ∀ (tag slot : Byte) (pass : U32) (s : State), s.takes →
    ∃ u, asks (.confirm tag slot pass) s u ∧
      (fourOf slot = none ∨ legalPass pass.toNat = false →
        s.onlyAnswers u .confirm tag .badValue .nothing) ∧
      (∀ k, fourOf slot = some k → legalPass pass.toNat = true →
        ((s.slot k).state = .free → s.onlyAnswers u .confirm tag .notFound .nothing) ∧
        ((s.slot k).state = .cancelling → s.onlyAnswers u .confirm tag .busy .nothing) ∧
        (∀ i, (s.slot k).state.identity? = some i → i.pass ≠ pass.toNat →
          s.onlyAnswers u .confirm tag .badValue .nothing) ∧
        (∀ i, (s.slot k).state.identity? = some i → i.pass = pass.toNat → (s.slot k).state.phase ≠ .quoted →
          s.onlyAnswers u .confirm tag .busy .nothing) ∧
        (∀ i x r expiry, (s.slot k).state = .quoted i x r expiry → i.pass = pass.toNat →
          (r.payout = 0 → s.onlyAnswers u .confirm tag .nothingDue .nothing) ∧
          (∀ e, 0 < r.payout → s.findPass pass.toNat = some e →
            (s.dayCounts e ≠ { fullDays := x.fullDays, stormDays := x.stormDays,
                                noServiceDays := x.noServiceDays } →
              u = (s.dropQuote k .stale).answer .confirm tag .stale (.slotDropped k .stale)) ∧
            (s.dayCounts e = { fullDays := x.fullDays, stormDays := x.stormDays,
                                noServiceDays := x.noServiceDays } →
              (x.start + x.window - 1 + x.deadlineDays < s.today →
                u = (s.dropQuote k .deadline).answer .confirm tag .deadline (.slotDropped k .deadline)) ∧
              (s.today ≤ x.start + x.window - 1 + x.deadlineDays →
                (64 ≤ s.journal.settlementCount → s.onlyAnswers u .confirm tag .journalFull .nothing) ∧
                (s.journal.settlementCount < 64 → ∃ items,
                  items = { pass := i.pass, slot := k, source := i.source, hUsed := r.hUsed,
                            hTotal := r.hTotal, gross := r.gross, fixedFee := r.fixedFee,
                            percentFee := r.percentFee, payout := r.payout, residue := r.residue,
                            flags := r.flags : Settlement } ∧
                  u.findPass pass.toNat = some { e with status := .refunded } ∧
                  (∀ q, q ≠ pass.toNat → u.findPass q = s.findPass q) ∧
                  s.recorded u (.settlement items) ∧
                  u.tally = { s.tally with today := { s.tally.today with
                    refundsSettled := min 16777215 (s.tally.today.refundsSettled + 1)
                    payoutTotal := min 4294967295 (s.tally.today.payoutTotal + r.payout) } } ∧
                  u.slot k = { s.slot k with state := .free } ∧ (∀ j, j ≠ k → u.slot j = s.slot j) ∧
                  s.repliesWith u .confirm tag .ok (.settled items) ∧
                  s.keepsAllBut u [.lif, .passes, .tally, .quotes, .journal, .notices]))))))

/-- R150: a drop returns the pass to ACTIVE, takes the slot from the queue, frees it (CANCELLING if it was COMPUTING),
sets its last ending, writes QUOTE_DROPPED and raises QUOTE_ENDED; the tally and the computation in progress stay.
R152: HOLD_EXPIRY drops every QUOTED slot whose hold expiry stamp the clock has reached, in slot order, with reason
EXPIRED, and no other. R158: CANCEL is BAD_VALUE out of range, NOT_FOUND for a FREE or CANCELLING slot, BAD_VALUE for
another pass, and otherwise drops the quote with reason CANCELLED. -/
def Obligations.QuotesEndUnsettled : Prop :=
  ((∀ (s u : State) (slot : SlotId) (reason : DropReason) (i : QuoteIdentity),
    (s.slot slot).state.identity? = some i → u = s.dropQuote slot reason →
    u.findPass i.pass = (s.findPass i.pass).map (fun e => { e with status := .active }) ∧
    (∀ q, q ≠ i.pass → u.findPass q = s.findPass q) ∧ u.passes.length = s.passes.length ∧
    u.quotes = s.quotes.set slot
      { state := if (s.slot slot).state.phase = .computing then .cancelling else .free,
        lastEnding := some { pass := i.pass, reason := reason } } ∧
    u.rfc = { s.rfc with queue := s.rfc.queue.filter fun k => k ≠ slot } ∧
    u.journal = s.journal.write s.stamp (.quoteDropped i.pass slot reason) ∧
    u.notices = (if u.journal.isHigh then s.notices.raise .journalHigh else s.notices).raise (.quoteEnded slot) ∧
    s.keepsAllBut u [.passes, .rfc, .quotes, .journal, .notices]) ∧
  (∀ s : State, ends .holdExpiry s ((((s.expireHold 0).expireHold 1).expireHold 2).expireHold 3)) ∧
  (∀ (s : State) (k : SlotId),
    ((∀ i x r expiry, (s.slot k).state = .quoted i x r expiry → s.stamp < expiry) → s.expireHold k = s) ∧
    ∀ i x r expiry, (s.slot k).state = .quoted i x r expiry → expiry ≤ s.stamp →
      s.expireHold k = s.dropQuote k .expired)) ∧
  (∀ (tag slot : Byte) (pass : U32) (s : State), s.takes →
    ∃ u, asks (.cancel tag slot pass) s u ∧
      (fourOf slot = none ∨ legalPass pass.toNat = false →
        s.onlyAnswers u .cancel tag .badValue .nothing) ∧
      (∀ k, fourOf slot = some k → legalPass pass.toNat = true →
        ((s.slot k).state = .free ∨ (s.slot k).state = .cancelling →
          s.onlyAnswers u .cancel tag .notFound .nothing) ∧
        (∀ i, (s.slot k).state.identity? = some i →
          (i.pass ≠ pass.toNat → s.onlyAnswers u .cancel tag .badValue .nothing) ∧
          (i.pass = pass.toNat → (s.dropQuote k .cancelled).repliesWith u .cancel tag .ok .nothing ∧
            (s.dropQuote k .cancelled).keepsAllBut u [.lif]))))

/-- R129, R132, R152: COMPUTATION_COMPLETION with an IDLE calculator changes nothing (the model's choice, assumption log
9); a COMPUTING slot becomes QUOTED with the results of its snapshot (RefundResultsAndTheirBounds), whichever of the 120
calculator steps are still to be made (assumption log 11), and with the hold expiry at stamp plus hold time, and
QUOTE_READY is raised; a CANCELLING slot becomes FREE; an empty queue leaves the calculator IDLE; otherwise the next
QUEUED slot starts with a new snapshot and no step made. QuotesKeptByEveryStep says that the working quantities are those
of the steps made. -/
def Obligations.CompletionQuotesTheSlot : Prop :=
  ∀ s : State,
    (s.rfc.busy = none → ends .computationCompletion s s) ∧
    (∀ c, s.rfc.busy = some c → ∃ u, ends .computationCompletion s u ∧
      s.keepsAllBut u [.rfc, .quotes, .notices] ∧
      (∀ k, k ≠ c.slot → k ∉ s.rfc.queue → u.slot k = s.slot k) ∧
      (s.rfc.queue = [] → u.rfc = { busy := none, queue := [] }) ∧
      (∀ i x, (s.slot c.slot).state = .computing i x → c.slot ∉ s.rfc.queue → c.steps ≤ 120 →
        c.work = workAfter c.snapshot c.steps →
        u.slot c.slot = { s.slot c.slot with
          state := .quoted i x (computeRefund c.snapshot) (s.stamp + s.rcc.site.holdTime) } ∧
        u.notices = s.notices.raise (.quoteReady c.slot)) ∧
      ((s.slot c.slot).state = .cancelling → c.slot ∉ s.rfc.queue →
        u.slot c.slot = { s.slot c.slot with state := .free } ∧ u.notices = s.notices) ∧
      (∀ k rest i x, s.rfc.queue = k :: rest → k ≠ c.slot → (s.slot k).state = .queued i →
        s.takeSnapshot i.pass = some x →
        u.rfc = { busy := some { slot := k, snapshot := x, steps := 0, work := Working.start }, queue := rest } ∧
        u.slot k = { s.slot k with state := .computing i x } ∧
        ∀ j, j ≠ k → j ≠ c.slot → u.slot j = s.slot j))

/-! ## Reports -/

/-- R39, R160, R186: PASS_QUERY, QUOTE_QUERY and IDENTIFY answer what they name and change nothing else. The bytes of
their replies behind the status byte are section 10.9's: numbers high byte first; a PASS_QUERY reply with each absent part
as zeros behind a presence byte of 0; the 55 bytes of a quote slot, absent parts zero and an absent last ending's reason
0xFF; the identity of R186 (its rate byte is the model's choice, assumption log 5). A settlement takes the 21 bytes of
Table 10.5, and a CONFIRM refused with a drop carries slot and reason. The codes of section 10.9: a pass status by R27, a
slot state by Table 8.1, the reason of a drop by Table 8.2, a source 0xFF for LINE and the lane for DESK, the quote flags
in three bits, a search mode 0 exact, 1 at or after. -/
def Obligations.QueriesChangeNothing : Prop :=
  ((∀ slot : SlotId, ([.active, .blocked, .refundHold slot, .refunded] : List PassStatus).map PassStatus.code =
      [0, 1, 2, 3]) ∧
    ([.free, .queued, .computing, .quoted, .cancelling] : List SlotPhase).map SlotPhase.code = [0, 1, 2, 3, 4] ∧
    ([.cancelled, .expired, .stale, .deadline, .restart] : List DropReason).map DropReason.code = [0, 1, 2, 3, 4] ∧
    QuoteSource.line.code = 0xFF ∧ (∀ l : LaneId, (QuoteSource.desk l).code = l.val) ∧
    (∀ f : QuoteFlags, f.code = (if f.unitsClamped then 1 else 0) + 2 * (if f.netClamped then 1 else 0) +
      4 * (if f.belowMinimum then 1 else 0)) ∧
    (∀ i x r e, SlotState.free.phase = .free ∧ (SlotState.queued i).phase = .queued ∧
      (SlotState.computing i x).phase = .computing ∧ (SlotState.quoted i x r e).phase = .quoted ∧
      SlotState.cancelling.phase = .cancelling)) ∧
  (∀ k n, (bytesOf k n).length = k ∧ bytesOf (k + 1) n = BitVec.ofNat 8 (n / 256 ^ k) :: bytesOf k n) ∧
  (∀ n e, (ReplyData.passFound n e).bytes =
    bytesOf 2 n ++ bytesOf 4 e.pass ++ bytesOf 1 e.product ++ bytesOf 1 e.start ++ bytesOf 3 e.price ++
    bytesOf 1 e.status.code ++
    (match e.usage with
      | some v => bytesOf 1 1 ++ bytesOf 1 v.firstUse ++ bytesOf 2 v.rides
      | none => bytesOf 4 0) ++
    (match e.usage.bind (·.last) with
      | some p => bytesOf 1 1 ++ bytesOf 4 p.stamp ++ bytesOf 1 p.lane.val
      | none => bytesOf 6 0) ++
    (match e.marker with
      | some m => bytesOf 1 1 ++ bytesOf 1 m.lane.val ++ bytesOf 1 m.day
      | none => bytesOf 3 0) ++
    (match e.status with
      | .refundHold slot => bytesOf 1 1 ++ bytesOf 1 slot.val
      | _ => bytesOf 2 0) ++
    bytesOf 1 (if e.transferMark then 1 else 0) ++ bytesOf 1 e.daysUsed.length ++
    (e.daysUsed.map (bytesOf 1)).flatten) ∧
  (∀ k q, (ReplyData.slotRecord k q).bytes.length = 55 ∧
    (ReplyData.slotRecord k q).bytes = bytesOf 1 k.val ++ bytesOf 1 q.state.phase.code ++
    (match q.state.identity? with
      | some i => bytesOf 4 i.pass ++ bytesOf 1 i.source.code
      | none => bytesOf 5 0) ++
    (match q.state.snapshot? with
      | some x => bytesOf 3 x.price ++ bytesOf 1 x.days ++ bytesOf 1 x.fullDays ++ bytesOf 1 x.stormDays ++
          bytesOf 1 x.noServiceDays ++ bytesOf 1 x.start ++ bytesOf 1 x.window ++ bytesOf 2 x.fixedFee ++
          bytesOf 2 x.percentFee ++ bytesOf 2 x.minimum ++ bytesOf 1 x.rounding ++
          bytesOf 1 (if x.stormCredit then 1 else 0) ++ bytesOf 1 x.deadlineDays
      | none => bytesOf 18 0) ++
    (match q.state.results? with
      | some r => bytesOf 1 r.hTotal ++ bytesOf 1 r.hUsed ++ bytesOf 1 r.hUnused ++ bytesOf 3 r.q ++ bytesOf 1 r.r ++
          bytesOf 3 r.gross ++ bytesOf 3 r.percentFee ++ bytesOf 3 r.net ++ bytesOf 3 r.payout ++
          bytesOf 1 r.residue ++ bytesOf 1 r.flags.code
      | none => bytesOf 21 0) ++
    bytesOf 4 (q.state.expiry?.getD 0) ++
    (match q.lastEnding with
      | some e => bytesOf 4 e.pass ++ bytesOf 1 e.reason.code
      | none => bytesOf 4 0 ++ [0xFF])) ∧
  (∀ (p : Straps) (rate : Nat), rate = (if p.rate1 then 2 else 0) + (if p.rate0 then 1 else 0) →
    (ReplyData.identity p).bytes = [0x0A, 0x01, 0x9A, 0x01, BitVec.ofNat 8 rate, 0x00, 0x3F, 0x10, 0x00, 0x01, 0x00,
      0x02, 0x00, 0x00, 0x40, 0x00, 0x04, 0x00, 0x04, 0x00, 0x08, 0x00, 0x02]) ∧
  (∀ x : Settlement, (ReplyData.settled x).bytes = bytesOf 4 x.pass ++ bytesOf 1 x.slot.val ++
    bytesOf 1 (match x.source with | .line => 0xFF | .desk l => l.val) ++ bytesOf 1 x.hUsed ++ bytesOf 1 x.hTotal ++
    bytesOf 3 x.gross ++ bytesOf 2 x.fixedFee ++ bytesOf 3 x.percentFee ++ bytesOf 3 x.payout ++
    bytesOf 1 x.residue ++ bytesOf 1 ((if x.flags.unitsClamped then 1 else 0) +
      2 * (if x.flags.netClamped then 1 else 0) + 4 * (if x.flags.belowMinimum then 1 else 0))) ∧
  (∀ k r, (ReplyData.slotDropped k r).bytes = bytesOf 1 k.val ++ bytesOf 1 r.code) ∧
  (∀ (tag : Byte) (pass : U32) (mode : Byte) (s : State), s.takes →
    ∃ u, asks (.passQuery tag pass mode) s u ∧
      (1 < mode.toNat ∨ legalPass pass.toNat = false →
        s.onlyAnswers u .passQuery tag .badValue .nothing) ∧
      (mode.toNat = 0 → legalPass pass.toNat = true →
        (s.findPass pass.toNat = none →
          s.onlyAnswers u .passQuery tag .notFound (.entryCount s.passes.length)) ∧
        (∀ e, s.findPass pass.toNat = some e →
          s.onlyAnswers u .passQuery tag .ok (.passFound s.passes.length e))) ∧
      (mode.toNat = 1 → legalPass pass.toNat = true →
        ((∀ e ∈ s.passes, e.pass < pass.toNat) →
          s.onlyAnswers u .passQuery tag .notFound (.entryCount s.passes.length)) ∧
        (∀ e ∈ s.passes, PassesOrdered s.passes → pass.toNat ≤ e.pass →
          (∀ x ∈ s.passes, pass.toNat ≤ x.pass → e.pass ≤ x.pass) →
          s.onlyAnswers u .passQuery tag .ok (.passFound s.passes.length e)))) ∧
  (∀ (tag slot : Byte) (s : State), s.takes →
    ∃ u, asks (.quoteQuery tag slot) s u ∧
      (fourOf slot = none → s.onlyAnswers u .quoteQuery tag .badValue .nothing) ∧
      (∀ k, fourOf slot = some k → s.onlyAnswers u .quoteQuery tag .ok (.slotRecord k (s.slot k)))) ∧
  (∀ (tag : Byte) (s : State), s.takes → ∃ u, asks (.identify tag) s u ∧
    s.onlyAnswers u .identify tag .ok (.identity s.lif.straps))

/-- R174: STATUS reports the part as it stands: mode, clock, lift, each lane, each slot's state, whether a transfer is
open, the pending notices in raise order with their settings, the whole mask, the journal's record, settlement and gap
counts, the eviction count and the line error flags. With the option CLEAR it then clears the line error flags and the
passback eviction count, which the reply carries from before the clear. R173: NOTICE_MASK is BAD_VALUE for a kind or
setting out of range; otherwise the kind's setting takes the value (0 MASKED, 1 UNMASKED: the model's choice, assumption
log 6), the others stay, no pending notice leaves the latch at the request itself, and the reply carries the whole
mask, one setting for each kind in the order of Table 9.3. In `mask.get k`, `true` is MASKED. -/
def Obligations.StatusAndNoticeMask : Prop :=
  (∀ kinds : List NoticeKind,
    kinds = [.laneFault, .laneAlarm, .deskRead, .quoteReady, .quoteEnded, .dayRolled, .journalHigh, .clockExpired] →
    (∀ b : Byte, noticeKindOf b = kinds[b.toNat]? ∧ maskSettingOf b = [true, false][b.toNat]?) ∧
    ∀ m : NoticeMask, (ReplyData.mask m).bytes = kinds.map fun k => if m.get k then 0x00 else 0x01) ∧
  (∀ (tag option : Byte) (s : State), s.takes →
    ∃ u, asks (.status tag option) s u ∧
      (1 < option.toNat → s.onlyAnswers u .status tag .badValue .nothing) ∧
      (option.toNat = 0 → s.onlyAnswers u .status tag .ok (.report s.report)) ∧
      (option.toNat = 1 →
        u.lif = { s.lif with
          flags := LineFlags.clear
          replies := s.lif.replies ++ [replyFrame RequestKind.status.code tag .ok (.report s.report)] } ∧
        u.pbl = { s.pbl with evictions := 0 } ∧ s.keepsAllBut u [.lif, .pbl]) ∧
      s.report.mode = s.rcc.mode ∧ s.report.clock = s.rcc.clock ∧ s.report.lift = s.rcc.lift ∧
      (∀ l, s.report.lanes.get l = { role := (s.lane l).role, state := s.laneState l,
                                      latches := (s.lane l).latches }) ∧
      (∀ k, s.report.slots.get k = match (s.slot k).state with
        | .free => SlotPhase.free
        | .queued _ => .queued
        | .computing .. => .computing
        | .quoted .. => .quoted
        | .cancelling => .cancelling) ∧
      (s.report.transferOpen = true ↔ s.xfer.condition = .isOpen) ∧
      s.report.pending = s.notices.pending.map (fun x => (x.key, s.notices.mask.get x.key.kind)) ∧
      s.report.mask = s.notices.mask ∧
      s.report.records = s.journal.records.length ∧
      s.report.settlements = s.journal.records.countP (fun r => match r.body with
        | .settlement _ => true
        | _ => false) ∧
      s.report.gap = s.journal.gap ∧ s.report.evictions = s.pbl.evictions ∧ s.report.flags = s.lif.flags) ∧
  (∀ (tag kind setting : Byte) (s : State), s.takes →
    ∃ u, asks (.noticeMask tag kind setting) s u ∧
      (7 < kind.toNat ∨ 1 < setting.toNat → s.onlyAnswers u .noticeMask tag .badValue .nothing) ∧
      (∀ k masked, noticeKindOf kind = some k → maskSettingOf setting = some masked →
        u.notices.mask.get k = masked ∧ (∀ j, j ≠ k → u.notices.mask.get j = s.notices.mask.get j) ∧
        u.notices.pending = s.notices.pending ∧
        s.repliesWith u .noticeMask tag .ok (.mask u.notices.mask) ∧ s.keepsAllBut u [.lif, .notices]))

/-- R168: JOURNAL_FETCH of a number outside 1 to 8 is BAD_VALUE; otherwise the oldest records that fit leave the journal
in order, the reply carries the gap count from before, and the gap count becomes 0. Up to four records always fit. Tables
10.4 and 10.5, R163: the bytes of a record are its sequence number, kind, stamp and body, and their number is the record
length, at most 28; the reply carries its fixed items and then the records end to end. The codes of section 10.9: the
refusal causes by Table 4.4, the lapse reasons by Table 5.2, the lift status by R10, the mode by R14, its cause by
Table 9.1 (drop reasons: QueriesChangeNothing). (The rider category's code, FREE 1, FORCED 2, UNDER 3, is the model's
choice, assumption log 6.) -/
def Obligations.JournalFetchTakesTheOldest : Prop :=
  (([.unreadable, .laneFault, .laneLocked, .setupMode, .liftClosed, .noClock, .liftHold, .unknown, .noProduct, .blocked,
      .refunded, .held, .notThisLift, .outOfHours, .notYet, .expired, .daysUsedUp, .inLane, .passback] :
        List RefusalCause).map RefusalCause.code =
      [0, 1, 2, 3, 4, 5, 6, 7, 8, 9, 10, 11, 12, 13, 14, 15, 16, 17, 18] ∧
    ([.timeout, .liftClosed, .seasonEnd, .locked, .fault, .restart] : List LapseReason).map LapseReason.code =
      [0, 1, 2, 3, 4, 5] ∧
    ([.paid, .free, .forced, .under] : List RiderCategory).map RiderCategory.code = [0, 1, 2, 3] ∧
    ([.isOpen, .hold, .closed] : List LiftStatus).map LiftStatus.code = [0, 1, 2] ∧
    ([.setup, .run] : List Mode).map Mode.code = [0, 1] ∧
    ([.request, .restart] : List ModeCause).map ModeCause.code = [0, 1]) ∧
  (∀ r : JournalRecord, r.bytes.length = r.body.recordLength ∧ r.body.recordLength ≤ 28) ∧
  (∀ (q t : Nat) (b : RecordBody) (header : Nat → List Byte),
    (∀ kind, header kind = bytesOf 2 q ++ bytesOf 1 kind ++ bytesOf 4 t) →
    JournalRecord.bytes { seq := q, stamp := t, body := b } = match b with
      | .passage l pass added rides => header 0 ++ bytesOf 1 l.val ++ bytesOf 4 pass ++
          bytesOf 1 (if added then 1 else 0) ++ bytesOf 2 rides
      | .lapsed l pass reason => header 1 ++ bytesOf 1 l.val ++ bytesOf 4 pass ++ bytesOf 1 reason.code
      | .refusal l cause pass => header 2 ++ bytesOf 1 l.val ++ bytesOf 1 cause.code ++ bytesOf 4 (pass.getD 0)
      | .rider l category => header 3 ++ bytesOf 1 l.val ++ bytesOf 1 category.code
      | .test l pass decision => header 4 ++ bytesOf 1 l.val ++ bytesOf 4 pass ++ bytesOf 1 (match decision with
          | .admitted => 0xFF
          | .refusedWith cause => cause.code)
      | .fault l f => header 5 ++ bytesOf 1 l.val ++ bytesOf 1 ((if f.readerLost then 1 else 0) +
          2 * (if f.beamStuck then 1 else 0) + 4 * (if f.armStuck then 1 else 0))
      | .faultCleared l => header 6 ++ bytesOf 1 l.val
      | .settlement x => header 7 ++ (ReplyData.settled x).bytes
      | .quoteDropped pass k reason => header 8 ++ bytesOf 4 pass ++ bytesOf 1 k.val ++ bytesOf 1 reason.code
      | .dayRoll day riders newDays refunds payout => header 9 ++ bytesOf 1 day ++ bytesOf 3 riders ++
          bytesOf 3 newDays ++ bytesOf 3 refunds ++ bytesOf 4 payout
      | .lift status => header 10 ++ bytesOf 1 status.code
      | .mode m cause => header 11 ++ bytesOf 1 m.code ++ bytesOf 1 cause.code) ∧
  (∀ gap rs left settlements, (ReplyData.records gap rs left settlements).bytes =
    bytesOf 2 gap ++ bytesOf 1 rs.length ++ bytesOf 2 left ++ bytesOf 1 settlements ++
    (rs.map JournalRecord.bytes).flatten) ∧
  ∀ (tag count : Byte) (s : State), s.takes →
    ∃ u, asks (.journalFetch tag count) s u ∧
      (count.toNat < 1 ∨ 8 < count.toNat → s.onlyAnswers u .journalFetch tag .badValue .nothing) ∧
      (1 ≤ count.toNat → count.toNat ≤ 8 → ∃ k, k ≤ count.toNat ∧ k ≤ s.journal.records.length ∧
        ((s.journal.records.take k).map fun r => r.body.recordLength).sum ≤ 113 ∧
        (∀ r, k < count.toNat → s.journal.records[k]? = some r →
          113 < ((s.journal.records.take k).map fun x => x.body.recordLength).sum + r.body.recordLength) ∧
        (min count.toNat (min 4 s.journal.records.length) ≤ k) ∧
        u.journal = { s.journal with records := s.journal.records.drop k, gap := 0 } ∧
        s.repliesWith u .journalFetch tag .ok (.records s.journal.gap (s.journal.records.take k)
          (s.journal.records.length - k) u.journal.settlementCount) ∧
        s.keepsAllBut u [.lif, .journal])

/-! ## The host line -/

/-- R183: a frame of no request kind or of a length its kind does not allow (Table 10.2, written out here) is answered
BAD_FORMAT, with its KIND's top bit set, its TAG and the status byte alone, and reaches no block. R179, R180, R185: GAP_TIMEOUT without a running gap
timer does not occur (that it changes nothing then is the model's choice, assumption log 9); with one it sets its flag,
discards the partial frame, and examines the characters after its start byte again, in HUNT, one after another, each as
RECEIVE_CHARACTER does (ReceiverAssemblesFrames). FRAMING and BREAK discard the partial frame and set their flags.
SHIFTING_FRAME_DONE frees the line for the holding frame. -/
def Obligations.BadFormatAndLineConditions : Prop :=
  (∀ table : List (RequestKind × Byte × List Nat),
    table =
      [(.run, 0x01, [0]), (.setup, 0x02, [0]), (.restart, 0x03, [0]), (.siteConfig, 0x04, [9]), (.identify, 0x05, [0]),
       (.setClock, 0x10, [4]), (.liftStatus, 0x11, [1]), (.calendarMark, 0x12, [2]), (.passbackSet, 0x13, [2]),
       (.productPut, 0x18, [20]), (.productClear, 0x19, [1]), (.passPut, 0x20, [10]), (.passBlock, 0x21, [4]),
       (.passUnblock, 0x22, [4]), (.passDelete, 0x23, [4]), (.passQuery, 0x24, [5]),
       (.usageMerge, 0x25, [5, 6, 7, 8, 9, 10, 11, 12, 13, 14, 15, 16, 17, 18, 19, 20]), (.xferOpen, 0x28, [4]),
       (.xferChunk, 0x29, [10, 20, 30, 40, 50, 60, 70, 80, 90, 100, 110, 120]), (.xferAbort, 0x2A, [0]),
       (.xferStatus, 0x2B, [0]), (.laneConfig, 0x30, [4]), (.laneOutput, 0x31, [3]), (.laneClear, 0x32, [1]),
       (.laneInject, 0x33, [5]), (.quote, 0x38, [4]), (.confirm, 0x39, [5]), (.cancel, 0x3A, [5]),
       (.quoteQuery, 0x3B, [1]), (.status, 0x40, [1]), (.tally, 0x41, [1]), (.tallyClear, 0x42, [0]),
       (.journalFetch, 0x43, [1]), (.noticeMask, 0x44, [2])] →
    (∀ row ∈ table, row.1.code = row.2.1) ∧
    ∀ f : InFrame, isBadFormat f = false ↔ ∃ row ∈ table, f.kind = row.2.1 ∧ f.payload.length ∈ row.2.2) ∧
  (∀ (kind tag : Byte) (payload : List Byte) (s : State),
    isBadFormat { kind := kind, tag := tag, payload := payload } = true →
    s.takes →
    ∃ u, asks (.badFormatFrame kind tag payload) s u ∧
      u.lif = { s.lif with
        replies := s.lif.replies ++ [.reply (kind ||| 0x80) tag .badFormat .nothing] } ∧
      s.keepsAllBut u [.lif]) ∧
  (∀ s : State,
    (s.lif.receiver.gapTimer = false → ends .gapTimeout s s) ∧
    (s.lif.receiver.gapTimer = true → ∃ u, ends .gapTimeout s u ∧ u.lif.flags.gapTimeout = true ∧
      u = s.lif.receiver.chars.foldl (fun (x : State) c => x.receive c) (s.setLif { s.lif with
        receiver := { state := .hunt, chars := [], gapTimer := false }
        flags := { s.lif.flags with gapTimeout := true } }) ∧
      u.lif.replies = s.lif.replies ∧ u.lif.holding = s.lif.holding ∧ u.lif.shifting = s.lif.shifting ∧
      s.keepsAllBut u [.lif]) ∧
    ends .framing s (s.setLif { s.lif with
      receiver := { state := .hunt, chars := [], gapTimer := false }
      flags := { s.lif.flags with framing := true } }) ∧
    ends .lineBreak s (s.setLif { s.lif with
      receiver := { state := .hunt, chars := [], gapTimer := false }
      flags := { s.lif.flags with framing := true, breakSeen := true } }) ∧
    ends .shiftingFrameDone s (s.setLif { s.lif with shifting := none }))

/-- R177, R178, R179, R182: RECEIVE_CHARACTER completes in every state, and what it leaves of the receiver and the
buffers is `s.receive c`. In HUNT only the start byte begins a partial frame; LEN to CHECK high are held, and each starts
the gap timer afresh; LEN above 120 discards the frame, no flag is set, and the character is examined again. At CHECK low a
good frame joins the inbound buffers, or is discarded with OVERRUN where both are full; a failed check sets CHECK_ERROR,
and the characters after the start byte are examined again, in HUNT, one after another, before any later one. A receiver
in HUNT that examines the characters of a frame with a good check and at most 120 payload bytes hands that frame to the
inbound buffers and is in HUNT again. -/
def Obligations.ReceiverAssemblesFrames : Prop :=
  (∀ (c : Byte) (s : State), ends (.receiveCharacter c) s (s.receive c) ∧ s.keepsAllBut (s.receive c) [.lif] ∧
    (s.receive c).lif.replies = s.lif.replies ∧ (s.receive c).lif.holding = s.lif.holding ∧
    (s.receive c).lif.shifting = s.lif.shifting) ∧
  (∀ (c : Byte) (s hunting : State) (chars : List Byte),
    hunting = s.setLif { s.lif with receiver := { state := .hunt, chars := [], gapTimer := false } } →
    chars = s.lif.receiver.chars ++ [c] →
    (s.lif.receiver.state = .hunt → c ≠ 0xD5 → s.receive c = s) ∧
    (s.lif.receiver.state = .hunt → c = 0xD5 →
      s.receive c = s.setLif { s.lif with receiver := { state := .length, chars := [], gapTimer := true } }) ∧
    (s.lif.receiver.state = .length → c.toNat ≤ 120 →
      s.receive c = s.setLif { s.lif with receiver := { state := .kind, chars := chars, gapTimer := true } }) ∧
    (s.lif.receiver.state = .length → 120 < c.toNat →
      s.receive c = chars.foldl (fun (x : State) b => x.receive b) hunting) ∧
    (s.lif.receiver.state = .kind →
      s.receive c = s.setLif { s.lif with receiver := { state := .tag, chars := chars, gapTimer := true } }) ∧
    (∀ len, s.lif.receiver.chars.head? = some len →
      (s.lif.receiver.state = .tag →
        s.receive c = s.setLif { s.lif with receiver :=
          { state := if len.toNat = 0 then .checkHigh else .payload, chars := chars, gapTimer := true } }) ∧
      (s.lif.receiver.state = .payload →
        s.receive c = s.setLif { s.lif with receiver :=
          { state := if chars.length < 3 + len.toNat then .payload else .checkHigh, chars := chars
            gapTimer := true } })) ∧
    (s.lif.receiver.state = .checkHigh →
      s.receive c = s.setLif { s.lif with receiver := { state := .checkLow, chars := chars, gapTimer := true } }) ∧
    (∀ len kind tag payload check, s.lif.receiver.state = .checkLow →
      chars = len :: kind :: tag :: payload ++ check → check.length = 2 →
      (check = bytes16 (checkWord (len :: kind :: tag :: payload)) →
        s.receive c =
          (if s.lif.inbound.length < 2 then
            hunting.setLif { hunting.lif with
              inbound := s.lif.inbound ++ [{ kind := kind, tag := tag, payload := payload }] }
           else hunting.setLif { hunting.lif with flags := { s.lif.flags with overrun := true } })) ∧
      (check ≠ bytes16 (checkWord (len :: kind :: tag :: payload)) →
        s.receive c = chars.foldl (fun (x : State) b => x.receive b)
          (hunting.setLif { hunting.lif with flags := { s.lif.flags with checkError := true } })))) ∧
  (∀ (f : InFrame) (s : State), f.payload.length ≤ 120 →
    s.lif.receiver = { state := .hunt, chars := [], gapTimer := false } →
    (Sys2Proof.Machine.InFrame.wire f).foldl (fun (x : State) c => x.receive c) s =
      (if s.lif.inbound.length < 2 then s.setLif { s.lif with inbound := s.lif.inbound ++ [f] }
       else s.setLif { s.lif with flags := { s.lif.flags with overrun := true } }))

/-- Every well-formed request, written as its frame (Tables 10.2 and 10.3, section 10.9), is read back by the request
handler with every field as it was. TALLY's one payload byte is a free value (assumption log 3): selectors that R124
allows are read back, and selectors that it refuses are read back as a TALLY with selectors that it refuses. -/
def Obligations.RequestFramesDecodeBack : Prop :=
  (∀ (i : Instr) (f : InFrame), WellFormed i → encodeRequest i = some f → (∀ t a b, i ≠ .tally t a b) →
    decodeFrame f = i) ∧
  (∀ (tag set part : Byte) (f : InFrame), encodeRequest (.tally tag set part) = some f →
    (set.toNat ≤ 1 → part.toNat ≤ 4 → decodeFrame f = .tally tag set part) ∧
    (1 < set.toNat ∨ 4 < part.toNat →
      ∃ a b : Byte, decodeFrame f = .tally tag a b ∧ (1 < a.toNat ∨ 4 < b.toNat)))

/-! ## What every step keeps -/

/-- Every property below holds right after reset. -/
def Obligations.KeptPropertiesHoldAtReset : Prop :=
  State.reset.ClockKept ∧ State.reset.OffsetsKept ∧ State.reset.JournalKept ∧ State.reset.NoticesKept ∧
  State.reset.LineKept ∧ State.reset.HandlerKept ∧ State.reset.CountingKept ∧ State.reset.AdmissionsKept ∧
  State.reset.QuotesKept ∧ State.reset.WorkKept ∧
  State.reset.RidersBalanced ∧ State.reset.AdmittedBalanced

/-- R1, R14, Table 1.2: every step keeps the clock, the mode and the site configuration in their ranges. -/
def Obligations.ClockKeptByEveryStep : Prop := KeptByStep State.ClockKept

/-- R22, R25, R26, R29: every step keeps the Pass Table ordered and bounded, its fields in their ranges, and every
days-used set an ascending set of offsets within its product's window. -/
def Obligations.PassTableKeptByEveryStep : Prop := KeptByStep State.OffsetsKept

/-- R162, R170: every step keeps the journal at no more than 512 records, of which at most 64 are SETTLEMENT records,
and at most one pending notice for each kind and subject. -/
def Obligations.JournalAndNoticesKeptByEveryStep : Prop :=
  (KeptByStep State.JournalKept) ∧
  (KeptByStep State.NoticesKept)

/-- R178, R182, R184, R185: every step keeps the reply places, the inbound buffers, the gap timer and the
transmitter, and leaves a frame in the buffers only while the reply queue cannot hold its reply. Two clauses are the
model's choice: that the handler has taken what it can at the end of every event (assumption log 2), and that an empty
shifting frame leaves no frame in the holding frame (assumption log 4). R113, R115, R116: every step keeps the matching
lists and the detectors. -/
def Obligations.LineAndCountingKeptByEveryStep : Prop :=
  (KeptByStep State.LineKept) ∧
  (KeptByStep State.HandlerKept) ∧
  (KeptByStep State.CountingKept)

/-- R30, R106: every step keeps PENDING passback entries, admission markers and UNLOCKED lanes in correspondence. -/
def Obligations.AdmissionsKeptByEveryStep : Prop := KeptByStep State.AdmissionsKept

/-- R128, R129, R147: every step keeps the quote slots, the held passes and the calculator in correspondence. R128,
R132: every step keeps a BUSY calculator at no more than 120 calculator steps, with the working quantities those steps
give of its snapshot. Which step of stages 1 and 3 forms which quantity, the zeros before a quantity is formed, and the
making of a step on an empty queue of commands are the model's choice (assumption log 11). -/
def Obligations.QuotesKeptByEveryStep : Prop :=
  (KeptByStep State.QuotesKept) ∧
  (KeptByStep State.WorkKept)

/-- R121: every step keeps riders equal to the lanes' counts and to the hour bins while no counter is at its
ceiling. R112: every step keeps, at every lane, admitted equal to paid, lapsed and pending while no counter is at its
ceiling. -/
def Obligations.TallyBalancesKeptByEveryStep : Prop :=
  (KeptByStep State.RidersBalanced) ∧
  (KeptByStep fun s => s.AdmissionsKept ∧ s.AdmittedBalanced)

/-! ## The Journal and the Notice Latch -/

/-- R163: a record takes the sequence counter's number, which wraps from 65,535 to 0, and the stamp. R165: below 512
records it joins the young end; at 512 the oldest ROUTINE record leaves first, wherever it stands, and the gap count goes
up by one, saturating at 65,535. R167: a write after which there are 384 records or 48 settlements raises JOURNAL_HIGH.
R170: a raise whose key is not pending joins the young end; one whose key is pending keeps its place, and a DESK_READ
takes the new summary there. R171, Table 9.4: the content of a notice of each kind, and its bytes with the widths of
section 10.9 (that an absent product code in a desk summary is 0, and that the absent source, results and stamp in a
QUOTE_READY of a slot that is not QUOTED are zero bytes, is the model's choice, assumption log 5); the status codes stand
in TransmitterOrder, the other codes in QueriesChangeNothing. -/
def Obligations.JournalWritesAndNoticeRaises : Prop :=
  (∀ (j : Journal) (stamp : Nat) (body : RecordBody) (r : JournalRecord),
    r = { seq := j.nextSeq, stamp := stamp, body := body } →
    (j.records.length < 512 →
      j.write stamp body =
        { records := j.records ++ [r], nextSeq := (j.nextSeq + 1) % 65536, gap := j.gap }) ∧
    (∀ older oldest younger, 512 ≤ j.records.length → j.records = older ++ oldest :: younger →
      (∀ x ∈ older, x.isSettlement = true) → oldest.isSettlement = false →
      j.write stamp body =
        { records := older ++ younger ++ [r], nextSeq := (j.nextSeq + 1) % 65536, gap := min 65535 (j.gap + 1) })) ∧
  (∀ r : JournalRecord, r.isSettlement = true ↔ ∃ items, r.body = .settlement items) ∧
  (∀ j : Journal, j.settlementCount = (j.records.filter fun r => r.isSettlement).length ∧
    (j.isHigh = true ↔ 384 ≤ j.records.length ∨ 48 ≤ j.settlementCount)) ∧
  (∀ (s : State) (body : RecordBody), s.recorded (s.writeRecord body) body ∧
    s.keepsAllBut (s.writeRecord body) [.journal, .notices]) ∧
  (∀ (n : NoticeLatch) (x : PendingNotice),
    ((∀ y ∈ n.pending, y.key ≠ x.key) → n.raise x = { n with pending := n.pending ++ [x] }) ∧
    (∀ older y younger, n.pending = older ++ y :: younger → y.key = x.key →
      (∀ z ∈ older ++ younger, z.key ≠ x.key) → n.raise x = { n with pending := older ++ x :: younger }) ∧
    ((∃ y ∈ n.pending, y.key = x.key) → (∀ l d, x ≠ .deskRead l d) → n.raise x = n)) ∧
  (∀ (s : State) (l : LaneId) (k : SlotId) (d : DeskSummary),
    s.noticeContent (.laneFault l) = .latchedSet (s.lane l).latches ∧
    s.noticeContent (.laneAlarm l) = .alarm l (s.lane l).forcedStamp ∧
    s.noticeContent (.deskRead l d) = .desk d ∧
    s.noticeContent (.quoteReady k) = .quote (s.slot k).state ∧
    s.noticeContent (.quoteEnded k) = .ended (s.slot k).lastEnding ∧
    s.noticeContent .dayRolled = .rolled s.rcc.clock.day s.tally.previous.day s.tally.previous.riders
      s.tally.previous.newDays s.tally.previous.refundsSettled s.tally.previous.payoutTotal ∧
    s.noticeContent .journalHigh =
      .journal s.journal.records.length s.journal.settlementCount s.journal.gap ∧
    s.noticeContent .clockExpired = .clock s.rcc.clock) ∧
  (∀ f : LatchSet, (NoticeContent.latchedSet f).bytes = bytesOf 1 ((if f.readerLost then 1 else 0) +
    2 * (if f.beamStuck then 1 else 0) + 4 * (if f.armStuck then 1 else 0))) ∧
  (∀ (l : LaneId) (stamp : Nat), (NoticeContent.alarm l stamp).bytes = bytesOf 1 l.val ++ bytesOf 4 stamp) ∧
  (∀ d : DeskSummary, (NoticeContent.desk d).bytes =
    bytesOf 4 d.lookup.pass ++ bytesOf 1 (match d.lookup.status with | some st => st.code | none => 4) ++
    bytesOf 1 (d.lookup.product.getD 0) ++ bytesOf 1 (d.lookup.days.getD 0) ++ bytesOf 1 d.lookup.counts.fullDays ++
    bytesOf 1 d.lookup.counts.stormDays ++ bytesOf 1 d.lookup.counts.noServiceDays ++
    (match d.quote with
      | .opened k => [BitVec.ofNat 8 k.val, 0x00]
      | .refusedWith code => [0xFF, BitVec.ofNat 8 code.code]
      | .autoQuoteOff => [0xFF, 0xFE])) ∧
  (∀ st : SlotState, (NoticeContent.quote st).bytes = bytesOf 1 st.phase.code ++ (match st with
    | .quoted i _ r e => bytesOf 4 i.pass ++ bytesOf 1 i.source.code ++ bytesOf 3 r.payout ++ bytesOf 3 r.gross ++
        bytesOf 2 r.fixedFee ++ bytesOf 3 r.percentFee ++ bytesOf 1 r.flags.code ++ bytesOf 4 e
    | _ => bytesOf 21 0)) ∧
  (∀ e : QuoteEnding, (NoticeContent.ended (some e)).bytes = bytesOf 4 e.pass ++ bytesOf 1 e.reason.code) ∧
  (∀ day finished riders newDays refunds payout : Nat,
    (NoticeContent.rolled day (some finished) riders newDays refunds payout).bytes =
      bytesOf 1 day ++ bytesOf 1 finished ++ bytesOf 3 riders ++ bytesOf 3 newDays ++ bytesOf 3 refunds ++
      bytesOf 4 payout) ∧
  (∀ n settlements gap : Nat, (NoticeContent.journal n settlements gap).bytes =
    bytesOf 2 n ++ bytesOf 1 settlements ++ bytesOf 2 gap) ∧
  (∀ c : Clock, (NoticeContent.clock c).bytes =
    bytesOf 1 (match c.state with | .unset => 0 | .running => 1 | .expired => 2) ++ bytesOf 1 c.day ++
    bytesOf 3 c.second)
end

