-- ==== Sys2Proof/Laws/Calculator.lean ====
section
/-!
SUPPORT. The 120 calculator steps make the computation: what the working quantities are after each stage of Table 7.2,
and the results they give.
-/

namespace Sys2Proof.Machine

/-- R134: a divider that holds the quotient of the first `j` bits holds that of one bit more after its next step. -/
theorem Working.divide_next (w : Working) {bits j n d : Nat} (hj : j < bits)
    (h : j ≠ 0 → (w.quotient, w.remainder) = longDivide j (n / 2 ^ (bits - j)) d) :
    w.divide bits j n d = { w with
      quotient := (longDivide (j + 1) (n / 2 ^ (bits - (j + 1))) d).1
      remainder := (longDivide (j + 1) (n / 2 ^ (bits - (j + 1))) d).2 } := by
  have hp : (if j = 0 then (0, 0) else (w.quotient, w.remainder)) = longDivide j (n / 2 ^ (bits - j)) d := by
    by_cases h0 : j = 0
    · simp [h0, longDivide]
    · simp only [h0, if_false]; exact h h0
  have hd : n / 2 ^ (bits - (j + 1)) / 2 = n / 2 ^ (bits - j) := by
    rw [Nat.div_div_eq_div_mul, ← Nat.pow_succ]
    congr 2; omega
  have hb : bits - 1 - j = bits - (j + 1) := by omega
  simp only [Working.divide, hp, longDivide, hd, bitOf, hb]

/-- R135: the same of the multiplier. -/
theorem Working.multiply_next (w : Working) {bits j a b : Nat} (hj : j < bits)
    (h : j ≠ 0 → w.product = shiftAddMultiply j a (b / 2 ^ (bits - j))) :
    w.multiply bits j a b = { w with product := shiftAddMultiply (j + 1) a (b / 2 ^ (bits - (j + 1))) } := by
  have hp : (if j = 0 then 0 else w.product) = shiftAddMultiply j a (b / 2 ^ (bits - j)) := by
    by_cases h0 : j = 0
    · simp [h0, shiftAddMultiply]
    · simp only [h0, if_false]; exact h h0
  have hd : b / 2 ^ (bits - (j + 1)) / 2 = b / 2 ^ (bits - j) := by
    rw [Nat.div_div_eq_div_mul, ← Nat.pow_succ]
    congr 2; omega
  have hb : bits - 1 - j = bits - (j + 1) := by omega
  simp only [Working.multiply, hp, shiftAddMultiply, hd, bitOf, hb]

/-- R136: the working quantities after stage 1. -/
theorem workAfter_units (x : Snapshot) : workAfter x 4 = { Working.start with
    hTotal := (unitWeighting x).total, hUsed := (unitWeighting x).used, hUnused := (unitWeighting x).unused
    unitsClamped := (unitWeighting x).clamped } := by
  simp only [workAfter, Working.step, Working.unitStep, Working.start, unitWeighting]
  by_cases h1 : 2 * x.fullDays + stormWeight x < 2 * x.days
  · simp [h1, Nat.not_lt.mpr (Nat.le_of_lt h1)]
  · by_cases h2 : 2 * x.fullDays + stormWeight x = 2 * x.days
    · simp [h2]
    · have h3 : 2 * x.days < 2 * x.fullDays + stormWeight x := by omega
      simp [h1, h2, h3]

/-- A run of steps that are the divider's leaves its quotient and remainder, and nothing else. -/
theorem workAfter_divide {x : Snapshot} {base bits count n d : Nat} {w : Working} (hw : workAfter x base = w)
    (hcount : count ≤ bits)
    (hstep : ∀ j, j < count → ∀ q r, Working.step x (base + j) { w with quotient := q, remainder := r } =
      Working.divide { w with quotient := q, remainder := r } bits j n d) (k : Nat) (hk : k < count) :
    workAfter x (base + (k + 1)) = { w with
      quotient := (longDivide (k + 1) (n / 2 ^ (bits - (k + 1))) d).1
      remainder := (longDivide (k + 1) (n / 2 ^ (bits - (k + 1))) d).2 } := by
  induction k with
  | zero =>
    rw [← Nat.add_assoc, Nat.add_zero, workAfter, hw]
    have h := hstep 0 hk w.quotient w.remainder
    rw [Nat.add_zero] at h
    rw [h, Working.divide_next _ (by omega) (fun h0 => absurd rfl h0)]
  | succ k ih =>
    rw [← Nat.add_assoc, workAfter, ih (by omega), hstep (k + 1) hk]
    rw [Working.divide_next _ (by omega) (fun _ => rfl)]

/-- The same of the multiplier. -/
theorem workAfter_multiply {x : Snapshot} {base bits count a b : Nat} {w : Working} (hw : workAfter x base = w)
    (hcount : count ≤ bits)
    (hstep : ∀ j, j < count → ∀ p, Working.step x (base + j) { w with product := p } =
      Working.multiply { w with product := p } bits j a b) (k : Nat) (hk : k < count) :
    workAfter x (base + (k + 1)) =
      { w with product := shiftAddMultiply (k + 1) a (b / 2 ^ (bits - (k + 1))) } := by
  induction k with
  | zero =>
    rw [← Nat.add_assoc, Nat.add_zero, workAfter, hw]
    have h := hstep 0 hk w.product
    rw [Nat.add_zero] at h
    rw [h, Working.multiply_next _ (by omega) (fun h0 => absurd rfl h0)]
  | succ k ih =>
    rw [← Nat.add_assoc, workAfter, ih (by omega), hstep (k + 1) hk]
    rw [Working.multiply_next _ (by omega) (fun _ => rfl)]

/-- Which stage a step belongs to (Table 7.2). -/
theorem Working.step_value (x : Snapshot) {j : Nat} (w : Working) (h : j < 24) :
    Working.step x (4 + j) w = w.valueStep x j := by
  simp only [Working.step, show ¬ 4 + j < 4 by omega, show 4 + j < 28 by omega, if_true, if_false,
    show 4 + j - 4 = j by omega]

theorem Working.step_gross (x : Snapshot) {j : Nat} (w : Working) (h : j < 8) :
    Working.step x (28 + j) w = w.grossStep j := by
  simp only [Working.step, show ¬ 28 + j < 4 by omega, show ¬ 28 + j < 28 by omega, show 28 + j < 36 by omega,
    if_true, if_false, show 28 + j - 28 = j by omega]

theorem Working.step_fee (x : Snapshot) {j : Nat} (w : Working) (h : j < 54) :
    Working.step x (36 + j) w = w.feeStep x j := by
  simp only [Working.step, show ¬ 36 + j < 4 by omega, show ¬ 36 + j < 28 by omega, show ¬ 36 + j < 36 by omega,
    show 36 + j < 90 by omega, if_true, if_false, show 36 + j - 36 = j by omega]

theorem Working.step_cash (x : Snapshot) {j : Nat} (w : Working) :
    Working.step x (95 + j) w = w.cashStep x j := by
  simp only [Working.step, show ¬ 95 + j < 4 by omega, show ¬ 95 + j < 28 by omega, show ¬ 95 + j < 36 by omega,
    show ¬ 95 + j < 90 by omega, show ¬ 95 + j < 94 by omega, show ¬ 95 + j < 95 by omega, if_false,
    show 95 + j - 95 = j by omega]

/-- R137: the working quantities after stage 2. -/
theorem workAfter_value (x : Snapshot) {v : Nat × Nat} (hv : v = longDivide 24 x.price (unitWeighting x).total) :
    workAfter x 28 = { workAfter x 4 with quotient := v.1, remainder := v.2, q := v.1, r := v.2 } := by
  have h := workAfter_divide (x := x) (base := 4) (bits := 24) (count := 23) (n := x.price)
    (d := (unitWeighting x).total) rfl (by omega)
    (fun j hj q r => by
      rw [Working.step_value x _ (by omega), workAfter_units]
      simp [Working.valueStep, show j ≠ 23 by omega]) 22 (by omega)
  rw [show (28 : Nat) = 4 + 23 + 1 from rfl, workAfter, h, Working.step_value x _ (by omega), Working.valueStep,
    Working.divide_next _ (by omega) (fun _ => by simp [workAfter_units]), hv]
  simp [workAfter_units]

/-- R138: the working quantities after stage 3. -/
theorem workAfter_gross (x : Snapshot) {v : Nat × Nat} (hv : v = longDivide 24 x.price (unitWeighting x).total) :
    workAfter x 36 = { workAfter x 28 with
      product := shiftAddMultiply 5 v.1 (unitWeighting x).unused
      gross := grossRefund (unitWeighting x) v.1 v.2 } := by
  have h := workAfter_multiply (x := x) (base := 28) (bits := 5) (count := 5) (a := v.1)
    (b := (unitWeighting x).unused) rfl (by omega)
    (fun j hj p => by
      rw [Working.step_gross x _ (by omega), workAfter_value x hv, workAfter_units]
      simp [Working.grossStep, hj]) 4 (by omega)
  rw [show (36 : Nat) = 28 + (4 + 1) + 1 + 1 + 1 from rfl, workAfter, workAfter, workAfter, h]
  rw [show 28 + (4 + 1) = 28 + 5 from rfl, show 28 + 5 + 1 = 28 + 6 from rfl, show 28 + 6 + 1 = 28 + 7 from rfl,
    Working.step_gross x _ (by omega), Working.step_gross x _ (by omega), Working.step_gross x _ (by omega),
    workAfter_value x hv, workAfter_units]
  by_cases h0 : (unitWeighting x).unused = 0 <;> simp [Working.grossStep, grossRefund, h0]

/-- R139: the working quantities after stage 4. -/
theorem workAfter_fee (x : Snapshot) {gross fee : Nat} (hg : (workAfter x 36).gross = gross)
    (hf : fee = percentFee gross x.percentFee) :
    workAfter x 90 = { workAfter x 36 with
      product := shiftAddMultiply 14 gross x.percentFee
      quotient := (longDivide 40 (shiftAddMultiply 14 gross x.percentFee) 10000).1
      remainder := (longDivide 40 (shiftAddMultiply 14 gross x.percentFee) 10000).2
      percentFee := fee } := by
  have hm := workAfter_multiply (x := x) (base := 36) (bits := 14) (count := 14) (a := gross)
    (b := x.percentFee) rfl (by omega)
    (fun j hj p => by
      rw [Working.step_fee x _ (by omega)]
      simp [Working.feeStep, hj, hg]) 13 (by omega)
  simp only [Nat.sub_self, Nat.pow_zero, Nat.div_one] at hm
  have hd := workAfter_divide (x := x) (base := 50) (bits := 40) (count := 39)
    (n := shiftAddMultiply 14 gross x.percentFee) (d := 10000) hm (by omega)
    (fun j hj q r => by
      rw [show 50 + j = 36 + (14 + j) by omega, Working.step_fee x _ (by omega)]
      simp [Working.feeStep, show ¬ 14 + j < 14 by omega, show ¬ 14 + j = 53 by omega]) 38 (by omega)
  rw [show (90 : Nat) = 50 + (38 + 1) + 1 from rfl, workAfter, hd, show 50 + (38 + 1) = 36 + 53 from rfl,
    Working.step_fee x _ (by omega)]
  simp only [Working.feeStep, show ¬ 53 < 14 by omega, if_false, if_true]
  rw [Working.divide_next _ (by omega) (fun _ => rfl), hf]
  simp [percentFee]

/-- R140, R141: the working quantities after stages 5 and 6. -/
theorem workAfter_minimum (x : Snapshot) {gross fee : Nat} (hg : (workAfter x 90).gross = gross)
    (hf : (workAfter x 90).percentFee = fee) :
    workAfter x 95 = { workAfter x 90 with
      acc := ((Accumulator.load gross).subtract x.fixedFee).subtract fee
      net := (minimumPayout (netRefund gross x.fixedFee fee).1 x.minimum).1
      netClamped := (netRefund gross x.fixedFee fee).2
      belowMinimum := (minimumPayout (netRefund gross x.fixedFee fee).1 x.minimum).2 } := by
  rw [show (95 : Nat) = 90 + 1 + 1 + 1 + 1 + 1 from rfl, workAfter, workAfter, workAfter, workAfter, workAfter]
  simp [Working.step, Working.netStep, Working.minimumStep, netRefund, Accumulator.subtract, hg, hf]

/-- R142: the working quantities after stage 7, the last. -/
theorem workAfter_cash (x : Snapshot) {net : Nat} (hn : (workAfter x 95).net = net) :
    workAfter x 120 = { workAfter x 95 with
      quotient := (longDivide 24 net x.rounding).1
      remainder := (longDivide 24 net x.rounding).2
      payout := (cashRounding net x.rounding).1
      residue := (cashRounding net x.rounding).2 } := by
  have hd := workAfter_divide (x := x) (base := 95) (bits := 24) (count := 24) (n := net) (d := x.rounding) rfl
    (by omega)
    (fun j hj q r => by
      rw [Working.step_cash x]
      simp [Working.cashStep, hj, hn]) 23 (by omega)
  rw [show (120 : Nat) = 95 + (23 + 1) + 1 from rfl, workAfter, hd, show 95 + (23 + 1) = 95 + 24 from rfl,
    Working.step_cash x]
  simp [Working.cashStep, cashRounding]

/-- R132, R143: the 120 calculator steps give the results of the whole computation. -/
theorem workAfter_results (x : Snapshot) : (workAfter x 120).results x = computeRefund x := by
  obtain ⟨v, hv⟩ : ∃ v, v = longDivide 24 x.price (unitWeighting x).total := ⟨_, rfl⟩
  have h3 := workAfter_gross x hv
  have h4 := workAfter_fee x (congrArg Working.gross h3) rfl
  have h5 := workAfter_minimum x (by rw [h4, h3]) (congrArg Working.percentFee h4)
  have h7 := workAfter_cash x (congrArg Working.net h5)
  rw [h7, h5, h4, h3, workAfter_value x hv, workAfter_units]
  simp only [Working.results, computeRefund, hv]

/-- R132: a computation whose working quantities are those of its steps hands over the results of its snapshot,
whichever step it has reached. -/
theorem Computation.results_eq (c : Computation) (hs : c.steps ≤ 120) (hw : c.work = workAfter c.snapshot c.steps) :
    c.results = computeRefund c.snapshot := by
  have h : ∀ n (c : Computation), c.steps + n = 120 → c.work = workAfter c.snapshot c.steps →
      (c.run n).work.results c.snapshot = computeRefund c.snapshot := by
    intro n
    induction n with
    | zero =>
      intro c hn hw
      rw [Computation.run, hw, show c.steps = 120 from hn, workAfter_results]
    | succ n ih =>
      intro c hn hw
      have hlt : c.steps < Config.calculatorSteps := by
        show c.steps < 120
        omega
      have ha : c.advance = { c with steps := c.steps + 1, work := workAfter c.snapshot (c.steps + 1) } := by
        simp only [Computation.advance, hlt, if_true, hw, workAfter]
      rw [Computation.run, ha]
      exact ih { c with steps := c.steps + 1, work := workAfter c.snapshot (c.steps + 1) }
        (by simp only; omega) rfl
  exact h _ c (by show c.steps + (120 - c.steps) = 120; omega) hw

end Sys2Proof.Machine
end

