-- ==== Sys2Proof/Laws/State.lean ====
section
/-!
SUPPORT. One lemma per field per setter, and the lane, slot and quad look-ups after an update, so that no proof
unfolds a record update.
-/

namespace Sys2Proof

namespace Quad

/-- A member just set reads back. -/
@[simp] theorem get_set_self {α : Type} (q : Quad α) (i : Fin 4) (x : α) : (q.set i x).get i = x := by
  match i with
  | 0 => rfl
  | 1 => rfl
  | 2 => rfl
  | 3 => rfl

/-- The other members are unchanged. -/
@[simp] theorem get_set_ne {α : Type} (q : Quad α) (i j : Fin 4) (x : α) (h : j ≠ i) :
    (q.set i x).get j = q.get j := by
  match i, j with
  | 0, 0 => exact absurd rfl h
  | 0, 1 => rfl
  | 0, 2 => rfl
  | 0, 3 => rfl
  | 1, 0 => rfl
  | 1, 1 => exact absurd rfl h
  | 1, 2 => rfl
  | 1, 3 => rfl
  | 2, 0 => rfl
  | 2, 1 => rfl
  | 2, 2 => exact absurd rfl h
  | 2, 3 => rfl
  | 3, 0 => rfl
  | 3, 1 => rfl
  | 3, 2 => rfl
  | 3, 3 => exact absurd rfl h

/-- Every member after a set. -/
theorem get_set {α : Type} (q : Quad α) (i j : Fin 4) (x : α) :
    (q.set i x).get j = if j = i then x else q.get j := by
  by_cases h : j = i
  · subst h; simp
  · simp [h]

/-- Two groups with the same members are the same. -/
theorem ext_get {α : Type} {p q : Quad α} (h : ∀ i, p.get i = q.get i) : p = q := by
  obtain ⟨a, b, c, d⟩ := p
  obtain ⟨a', b', c', d'⟩ := q
  have h0 : a = a' := h 0
  have h1 : b = b' := h 1
  have h2 : c = c' := h 2
  have h3 : d = d' := h 3
  subst h0; subst h1; subst h2; subst h3; rfl

/-- A member of a mapped group. -/
@[simp] theorem get_map {α β : Type} (f : α → β) (q : Quad α) (i : Fin 4) : (q.map f).get i = f (q.get i) := by
  match i with
  | 0 => rfl
  | 1 => rfl
  | 2 => rfl
  | 3 => rfl

/-- A member of a tabulated group. -/
@[simp] theorem get_tabulate {α : Type} (f : Fin 4 → α) (i : Fin 4) : (tabulate f).get i = f i := by
  match i with
  | 0 => rfl
  | 1 => rfl
  | 2 => rfl
  | 3 => rfl

/-- Setting a member to the value it has changes nothing. -/
@[simp] theorem set_get {α : Type} (q : Quad α) (i : Fin 4) : q.set i (q.get i) = q := by
  match i with
  | 0 => rfl
  | 1 => rfl
  | 2 => rfl
  | 3 => rfl

end Quad

namespace Machine

@[simp] theorem State.setLif_lif (s : State) (x : LineInterface) : (s.setLif x).lif = x := rfl
@[simp] theorem State.setLif_rcc (s : State) (x : LineInterface) : (s.setLif x).rcc = s.rcc := rfl
@[simp] theorem State.setLif_tariff (s : State) (x : LineInterface) : (s.setLif x).tariff = s.tariff := rfl
@[simp] theorem State.setLif_passes (s : State) (x : LineInterface) : (s.setLif x).passes = s.passes := rfl
@[simp] theorem State.setLif_xfer (s : State) (x : LineInterface) : (s.setLif x).xfer = s.xfer := rfl
@[simp] theorem State.setLif_lanes (s : State) (x : LineInterface) : (s.setLif x).lanes = s.lanes := rfl
@[simp] theorem State.setLif_ae (s : State) (x : LineInterface) : (s.setLif x).ae = s.ae := rfl
@[simp] theorem State.setLif_pbl (s : State) (x : LineInterface) : (s.setLif x).pbl = s.pbl := rfl
@[simp] theorem State.setLif_tally (s : State) (x : LineInterface) : (s.setLif x).tally = s.tally := rfl
@[simp] theorem State.setLif_rfc (s : State) (x : LineInterface) : (s.setLif x).rfc = s.rfc := rfl
@[simp] theorem State.setLif_quotes (s : State) (x : LineInterface) : (s.setLif x).quotes = s.quotes := rfl
@[simp] theorem State.setLif_journal (s : State) (x : LineInterface) : (s.setLif x).journal = s.journal := rfl
@[simp] theorem State.setLif_notices (s : State) (x : LineInterface) : (s.setLif x).notices = s.notices := rfl
@[simp] theorem State.setLif_pending (s : State) (x : LineInterface) : (s.setLif x).pending = s.pending := rfl

@[simp] theorem State.setRcc_lif (s : State) (x : ClockBlock) : (s.setRcc x).lif = s.lif := rfl
@[simp] theorem State.setRcc_rcc (s : State) (x : ClockBlock) : (s.setRcc x).rcc = x := rfl
@[simp] theorem State.setRcc_tariff (s : State) (x : ClockBlock) : (s.setRcc x).tariff = s.tariff := rfl
@[simp] theorem State.setRcc_passes (s : State) (x : ClockBlock) : (s.setRcc x).passes = s.passes := rfl
@[simp] theorem State.setRcc_xfer (s : State) (x : ClockBlock) : (s.setRcc x).xfer = s.xfer := rfl
@[simp] theorem State.setRcc_lanes (s : State) (x : ClockBlock) : (s.setRcc x).lanes = s.lanes := rfl
@[simp] theorem State.setRcc_ae (s : State) (x : ClockBlock) : (s.setRcc x).ae = s.ae := rfl
@[simp] theorem State.setRcc_pbl (s : State) (x : ClockBlock) : (s.setRcc x).pbl = s.pbl := rfl
@[simp] theorem State.setRcc_tally (s : State) (x : ClockBlock) : (s.setRcc x).tally = s.tally := rfl
@[simp] theorem State.setRcc_rfc (s : State) (x : ClockBlock) : (s.setRcc x).rfc = s.rfc := rfl
@[simp] theorem State.setRcc_quotes (s : State) (x : ClockBlock) : (s.setRcc x).quotes = s.quotes := rfl
@[simp] theorem State.setRcc_journal (s : State) (x : ClockBlock) : (s.setRcc x).journal = s.journal := rfl
@[simp] theorem State.setRcc_notices (s : State) (x : ClockBlock) : (s.setRcc x).notices = s.notices := rfl
@[simp] theorem State.setRcc_pending (s : State) (x : ClockBlock) : (s.setRcc x).pending = s.pending := rfl

@[simp] theorem State.setTariff_lif (s : State) (x : Vector ProductSlot 63) : (s.setTariff x).lif = s.lif := rfl
@[simp] theorem State.setTariff_rcc (s : State) (x : Vector ProductSlot 63) : (s.setTariff x).rcc = s.rcc := rfl
@[simp] theorem State.setTariff_tariff (s : State) (x : Vector ProductSlot 63) : (s.setTariff x).tariff = x := rfl
@[simp] theorem State.setTariff_passes (s : State) (x : Vector ProductSlot 63) : (s.setTariff x).passes = s.passes := rfl
@[simp] theorem State.setTariff_xfer (s : State) (x : Vector ProductSlot 63) : (s.setTariff x).xfer = s.xfer := rfl
@[simp] theorem State.setTariff_lanes (s : State) (x : Vector ProductSlot 63) : (s.setTariff x).lanes = s.lanes := rfl
@[simp] theorem State.setTariff_ae (s : State) (x : Vector ProductSlot 63) : (s.setTariff x).ae = s.ae := rfl
@[simp] theorem State.setTariff_pbl (s : State) (x : Vector ProductSlot 63) : (s.setTariff x).pbl = s.pbl := rfl
@[simp] theorem State.setTariff_tally (s : State) (x : Vector ProductSlot 63) : (s.setTariff x).tally = s.tally := rfl
@[simp] theorem State.setTariff_rfc (s : State) (x : Vector ProductSlot 63) : (s.setTariff x).rfc = s.rfc := rfl
@[simp] theorem State.setTariff_quotes (s : State) (x : Vector ProductSlot 63) : (s.setTariff x).quotes = s.quotes := rfl
@[simp] theorem State.setTariff_journal (s : State) (x : Vector ProductSlot 63) : (s.setTariff x).journal = s.journal := rfl
@[simp] theorem State.setTariff_notices (s : State) (x : Vector ProductSlot 63) : (s.setTariff x).notices = s.notices := rfl
@[simp] theorem State.setTariff_pending (s : State) (x : Vector ProductSlot 63) : (s.setTariff x).pending = s.pending := rfl

@[simp] theorem State.setPasses_lif (s : State) (x : List PassEntry) : (s.setPasses x).lif = s.lif := rfl
@[simp] theorem State.setPasses_rcc (s : State) (x : List PassEntry) : (s.setPasses x).rcc = s.rcc := rfl
@[simp] theorem State.setPasses_tariff (s : State) (x : List PassEntry) : (s.setPasses x).tariff = s.tariff := rfl
@[simp] theorem State.setPasses_passes (s : State) (x : List PassEntry) : (s.setPasses x).passes = x := rfl
@[simp] theorem State.setPasses_xfer (s : State) (x : List PassEntry) : (s.setPasses x).xfer = s.xfer := rfl
@[simp] theorem State.setPasses_lanes (s : State) (x : List PassEntry) : (s.setPasses x).lanes = s.lanes := rfl
@[simp] theorem State.setPasses_ae (s : State) (x : List PassEntry) : (s.setPasses x).ae = s.ae := rfl
@[simp] theorem State.setPasses_pbl (s : State) (x : List PassEntry) : (s.setPasses x).pbl = s.pbl := rfl
@[simp] theorem State.setPasses_tally (s : State) (x : List PassEntry) : (s.setPasses x).tally = s.tally := rfl
@[simp] theorem State.setPasses_rfc (s : State) (x : List PassEntry) : (s.setPasses x).rfc = s.rfc := rfl
@[simp] theorem State.setPasses_quotes (s : State) (x : List PassEntry) : (s.setPasses x).quotes = s.quotes := rfl
@[simp] theorem State.setPasses_journal (s : State) (x : List PassEntry) : (s.setPasses x).journal = s.journal := rfl
@[simp] theorem State.setPasses_notices (s : State) (x : List PassEntry) : (s.setPasses x).notices = s.notices := rfl
@[simp] theorem State.setPasses_pending (s : State) (x : List PassEntry) : (s.setPasses x).pending = s.pending := rfl

@[simp] theorem State.setXfer_lif (s : State) (x : Transfer) : (s.setXfer x).lif = s.lif := rfl
@[simp] theorem State.setXfer_rcc (s : State) (x : Transfer) : (s.setXfer x).rcc = s.rcc := rfl
@[simp] theorem State.setXfer_tariff (s : State) (x : Transfer) : (s.setXfer x).tariff = s.tariff := rfl
@[simp] theorem State.setXfer_passes (s : State) (x : Transfer) : (s.setXfer x).passes = s.passes := rfl
@[simp] theorem State.setXfer_xfer (s : State) (x : Transfer) : (s.setXfer x).xfer = x := rfl
@[simp] theorem State.setXfer_lanes (s : State) (x : Transfer) : (s.setXfer x).lanes = s.lanes := rfl
@[simp] theorem State.setXfer_ae (s : State) (x : Transfer) : (s.setXfer x).ae = s.ae := rfl
@[simp] theorem State.setXfer_pbl (s : State) (x : Transfer) : (s.setXfer x).pbl = s.pbl := rfl
@[simp] theorem State.setXfer_tally (s : State) (x : Transfer) : (s.setXfer x).tally = s.tally := rfl
@[simp] theorem State.setXfer_rfc (s : State) (x : Transfer) : (s.setXfer x).rfc = s.rfc := rfl
@[simp] theorem State.setXfer_quotes (s : State) (x : Transfer) : (s.setXfer x).quotes = s.quotes := rfl
@[simp] theorem State.setXfer_journal (s : State) (x : Transfer) : (s.setXfer x).journal = s.journal := rfl
@[simp] theorem State.setXfer_notices (s : State) (x : Transfer) : (s.setXfer x).notices = s.notices := rfl
@[simp] theorem State.setXfer_pending (s : State) (x : Transfer) : (s.setXfer x).pending = s.pending := rfl

@[simp] theorem State.setLanes_lif (s : State) (x : Quad Lane) : (s.setLanes x).lif = s.lif := rfl
@[simp] theorem State.setLanes_rcc (s : State) (x : Quad Lane) : (s.setLanes x).rcc = s.rcc := rfl
@[simp] theorem State.setLanes_tariff (s : State) (x : Quad Lane) : (s.setLanes x).tariff = s.tariff := rfl
@[simp] theorem State.setLanes_passes (s : State) (x : Quad Lane) : (s.setLanes x).passes = s.passes := rfl
@[simp] theorem State.setLanes_xfer (s : State) (x : Quad Lane) : (s.setLanes x).xfer = s.xfer := rfl
@[simp] theorem State.setLanes_lanes (s : State) (x : Quad Lane) : (s.setLanes x).lanes = x := rfl
@[simp] theorem State.setLanes_ae (s : State) (x : Quad Lane) : (s.setLanes x).ae = s.ae := rfl
@[simp] theorem State.setLanes_pbl (s : State) (x : Quad Lane) : (s.setLanes x).pbl = s.pbl := rfl
@[simp] theorem State.setLanes_tally (s : State) (x : Quad Lane) : (s.setLanes x).tally = s.tally := rfl
@[simp] theorem State.setLanes_rfc (s : State) (x : Quad Lane) : (s.setLanes x).rfc = s.rfc := rfl
@[simp] theorem State.setLanes_quotes (s : State) (x : Quad Lane) : (s.setLanes x).quotes = s.quotes := rfl
@[simp] theorem State.setLanes_journal (s : State) (x : Quad Lane) : (s.setLanes x).journal = s.journal := rfl
@[simp] theorem State.setLanes_notices (s : State) (x : Quad Lane) : (s.setLanes x).notices = s.notices := rfl
@[simp] theorem State.setLanes_pending (s : State) (x : Quad Lane) : (s.setLanes x).pending = s.pending := rfl

@[simp] theorem State.setAe_lif (s : State) (x : AdmissionEngine) : (s.setAe x).lif = s.lif := rfl
@[simp] theorem State.setAe_rcc (s : State) (x : AdmissionEngine) : (s.setAe x).rcc = s.rcc := rfl
@[simp] theorem State.setAe_tariff (s : State) (x : AdmissionEngine) : (s.setAe x).tariff = s.tariff := rfl
@[simp] theorem State.setAe_passes (s : State) (x : AdmissionEngine) : (s.setAe x).passes = s.passes := rfl
@[simp] theorem State.setAe_xfer (s : State) (x : AdmissionEngine) : (s.setAe x).xfer = s.xfer := rfl
@[simp] theorem State.setAe_lanes (s : State) (x : AdmissionEngine) : (s.setAe x).lanes = s.lanes := rfl
@[simp] theorem State.setAe_ae (s : State) (x : AdmissionEngine) : (s.setAe x).ae = x := rfl
@[simp] theorem State.setAe_pbl (s : State) (x : AdmissionEngine) : (s.setAe x).pbl = s.pbl := rfl
@[simp] theorem State.setAe_tally (s : State) (x : AdmissionEngine) : (s.setAe x).tally = s.tally := rfl
@[simp] theorem State.setAe_rfc (s : State) (x : AdmissionEngine) : (s.setAe x).rfc = s.rfc := rfl
@[simp] theorem State.setAe_quotes (s : State) (x : AdmissionEngine) : (s.setAe x).quotes = s.quotes := rfl
@[simp] theorem State.setAe_journal (s : State) (x : AdmissionEngine) : (s.setAe x).journal = s.journal := rfl
@[simp] theorem State.setAe_notices (s : State) (x : AdmissionEngine) : (s.setAe x).notices = s.notices := rfl
@[simp] theorem State.setAe_pending (s : State) (x : AdmissionEngine) : (s.setAe x).pending = s.pending := rfl

@[simp] theorem State.setPbl_lif (s : State) (x : PassbackList) : (s.setPbl x).lif = s.lif := rfl
@[simp] theorem State.setPbl_rcc (s : State) (x : PassbackList) : (s.setPbl x).rcc = s.rcc := rfl
@[simp] theorem State.setPbl_tariff (s : State) (x : PassbackList) : (s.setPbl x).tariff = s.tariff := rfl
@[simp] theorem State.setPbl_passes (s : State) (x : PassbackList) : (s.setPbl x).passes = s.passes := rfl
@[simp] theorem State.setPbl_xfer (s : State) (x : PassbackList) : (s.setPbl x).xfer = s.xfer := rfl
@[simp] theorem State.setPbl_lanes (s : State) (x : PassbackList) : (s.setPbl x).lanes = s.lanes := rfl
@[simp] theorem State.setPbl_ae (s : State) (x : PassbackList) : (s.setPbl x).ae = s.ae := rfl
@[simp] theorem State.setPbl_pbl (s : State) (x : PassbackList) : (s.setPbl x).pbl = x := rfl
@[simp] theorem State.setPbl_tally (s : State) (x : PassbackList) : (s.setPbl x).tally = s.tally := rfl
@[simp] theorem State.setPbl_rfc (s : State) (x : PassbackList) : (s.setPbl x).rfc = s.rfc := rfl
@[simp] theorem State.setPbl_quotes (s : State) (x : PassbackList) : (s.setPbl x).quotes = s.quotes := rfl
@[simp] theorem State.setPbl_journal (s : State) (x : PassbackList) : (s.setPbl x).journal = s.journal := rfl
@[simp] theorem State.setPbl_notices (s : State) (x : PassbackList) : (s.setPbl x).notices = s.notices := rfl
@[simp] theorem State.setPbl_pending (s : State) (x : PassbackList) : (s.setPbl x).pending = s.pending := rfl

@[simp] theorem State.setTally_lif (s : State) (x : Tally) : (s.setTally x).lif = s.lif := rfl
@[simp] theorem State.setTally_rcc (s : State) (x : Tally) : (s.setTally x).rcc = s.rcc := rfl
@[simp] theorem State.setTally_tariff (s : State) (x : Tally) : (s.setTally x).tariff = s.tariff := rfl
@[simp] theorem State.setTally_passes (s : State) (x : Tally) : (s.setTally x).passes = s.passes := rfl
@[simp] theorem State.setTally_xfer (s : State) (x : Tally) : (s.setTally x).xfer = s.xfer := rfl
@[simp] theorem State.setTally_lanes (s : State) (x : Tally) : (s.setTally x).lanes = s.lanes := rfl
@[simp] theorem State.setTally_ae (s : State) (x : Tally) : (s.setTally x).ae = s.ae := rfl
@[simp] theorem State.setTally_pbl (s : State) (x : Tally) : (s.setTally x).pbl = s.pbl := rfl
@[simp] theorem State.setTally_tally (s : State) (x : Tally) : (s.setTally x).tally = x := rfl
@[simp] theorem State.setTally_rfc (s : State) (x : Tally) : (s.setTally x).rfc = s.rfc := rfl
@[simp] theorem State.setTally_quotes (s : State) (x : Tally) : (s.setTally x).quotes = s.quotes := rfl
@[simp] theorem State.setTally_journal (s : State) (x : Tally) : (s.setTally x).journal = s.journal := rfl
@[simp] theorem State.setTally_notices (s : State) (x : Tally) : (s.setTally x).notices = s.notices := rfl
@[simp] theorem State.setTally_pending (s : State) (x : Tally) : (s.setTally x).pending = s.pending := rfl

@[simp] theorem State.setRfc_lif (s : State) (x : Calculator) : (s.setRfc x).lif = s.lif := rfl
@[simp] theorem State.setRfc_rcc (s : State) (x : Calculator) : (s.setRfc x).rcc = s.rcc := rfl
@[simp] theorem State.setRfc_tariff (s : State) (x : Calculator) : (s.setRfc x).tariff = s.tariff := rfl
@[simp] theorem State.setRfc_passes (s : State) (x : Calculator) : (s.setRfc x).passes = s.passes := rfl
@[simp] theorem State.setRfc_xfer (s : State) (x : Calculator) : (s.setRfc x).xfer = s.xfer := rfl
@[simp] theorem State.setRfc_lanes (s : State) (x : Calculator) : (s.setRfc x).lanes = s.lanes := rfl
@[simp] theorem State.setRfc_ae (s : State) (x : Calculator) : (s.setRfc x).ae = s.ae := rfl
@[simp] theorem State.setRfc_pbl (s : State) (x : Calculator) : (s.setRfc x).pbl = s.pbl := rfl
@[simp] theorem State.setRfc_tally (s : State) (x : Calculator) : (s.setRfc x).tally = s.tally := rfl
@[simp] theorem State.setRfc_rfc (s : State) (x : Calculator) : (s.setRfc x).rfc = x := rfl
@[simp] theorem State.setRfc_quotes (s : State) (x : Calculator) : (s.setRfc x).quotes = s.quotes := rfl
@[simp] theorem State.setRfc_journal (s : State) (x : Calculator) : (s.setRfc x).journal = s.journal := rfl
@[simp] theorem State.setRfc_notices (s : State) (x : Calculator) : (s.setRfc x).notices = s.notices := rfl
@[simp] theorem State.setRfc_pending (s : State) (x : Calculator) : (s.setRfc x).pending = s.pending := rfl

@[simp] theorem State.setQuotes_lif (s : State) (x : Quad QuoteSlot) : (s.setQuotes x).lif = s.lif := rfl
@[simp] theorem State.setQuotes_rcc (s : State) (x : Quad QuoteSlot) : (s.setQuotes x).rcc = s.rcc := rfl
@[simp] theorem State.setQuotes_tariff (s : State) (x : Quad QuoteSlot) : (s.setQuotes x).tariff = s.tariff := rfl
@[simp] theorem State.setQuotes_passes (s : State) (x : Quad QuoteSlot) : (s.setQuotes x).passes = s.passes := rfl
@[simp] theorem State.setQuotes_xfer (s : State) (x : Quad QuoteSlot) : (s.setQuotes x).xfer = s.xfer := rfl
@[simp] theorem State.setQuotes_lanes (s : State) (x : Quad QuoteSlot) : (s.setQuotes x).lanes = s.lanes := rfl
@[simp] theorem State.setQuotes_ae (s : State) (x : Quad QuoteSlot) : (s.setQuotes x).ae = s.ae := rfl
@[simp] theorem State.setQuotes_pbl (s : State) (x : Quad QuoteSlot) : (s.setQuotes x).pbl = s.pbl := rfl
@[simp] theorem State.setQuotes_tally (s : State) (x : Quad QuoteSlot) : (s.setQuotes x).tally = s.tally := rfl
@[simp] theorem State.setQuotes_rfc (s : State) (x : Quad QuoteSlot) : (s.setQuotes x).rfc = s.rfc := rfl
@[simp] theorem State.setQuotes_quotes (s : State) (x : Quad QuoteSlot) : (s.setQuotes x).quotes = x := rfl
@[simp] theorem State.setQuotes_journal (s : State) (x : Quad QuoteSlot) : (s.setQuotes x).journal = s.journal := rfl
@[simp] theorem State.setQuotes_notices (s : State) (x : Quad QuoteSlot) : (s.setQuotes x).notices = s.notices := rfl
@[simp] theorem State.setQuotes_pending (s : State) (x : Quad QuoteSlot) : (s.setQuotes x).pending = s.pending := rfl

@[simp] theorem State.setJournal_lif (s : State) (x : Journal) : (s.setJournal x).lif = s.lif := rfl
@[simp] theorem State.setJournal_rcc (s : State) (x : Journal) : (s.setJournal x).rcc = s.rcc := rfl
@[simp] theorem State.setJournal_tariff (s : State) (x : Journal) : (s.setJournal x).tariff = s.tariff := rfl
@[simp] theorem State.setJournal_passes (s : State) (x : Journal) : (s.setJournal x).passes = s.passes := rfl
@[simp] theorem State.setJournal_xfer (s : State) (x : Journal) : (s.setJournal x).xfer = s.xfer := rfl
@[simp] theorem State.setJournal_lanes (s : State) (x : Journal) : (s.setJournal x).lanes = s.lanes := rfl
@[simp] theorem State.setJournal_ae (s : State) (x : Journal) : (s.setJournal x).ae = s.ae := rfl
@[simp] theorem State.setJournal_pbl (s : State) (x : Journal) : (s.setJournal x).pbl = s.pbl := rfl
@[simp] theorem State.setJournal_tally (s : State) (x : Journal) : (s.setJournal x).tally = s.tally := rfl
@[simp] theorem State.setJournal_rfc (s : State) (x : Journal) : (s.setJournal x).rfc = s.rfc := rfl
@[simp] theorem State.setJournal_quotes (s : State) (x : Journal) : (s.setJournal x).quotes = s.quotes := rfl
@[simp] theorem State.setJournal_journal (s : State) (x : Journal) : (s.setJournal x).journal = x := rfl
@[simp] theorem State.setJournal_notices (s : State) (x : Journal) : (s.setJournal x).notices = s.notices := rfl
@[simp] theorem State.setJournal_pending (s : State) (x : Journal) : (s.setJournal x).pending = s.pending := rfl

@[simp] theorem State.setNotices_lif (s : State) (x : NoticeLatch) : (s.setNotices x).lif = s.lif := rfl
@[simp] theorem State.setNotices_rcc (s : State) (x : NoticeLatch) : (s.setNotices x).rcc = s.rcc := rfl
@[simp] theorem State.setNotices_tariff (s : State) (x : NoticeLatch) : (s.setNotices x).tariff = s.tariff := rfl
@[simp] theorem State.setNotices_passes (s : State) (x : NoticeLatch) : (s.setNotices x).passes = s.passes := rfl
@[simp] theorem State.setNotices_xfer (s : State) (x : NoticeLatch) : (s.setNotices x).xfer = s.xfer := rfl
@[simp] theorem State.setNotices_lanes (s : State) (x : NoticeLatch) : (s.setNotices x).lanes = s.lanes := rfl
@[simp] theorem State.setNotices_ae (s : State) (x : NoticeLatch) : (s.setNotices x).ae = s.ae := rfl
@[simp] theorem State.setNotices_pbl (s : State) (x : NoticeLatch) : (s.setNotices x).pbl = s.pbl := rfl
@[simp] theorem State.setNotices_tally (s : State) (x : NoticeLatch) : (s.setNotices x).tally = s.tally := rfl
@[simp] theorem State.setNotices_rfc (s : State) (x : NoticeLatch) : (s.setNotices x).rfc = s.rfc := rfl
@[simp] theorem State.setNotices_quotes (s : State) (x : NoticeLatch) : (s.setNotices x).quotes = s.quotes := rfl
@[simp] theorem State.setNotices_journal (s : State) (x : NoticeLatch) : (s.setNotices x).journal = s.journal := rfl
@[simp] theorem State.setNotices_notices (s : State) (x : NoticeLatch) : (s.setNotices x).notices = x := rfl
@[simp] theorem State.setNotices_pending (s : State) (x : NoticeLatch) : (s.setNotices x).pending = s.pending := rfl

@[simp] theorem State.setPending_lif (s : State) (x : List Instr) : (s.setPending x).lif = s.lif := rfl
@[simp] theorem State.setPending_rcc (s : State) (x : List Instr) : (s.setPending x).rcc = s.rcc := rfl
@[simp] theorem State.setPending_tariff (s : State) (x : List Instr) : (s.setPending x).tariff = s.tariff := rfl
@[simp] theorem State.setPending_passes (s : State) (x : List Instr) : (s.setPending x).passes = s.passes := rfl
@[simp] theorem State.setPending_xfer (s : State) (x : List Instr) : (s.setPending x).xfer = s.xfer := rfl
@[simp] theorem State.setPending_lanes (s : State) (x : List Instr) : (s.setPending x).lanes = s.lanes := rfl
@[simp] theorem State.setPending_ae (s : State) (x : List Instr) : (s.setPending x).ae = s.ae := rfl
@[simp] theorem State.setPending_pbl (s : State) (x : List Instr) : (s.setPending x).pbl = s.pbl := rfl
@[simp] theorem State.setPending_tally (s : State) (x : List Instr) : (s.setPending x).tally = s.tally := rfl
@[simp] theorem State.setPending_rfc (s : State) (x : List Instr) : (s.setPending x).rfc = s.rfc := rfl
@[simp] theorem State.setPending_quotes (s : State) (x : List Instr) : (s.setPending x).quotes = s.quotes := rfl
@[simp] theorem State.setPending_journal (s : State) (x : List Instr) : (s.setPending x).journal = s.journal := rfl
@[simp] theorem State.setPending_notices (s : State) (x : List Instr) : (s.setPending x).notices = s.notices := rfl
@[simp] theorem State.setPending_pending (s : State) (x : List Instr) : (s.setPending x).pending = x := rfl

@[simp] theorem State.setLane_lif (s : State) (i : LaneId) (x : Lane) : (s.setLane i x).lif = s.lif := rfl
@[simp] theorem State.setLane_rcc (s : State) (i : LaneId) (x : Lane) : (s.setLane i x).rcc = s.rcc := rfl
@[simp] theorem State.setLane_tariff (s : State) (i : LaneId) (x : Lane) : (s.setLane i x).tariff = s.tariff := rfl
@[simp] theorem State.setLane_passes (s : State) (i : LaneId) (x : Lane) : (s.setLane i x).passes = s.passes := rfl
@[simp] theorem State.setLane_xfer (s : State) (i : LaneId) (x : Lane) : (s.setLane i x).xfer = s.xfer := rfl
@[simp] theorem State.setLane_lanes (s : State) (i : LaneId) (x : Lane) : (s.setLane i x).lanes = s.lanes.set i x := rfl
@[simp] theorem State.setLane_ae (s : State) (i : LaneId) (x : Lane) : (s.setLane i x).ae = s.ae := rfl
@[simp] theorem State.setLane_pbl (s : State) (i : LaneId) (x : Lane) : (s.setLane i x).pbl = s.pbl := rfl
@[simp] theorem State.setLane_tally (s : State) (i : LaneId) (x : Lane) : (s.setLane i x).tally = s.tally := rfl
@[simp] theorem State.setLane_rfc (s : State) (i : LaneId) (x : Lane) : (s.setLane i x).rfc = s.rfc := rfl
@[simp] theorem State.setLane_quotes (s : State) (i : LaneId) (x : Lane) : (s.setLane i x).quotes = s.quotes := rfl
@[simp] theorem State.setLane_journal (s : State) (i : LaneId) (x : Lane) : (s.setLane i x).journal = s.journal := rfl
@[simp] theorem State.setLane_notices (s : State) (i : LaneId) (x : Lane) : (s.setLane i x).notices = s.notices := rfl
@[simp] theorem State.setLane_pending (s : State) (i : LaneId) (x : Lane) : (s.setLane i x).pending = s.pending := rfl

/-- The member just set. -/
@[simp] theorem State.lane_setLane_self (s : State) (i : LaneId) (x : Lane) : (s.setLane i x).lane i = x := by
  simp [State.lane]

/-- Every member after the update. -/
theorem State.lane_setLane (s : State) (i j : LaneId) (x : Lane) :
    (s.setLane i x).lane j = if j = i then x else s.lane j := by
  simp [State.lane, Quad.get_set]

@[simp] theorem State.setSlot_lif (s : State) (i : SlotId) (x : QuoteSlot) : (s.setSlot i x).lif = s.lif := rfl
@[simp] theorem State.setSlot_rcc (s : State) (i : SlotId) (x : QuoteSlot) : (s.setSlot i x).rcc = s.rcc := rfl
@[simp] theorem State.setSlot_tariff (s : State) (i : SlotId) (x : QuoteSlot) : (s.setSlot i x).tariff = s.tariff := rfl
@[simp] theorem State.setSlot_passes (s : State) (i : SlotId) (x : QuoteSlot) : (s.setSlot i x).passes = s.passes := rfl
@[simp] theorem State.setSlot_xfer (s : State) (i : SlotId) (x : QuoteSlot) : (s.setSlot i x).xfer = s.xfer := rfl
@[simp] theorem State.setSlot_lanes (s : State) (i : SlotId) (x : QuoteSlot) : (s.setSlot i x).lanes = s.lanes := rfl
@[simp] theorem State.setSlot_ae (s : State) (i : SlotId) (x : QuoteSlot) : (s.setSlot i x).ae = s.ae := rfl
@[simp] theorem State.setSlot_pbl (s : State) (i : SlotId) (x : QuoteSlot) : (s.setSlot i x).pbl = s.pbl := rfl
@[simp] theorem State.setSlot_tally (s : State) (i : SlotId) (x : QuoteSlot) : (s.setSlot i x).tally = s.tally := rfl
@[simp] theorem State.setSlot_rfc (s : State) (i : SlotId) (x : QuoteSlot) : (s.setSlot i x).rfc = s.rfc := rfl
@[simp] theorem State.setSlot_quotes (s : State) (i : SlotId) (x : QuoteSlot) : (s.setSlot i x).quotes = s.quotes.set i x := rfl
@[simp] theorem State.setSlot_journal (s : State) (i : SlotId) (x : QuoteSlot) : (s.setSlot i x).journal = s.journal := rfl
@[simp] theorem State.setSlot_notices (s : State) (i : SlotId) (x : QuoteSlot) : (s.setSlot i x).notices = s.notices := rfl
@[simp] theorem State.setSlot_pending (s : State) (i : SlotId) (x : QuoteSlot) : (s.setSlot i x).pending = s.pending := rfl

/-- The member just set. -/
@[simp] theorem State.slot_setSlot_self (s : State) (i : SlotId) (x : QuoteSlot) : (s.setSlot i x).slot i = x := by
  simp [State.slot]

/-- Every member after the update. -/
theorem State.slot_setSlot (s : State) (i j : SlotId) (x : QuoteSlot) :
    (s.setSlot i x).slot j = if j = i then x else s.slot j := by
  simp [State.slot, Quad.get_set]

/-! ## A setter used twice -/

@[simp] theorem State.setLif_setLif (s : State) (x y : LineInterface) : (s.setLif x).setLif y = s.setLif y := rfl
@[simp] theorem State.setRcc_setRcc (s : State) (x y : ClockBlock) : (s.setRcc x).setRcc y = s.setRcc y := rfl
@[simp] theorem State.setTariff_setTariff (s : State) (x y : Vector ProductSlot 63) : (s.setTariff x).setTariff y = s.setTariff y := rfl
@[simp] theorem State.setPasses_setPasses (s : State) (x y : List PassEntry) : (s.setPasses x).setPasses y = s.setPasses y := rfl
@[simp] theorem State.setXfer_setXfer (s : State) (x y : Transfer) : (s.setXfer x).setXfer y = s.setXfer y := rfl
@[simp] theorem State.setLanes_setLanes (s : State) (x y : Quad Lane) : (s.setLanes x).setLanes y = s.setLanes y := rfl
@[simp] theorem State.setAe_setAe (s : State) (x y : AdmissionEngine) : (s.setAe x).setAe y = s.setAe y := rfl
@[simp] theorem State.setPbl_setPbl (s : State) (x y : PassbackList) : (s.setPbl x).setPbl y = s.setPbl y := rfl
@[simp] theorem State.setTally_setTally (s : State) (x y : Tally) : (s.setTally x).setTally y = s.setTally y := rfl
@[simp] theorem State.setRfc_setRfc (s : State) (x y : Calculator) : (s.setRfc x).setRfc y = s.setRfc y := rfl
@[simp] theorem State.setQuotes_setQuotes (s : State) (x y : Quad QuoteSlot) : (s.setQuotes x).setQuotes y = s.setQuotes y := rfl
@[simp] theorem State.setJournal_setJournal (s : State) (x y : Journal) : (s.setJournal x).setJournal y = s.setJournal y := rfl
@[simp] theorem State.setNotices_setNotices (s : State) (x y : NoticeLatch) : (s.setNotices x).setNotices y = s.setNotices y := rfl
@[simp] theorem State.setPending_setPending (s : State) (x y : List Instr) : (s.setPending x).setPending y = s.setPending y := rfl

end Machine

end Sys2Proof
end

