-- ==== Sys2Proof/Laws/FrameOps.lean ====
section
/-!
SUPPORT. What the operations of Ops leave as it was: one lemma for each, the blocks it does not name unchanged.
-/

namespace Sys2Proof.Machine

@[simp] theorem State.raise_frame (s : State) (x : PendingNotice) :
    (s.raise x).lif = s.lif ∧
    (s.raise x).rcc = s.rcc ∧
    (s.raise x).tariff = s.tariff ∧
    (s.raise x).passes = s.passes ∧
    (s.raise x).xfer = s.xfer ∧
    (s.raise x).lanes = s.lanes ∧
    (s.raise x).ae = s.ae ∧
    (s.raise x).pbl = s.pbl ∧
    (s.raise x).tally = s.tally ∧
    (s.raise x).rfc = s.rfc ∧
    (s.raise x).quotes = s.quotes ∧
    (s.raise x).journal = s.journal ∧
    (s.raise x).pending = s.pending := by
  simp [State.raise]

@[simp] theorem State.writeRecord_frame (s : State) (b : RecordBody) :
    (s.writeRecord b).lif = s.lif ∧
    (s.writeRecord b).rcc = s.rcc ∧
    (s.writeRecord b).tariff = s.tariff ∧
    (s.writeRecord b).passes = s.passes ∧
    (s.writeRecord b).xfer = s.xfer ∧
    (s.writeRecord b).lanes = s.lanes ∧
    (s.writeRecord b).ae = s.ae ∧
    (s.writeRecord b).pbl = s.pbl ∧
    (s.writeRecord b).tally = s.tally ∧
    (s.writeRecord b).rfc = s.rfc ∧
    (s.writeRecord b).quotes = s.quotes ∧
    (s.writeRecord b).pending = s.pending := by
  unfold State.writeRecord; simp only []; split <;> simp

@[simp] theorem State.setToday_frame (s : State) (t : TallySet) :
    (s.setToday t).lif = s.lif ∧
    (s.setToday t).rcc = s.rcc ∧
    (s.setToday t).tariff = s.tariff ∧
    (s.setToday t).passes = s.passes ∧
    (s.setToday t).xfer = s.xfer ∧
    (s.setToday t).lanes = s.lanes ∧
    (s.setToday t).ae = s.ae ∧
    (s.setToday t).pbl = s.pbl ∧
    (s.setToday t).rfc = s.rfc ∧
    (s.setToday t).quotes = s.quotes ∧
    (s.setToday t).journal = s.journal ∧
    (s.setToday t).notices = s.notices ∧
    (s.setToday t).pending = s.pending := by
  simp [State.setToday]

@[simp] theorem State.countLane_frame (s : State) (l : LaneId) (f : LaneCounters → LaneCounters) :
    (s.countLane l f).lif = s.lif ∧
    (s.countLane l f).rcc = s.rcc ∧
    (s.countLane l f).tariff = s.tariff ∧
    (s.countLane l f).passes = s.passes ∧
    (s.countLane l f).xfer = s.xfer ∧
    (s.countLane l f).lanes = s.lanes ∧
    (s.countLane l f).ae = s.ae ∧
    (s.countLane l f).pbl = s.pbl ∧
    (s.countLane l f).rfc = s.rfc ∧
    (s.countLane l f).quotes = s.quotes ∧
    (s.countLane l f).journal = s.journal ∧
    (s.countLane l f).notices = s.notices ∧
    (s.countLane l f).pending = s.pending := by
  simp [State.countLane]

@[simp] theorem State.countRider_frame (s : State) (l : LaneId) (c : RiderCategory) :
    (s.countRider l c).lif = s.lif ∧
    (s.countRider l c).rcc = s.rcc ∧
    (s.countRider l c).tariff = s.tariff ∧
    (s.countRider l c).passes = s.passes ∧
    (s.countRider l c).xfer = s.xfer ∧
    (s.countRider l c).lanes = s.lanes ∧
    (s.countRider l c).ae = s.ae ∧
    (s.countRider l c).pbl = s.pbl ∧
    (s.countRider l c).rfc = s.rfc ∧
    (s.countRider l c).quotes = s.quotes ∧
    (s.countRider l c).journal = s.journal ∧
    (s.countRider l c).notices = s.notices ∧
    (s.countRider l c).pending = s.pending := by
  simp [State.countRider]

@[simp] theorem State.placeReply_frame (s : State) (f : OutFrame) :
    (s.placeReply f).rcc = s.rcc ∧
    (s.placeReply f).tariff = s.tariff ∧
    (s.placeReply f).passes = s.passes ∧
    (s.placeReply f).xfer = s.xfer ∧
    (s.placeReply f).lanes = s.lanes ∧
    (s.placeReply f).ae = s.ae ∧
    (s.placeReply f).pbl = s.pbl ∧
    (s.placeReply f).tally = s.tally ∧
    (s.placeReply f).rfc = s.rfc ∧
    (s.placeReply f).quotes = s.quotes ∧
    (s.placeReply f).journal = s.journal ∧
    (s.placeReply f).notices = s.notices ∧
    (s.placeReply f).pending = s.pending := by
  simp [State.placeReply]

@[simp] theorem State.answer_frame (s : State) (k : RequestKind) (tag : Byte) (st : StatusCode) (d : ReplyData) :
    (s.answer k tag st d).rcc = s.rcc ∧
    (s.answer k tag st d).tariff = s.tariff ∧
    (s.answer k tag st d).passes = s.passes ∧
    (s.answer k tag st d).xfer = s.xfer ∧
    (s.answer k tag st d).lanes = s.lanes ∧
    (s.answer k tag st d).ae = s.ae ∧
    (s.answer k tag st d).pbl = s.pbl ∧
    (s.answer k tag st d).tally = s.tally ∧
    (s.answer k tag st d).rfc = s.rfc ∧
    (s.answer k tag st d).quotes = s.quotes ∧
    (s.answer k tag st d).journal = s.journal ∧
    (s.answer k tag st d).notices = s.notices ∧
    (s.answer k tag st d).pending = s.pending := by
  simp [State.answer]

@[simp] theorem State.answerCode_frame (s : State) (k : RequestKind) (tag : Byte) (st : StatusCode) :
    (s.answerCode k tag st).rcc = s.rcc ∧
    (s.answerCode k tag st).tariff = s.tariff ∧
    (s.answerCode k tag st).passes = s.passes ∧
    (s.answerCode k tag st).xfer = s.xfer ∧
    (s.answerCode k tag st).lanes = s.lanes ∧
    (s.answerCode k tag st).ae = s.ae ∧
    (s.answerCode k tag st).pbl = s.pbl ∧
    (s.answerCode k tag st).tally = s.tally ∧
    (s.answerCode k tag st).rfc = s.rfc ∧
    (s.answerCode k tag st).quotes = s.quotes ∧
    (s.answerCode k tag st).journal = s.journal ∧
    (s.answerCode k tag st).notices = s.notices ∧
    (s.answerCode k tag st).pending = s.pending := by
  simp [State.answerCode]

@[simp] theorem State.fillHolding_frame (s : State) :
    (s.fillHolding).rcc = s.rcc ∧
    (s.fillHolding).tariff = s.tariff ∧
    (s.fillHolding).passes = s.passes ∧
    (s.fillHolding).xfer = s.xfer ∧
    (s.fillHolding).lanes = s.lanes ∧
    (s.fillHolding).ae = s.ae ∧
    (s.fillHolding).pbl = s.pbl ∧
    (s.fillHolding).tally = s.tally ∧
    (s.fillHolding).rfc = s.rfc ∧
    (s.fillHolding).quotes = s.quotes ∧
    (s.fillHolding).journal = s.journal ∧
    (s.fillHolding).pending = s.pending := by
  unfold State.fillHolding; (repeat' split) <;> simp

@[simp] theorem State.startShifting_frame (s : State) :
    (s.startShifting).rcc = s.rcc ∧
    (s.startShifting).tariff = s.tariff ∧
    (s.startShifting).passes = s.passes ∧
    (s.startShifting).xfer = s.xfer ∧
    (s.startShifting).lanes = s.lanes ∧
    (s.startShifting).ae = s.ae ∧
    (s.startShifting).pbl = s.pbl ∧
    (s.startShifting).tally = s.tally ∧
    (s.startShifting).rfc = s.rfc ∧
    (s.startShifting).quotes = s.quotes ∧
    (s.startShifting).journal = s.journal ∧
    (s.startShifting).notices = s.notices ∧
    (s.startShifting).pending = s.pending := by
  unfold State.startShifting; split <;> simp

@[simp] theorem State.pump_frame (s : State) :
    (s.pump).rcc = s.rcc ∧
    (s.pump).tariff = s.tariff ∧
    (s.pump).passes = s.passes ∧
    (s.pump).xfer = s.xfer ∧
    (s.pump).lanes = s.lanes ∧
    (s.pump).ae = s.ae ∧
    (s.pump).pbl = s.pbl ∧
    (s.pump).tally = s.tally ∧
    (s.pump).rfc = s.rfc ∧
    (s.pump).quotes = s.quotes ∧
    (s.pump).journal = s.journal ∧
    (s.pump).pending = s.pending := by
  simp [State.pump]

@[simp] theorem State.joinInbound_frame (s : State) (f : InFrame) :
    (s.joinInbound f).rcc = s.rcc ∧
    (s.joinInbound f).tariff = s.tariff ∧
    (s.joinInbound f).passes = s.passes ∧
    (s.joinInbound f).xfer = s.xfer ∧
    (s.joinInbound f).lanes = s.lanes ∧
    (s.joinInbound f).ae = s.ae ∧
    (s.joinInbound f).pbl = s.pbl ∧
    (s.joinInbound f).tally = s.tally ∧
    (s.joinInbound f).rfc = s.rfc ∧
    (s.joinInbound f).quotes = s.quotes ∧
    (s.joinInbound f).journal = s.journal ∧
    (s.joinInbound f).notices = s.notices ∧
    (s.joinInbound f).pending = s.pending := by
  unfold State.joinInbound; split <;> simp

@[simp] theorem State.joinRequest_frame (s : State) (i : Instr) :
    (s.joinRequest i).rcc = s.rcc ∧
    (s.joinRequest i).tariff = s.tariff ∧
    (s.joinRequest i).passes = s.passes ∧
    (s.joinRequest i).xfer = s.xfer ∧
    (s.joinRequest i).lanes = s.lanes ∧
    (s.joinRequest i).ae = s.ae ∧
    (s.joinRequest i).pbl = s.pbl ∧
    (s.joinRequest i).tally = s.tally ∧
    (s.joinRequest i).rfc = s.rfc ∧
    (s.joinRequest i).quotes = s.quotes ∧
    (s.joinRequest i).journal = s.journal ∧
    (s.joinRequest i).notices = s.notices ∧
    (s.joinRequest i).pending = s.pending := by
  unfold State.joinRequest; split <;> simp

@[simp] theorem State.updatePass_frame (s : State) (p : Nat) (f : PassEntry → PassEntry) :
    (s.updatePass p f).lif = s.lif ∧
    (s.updatePass p f).rcc = s.rcc ∧
    (s.updatePass p f).tariff = s.tariff ∧
    (s.updatePass p f).xfer = s.xfer ∧
    (s.updatePass p f).lanes = s.lanes ∧
    (s.updatePass p f).ae = s.ae ∧
    (s.updatePass p f).pbl = s.pbl ∧
    (s.updatePass p f).tally = s.tally ∧
    (s.updatePass p f).rfc = s.rfc ∧
    (s.updatePass p f).quotes = s.quotes ∧
    (s.updatePass p f).journal = s.journal ∧
    (s.updatePass p f).notices = s.notices ∧
    (s.updatePass p f).pending = s.pending := by
  simp [State.updatePass]

end Sys2Proof.Machine
end

