-- ==== Sys2Proof/Laws/FrameLanes.lean ====
section
/-!
SUPPORT. What the operations of the lanes and the rider counting leave as it was: one lemma for each, the blocks it does not name unchanged.
-/

namespace Sys2Proof.Machine

@[simp] theorem State.startDisplay_frame (s : State) (l : LaneId) (d : DisplayShow) :
    (s.startDisplay l d).lif = s.lif ∧
    (s.startDisplay l d).rcc = s.rcc ∧
    (s.startDisplay l d).tariff = s.tariff ∧
    (s.startDisplay l d).passes = s.passes ∧
    (s.startDisplay l d).xfer = s.xfer ∧
    (s.startDisplay l d).ae = s.ae ∧
    (s.startDisplay l d).pbl = s.pbl ∧
    (s.startDisplay l d).tally = s.tally ∧
    (s.startDisplay l d).rfc = s.rfc ∧
    (s.startDisplay l d).quotes = s.quotes ∧
    (s.startDisplay l d).journal = s.journal ∧
    (s.startDisplay l d).notices = s.notices ∧
    (s.startDisplay l d).pending = s.pending := by
  unfold State.startDisplay; split <;> simp

@[simp] theorem State.lapse_frame (s : State) (l : LaneId) (r : LapseReason) :
    (s.lapse l r).lif = s.lif ∧
    (s.lapse l r).rcc = s.rcc ∧
    (s.lapse l r).tariff = s.tariff ∧
    (s.lapse l r).xfer = s.xfer ∧
    (s.lapse l r).ae = s.ae ∧
    (s.lapse l r).rfc = s.rfc ∧
    (s.lapse l r).quotes = s.quotes ∧
    (s.lapse l r).pending = s.pending := by
  unfold State.lapse; split <;> simp

@[simp] theorem State.lapseAll_frame (s : State) (r : LapseReason) :
    (s.lapseAll r).lif = s.lif ∧
    (s.lapseAll r).rcc = s.rcc ∧
    (s.lapseAll r).tariff = s.tariff ∧
    (s.lapseAll r).xfer = s.xfer ∧
    (s.lapseAll r).ae = s.ae ∧
    (s.lapseAll r).rfc = s.rfc ∧
    (s.lapseAll r).quotes = s.quotes ∧
    (s.lapseAll r).pending = s.pending := by
  simp [State.lapseAll, fourInOrder]

@[simp] theorem State.withdraw_frame (s : State) (l : LaneId) :
    (s.withdraw l).rcc = s.rcc ∧
    (s.withdraw l).tariff = s.tariff ∧
    (s.withdraw l).passes = s.passes ∧
    (s.withdraw l).xfer = s.xfer ∧
    (s.withdraw l).lanes = s.lanes ∧
    (s.withdraw l).pbl = s.pbl ∧
    (s.withdraw l).tally = s.tally ∧
    (s.withdraw l).rfc = s.rfc ∧
    (s.withdraw l).quotes = s.quotes ∧
    (s.withdraw l).journal = s.journal ∧
    (s.withdraw l).notices = s.notices ∧
    (s.withdraw l).pending = s.pending := by
  unfold State.withdraw; split; · simp
  · (dsimp only; split <;> simp)

@[simp] theorem State.withdrawAll_frame (s : State) :
    (s.withdrawAll).rcc = s.rcc ∧
    (s.withdrawAll).tariff = s.tariff ∧
    (s.withdrawAll).passes = s.passes ∧
    (s.withdrawAll).xfer = s.xfer ∧
    (s.withdrawAll).lanes = s.lanes ∧
    (s.withdrawAll).pbl = s.pbl ∧
    (s.withdrawAll).tally = s.tally ∧
    (s.withdrawAll).rfc = s.rfc ∧
    (s.withdrawAll).quotes = s.quotes ∧
    (s.withdrawAll).journal = s.journal ∧
    (s.withdrawAll).notices = s.notices ∧
    (s.withdrawAll).pending = s.pending := by
  simp [State.withdrawAll, fourInOrder]

@[simp] theorem State.refuse_frame (s : State) (l : LaneId) (c : RefusalCause) (p : Option Nat) :
    (s.refuse l c p).lif = s.lif ∧
    (s.refuse l c p).rcc = s.rcc ∧
    (s.refuse l c p).tariff = s.tariff ∧
    (s.refuse l c p).passes = s.passes ∧
    (s.refuse l c p).xfer = s.xfer ∧
    (s.refuse l c p).ae = s.ae ∧
    (s.refuse l c p).pbl = s.pbl ∧
    (s.refuse l c p).rfc = s.rfc ∧
    (s.refuse l c p).quotes = s.quotes ∧
    (s.refuse l c p).pending = s.pending := by
  simp [State.refuse]

@[simp] theorem State.enterFault_frame (s : State) (l : LaneId) :
    (s.enterFault l).rcc = s.rcc ∧
    (s.enterFault l).tariff = s.tariff ∧
    (s.enterFault l).xfer = s.xfer ∧
    (s.enterFault l).rfc = s.rfc ∧
    (s.enterFault l).quotes = s.quotes ∧
    (s.enterFault l).pending = s.pending := by
  simp [State.enterFault]

@[simp] theorem State.latchFault_frame (s : State) (l : LaneId) (f : FaultLatch) :
    (s.latchFault l f).rcc = s.rcc ∧
    (s.latchFault l f).tariff = s.tariff ∧
    (s.latchFault l f).xfer = s.xfer ∧
    (s.latchFault l f).rfc = s.rfc ∧
    (s.latchFault l f).quotes = s.quotes ∧
    (s.latchFault l f).pending = s.pending := by
  unfold State.latchFault; split; · simp
  · (dsimp only; split <;> simp)

@[simp] theorem State.expirePassback_frame (s : State) :
    (s.expirePassback).lif = s.lif ∧
    (s.expirePassback).rcc = s.rcc ∧
    (s.expirePassback).tariff = s.tariff ∧
    (s.expirePassback).passes = s.passes ∧
    (s.expirePassback).xfer = s.xfer ∧
    (s.expirePassback).lanes = s.lanes ∧
    (s.expirePassback).ae = s.ae ∧
    (s.expirePassback).tally = s.tally ∧
    (s.expirePassback).rfc = s.rfc ∧
    (s.expirePassback).quotes = s.quotes ∧
    (s.expirePassback).journal = s.journal ∧
    (s.expirePassback).notices = s.notices ∧
    (s.expirePassback).pending = s.pending := by
  simp [State.expirePassback]

@[simp] theorem State.clearCommitted_frame (s : State) :
    (s.clearCommitted).lif = s.lif ∧
    (s.clearCommitted).rcc = s.rcc ∧
    (s.clearCommitted).tariff = s.tariff ∧
    (s.clearCommitted).passes = s.passes ∧
    (s.clearCommitted).xfer = s.xfer ∧
    (s.clearCommitted).lanes = s.lanes ∧
    (s.clearCommitted).ae = s.ae ∧
    (s.clearCommitted).tally = s.tally ∧
    (s.clearCommitted).rfc = s.rfc ∧
    (s.clearCommitted).quotes = s.quotes ∧
    (s.clearCommitted).journal = s.journal ∧
    (s.clearCommitted).notices = s.notices ∧
    (s.clearCommitted).pending = s.pending := by
  simp [State.clearCommitted]

@[simp] theorem State.underRider_frame (s : State) (l : LaneId) :
    (s.underRider l).lif = s.lif ∧
    (s.underRider l).rcc = s.rcc ∧
    (s.underRider l).tariff = s.tariff ∧
    (s.underRider l).passes = s.passes ∧
    (s.underRider l).xfer = s.xfer ∧
    (s.underRider l).lanes = s.lanes ∧
    (s.underRider l).ae = s.ae ∧
    (s.underRider l).pbl = s.pbl ∧
    (s.underRider l).rfc = s.rfc ∧
    (s.underRider l).quotes = s.quotes ∧
    (s.underRider l).pending = s.pending := by
  simp [State.underRider]

@[simp] theorem State.handRotation_frame (s : State) (l : LaneId) (c : RiderCategory) :
    (s.handRotation l c).lif = s.lif ∧
    (s.handRotation l c).rcc = s.rcc ∧
    (s.handRotation l c).tariff = s.tariff ∧
    (s.handRotation l c).passes = s.passes ∧
    (s.handRotation l c).xfer = s.xfer ∧
    (s.handRotation l c).ae = s.ae ∧
    (s.handRotation l c).pbl = s.pbl ∧
    (s.handRotation l c).rfc = s.rfc ∧
    (s.handRotation l c).quotes = s.quotes ∧
    (s.handRotation l c).journal = s.journal ∧
    (s.handRotation l c).notices = s.notices ∧
    (s.handRotation l c).pending = s.pending := by
  simp [State.handRotation]

@[simp] theorem State.handEntry_frame (s : State) (l : LaneId) :
    (s.handEntry l).lif = s.lif ∧
    (s.handEntry l).rcc = s.rcc ∧
    (s.handEntry l).tariff = s.tariff ∧
    (s.handEntry l).passes = s.passes ∧
    (s.handEntry l).xfer = s.xfer ∧
    (s.handEntry l).ae = s.ae ∧
    (s.handEntry l).pbl = s.pbl ∧
    (s.handEntry l).rfc = s.rfc ∧
    (s.handEntry l).quotes = s.quotes ∧
    (s.handEntry l).pending = s.pending := by
  unfold State.handEntry; dsimp only; split <;> simp

end Sys2Proof.Machine
end

