-- ==== Sys2Proof/Laws/FrameQuotes.lean ====
section
/-!
SUPPORT. What the operations of the Quote Table and the calculator leave as it was: one lemma for each, the blocks it does not name unchanged.
-/

namespace Sys2Proof.Machine

@[simp] theorem State.startComputation_frame (s : State) :
    (s.startComputation).lif = s.lif ∧
    (s.startComputation).rcc = s.rcc ∧
    (s.startComputation).tariff = s.tariff ∧
    (s.startComputation).passes = s.passes ∧
    (s.startComputation).xfer = s.xfer ∧
    (s.startComputation).lanes = s.lanes ∧
    (s.startComputation).ae = s.ae ∧
    (s.startComputation).pbl = s.pbl ∧
    (s.startComputation).tally = s.tally ∧
    (s.startComputation).journal = s.journal ∧
    (s.startComputation).notices = s.notices ∧
    (s.startComputation).pending = s.pending := by
  unfold State.startComputation; (repeat' split) <;> simp

@[simp] theorem State.acceptQuote_frame (s : State) (i : SlotId) (p : Nat) (src : QuoteSource) :
    (s.acceptQuote i p src).lif = s.lif ∧
    (s.acceptQuote i p src).rcc = s.rcc ∧
    (s.acceptQuote i p src).tariff = s.tariff ∧
    (s.acceptQuote i p src).xfer = s.xfer ∧
    (s.acceptQuote i p src).lanes = s.lanes ∧
    (s.acceptQuote i p src).ae = s.ae ∧
    (s.acceptQuote i p src).pbl = s.pbl ∧
    (s.acceptQuote i p src).tally = s.tally ∧
    (s.acceptQuote i p src).journal = s.journal ∧
    (s.acceptQuote i p src).notices = s.notices ∧
    (s.acceptQuote i p src).pending = s.pending := by
  simp [State.acceptQuote]

@[simp] theorem State.dropTo_frame (s : State) (i : SlotId) (p : Nat) (r : DropReason) (n : SlotState) :
    (s.dropTo i p r n).lif = s.lif ∧
    (s.dropTo i p r n).rcc = s.rcc ∧
    (s.dropTo i p r n).tariff = s.tariff ∧
    (s.dropTo i p r n).xfer = s.xfer ∧
    (s.dropTo i p r n).lanes = s.lanes ∧
    (s.dropTo i p r n).ae = s.ae ∧
    (s.dropTo i p r n).pbl = s.pbl ∧
    (s.dropTo i p r n).tally = s.tally ∧
    (s.dropTo i p r n).pending = s.pending := by
  simp [State.dropTo]

@[simp] theorem State.dropQuote_frame (s : State) (i : SlotId) (r : DropReason) :
    (s.dropQuote i r).lif = s.lif ∧
    (s.dropQuote i r).rcc = s.rcc ∧
    (s.dropQuote i r).tariff = s.tariff ∧
    (s.dropQuote i r).xfer = s.xfer ∧
    (s.dropQuote i r).lanes = s.lanes ∧
    (s.dropQuote i r).ae = s.ae ∧
    (s.dropQuote i r).pbl = s.pbl ∧
    (s.dropQuote i r).tally = s.tally ∧
    (s.dropQuote i r).pending = s.pending := by
  unfold State.dropQuote; split <;> simp

@[simp] theorem State.restartSlot_frame (s : State) (i : SlotId) :
    (s.restartSlot i).lif = s.lif ∧
    (s.restartSlot i).rcc = s.rcc ∧
    (s.restartSlot i).tariff = s.tariff ∧
    (s.restartSlot i).xfer = s.xfer ∧
    (s.restartSlot i).lanes = s.lanes ∧
    (s.restartSlot i).ae = s.ae ∧
    (s.restartSlot i).pbl = s.pbl ∧
    (s.restartSlot i).tally = s.tally ∧
    (s.restartSlot i).pending = s.pending := by
  unfold State.restartSlot; split <;> simp

@[simp] theorem State.expireHold_frame (s : State) (i : SlotId) :
    (s.expireHold i).lif = s.lif ∧
    (s.expireHold i).rcc = s.rcc ∧
    (s.expireHold i).tariff = s.tariff ∧
    (s.expireHold i).xfer = s.xfer ∧
    (s.expireHold i).lanes = s.lanes ∧
    (s.expireHold i).ae = s.ae ∧
    (s.expireHold i).pbl = s.pbl ∧
    (s.expireHold i).tally = s.tally ∧
    (s.expireHold i).pending = s.pending := by
  unfold State.expireHold; split <;> simp

@[simp] theorem State.expireHolds_frame (s : State) :
    (s.expireHolds).lif = s.lif ∧
    (s.expireHolds).rcc = s.rcc ∧
    (s.expireHolds).tariff = s.tariff ∧
    (s.expireHolds).xfer = s.xfer ∧
    (s.expireHolds).lanes = s.lanes ∧
    (s.expireHolds).ae = s.ae ∧
    (s.expireHolds).pbl = s.pbl ∧
    (s.expireHolds).tally = s.tally ∧
    (s.expireHolds).pending = s.pending := by
  simp [State.expireHolds, fourInOrder]

@[simp] theorem State.stampMoved_frame (s : State) :
    (s.stampMoved).lif = s.lif ∧
    (s.stampMoved).rcc = s.rcc ∧
    (s.stampMoved).tariff = s.tariff ∧
    (s.stampMoved).xfer = s.xfer ∧
    (s.stampMoved).lanes = s.lanes ∧
    (s.stampMoved).ae = s.ae ∧
    (s.stampMoved).tally = s.tally ∧
    (s.stampMoved).pending = s.pending := by
  simp [State.stampMoved]

@[simp] theorem State.countSettlement_frame (s : State) (n : Nat) :
    (s.countSettlement n).lif = s.lif ∧
    (s.countSettlement n).rcc = s.rcc ∧
    (s.countSettlement n).tariff = s.tariff ∧
    (s.countSettlement n).passes = s.passes ∧
    (s.countSettlement n).xfer = s.xfer ∧
    (s.countSettlement n).lanes = s.lanes ∧
    (s.countSettlement n).ae = s.ae ∧
    (s.countSettlement n).pbl = s.pbl ∧
    (s.countSettlement n).rfc = s.rfc ∧
    (s.countSettlement n).quotes = s.quotes ∧
    (s.countSettlement n).journal = s.journal ∧
    (s.countSettlement n).notices = s.notices ∧
    (s.countSettlement n).pending = s.pending := by
  simp [State.countSettlement]

@[simp] theorem State.settle_frame (s : State) (i : SlotId) (x : Settlement) :
    (s.settle i x).lif = s.lif ∧
    (s.settle i x).rcc = s.rcc ∧
    (s.settle i x).tariff = s.tariff ∧
    (s.settle i x).xfer = s.xfer ∧
    (s.settle i x).lanes = s.lanes ∧
    (s.settle i x).ae = s.ae ∧
    (s.settle i x).pbl = s.pbl ∧
    (s.settle i x).rfc = s.rfc ∧
    (s.settle i x).pending = s.pending := by
  simp [State.settle]

@[simp] theorem State.handOver_frame (s : State) (c : Computation) :
    (s.handOver c).lif = s.lif ∧
    (s.handOver c).rcc = s.rcc ∧
    (s.handOver c).tariff = s.tariff ∧
    (s.handOver c).passes = s.passes ∧
    (s.handOver c).xfer = s.xfer ∧
    (s.handOver c).lanes = s.lanes ∧
    (s.handOver c).ae = s.ae ∧
    (s.handOver c).pbl = s.pbl ∧
    (s.handOver c).tally = s.tally ∧
    (s.handOver c).rfc = s.rfc ∧
    (s.handOver c).journal = s.journal ∧
    (s.handOver c).pending = s.pending := by
  unfold State.handOver; split <;> simp

@[simp] theorem State.completeComputation_frame (s : State) :
    (s.completeComputation).lif = s.lif ∧
    (s.completeComputation).rcc = s.rcc ∧
    (s.completeComputation).tariff = s.tariff ∧
    (s.completeComputation).passes = s.passes ∧
    (s.completeComputation).xfer = s.xfer ∧
    (s.completeComputation).lanes = s.lanes ∧
    (s.completeComputation).ae = s.ae ∧
    (s.completeComputation).pbl = s.pbl ∧
    (s.completeComputation).tally = s.tally ∧
    (s.completeComputation).journal = s.journal ∧
    (s.completeComputation).pending = s.pending := by
  unfold State.completeComputation; split <;> simp

end Sys2Proof.Machine
end

