-- ==== Sys2Proof/Laws/FrameAdmission.lean ====
section
/-!
SUPPORT. What the operations of the lane units, the admission and the riders leave as it was: one lemma for each, the blocks it does not name unchanged.
-/

namespace Sys2Proof.Machine

@[simp] theorem State.submit_frame (s : State) (l : LaneId) (p : Nat) (k : RequestClass) :
    (s.submit l p k).lif = s.lif ∧
    (s.submit l p k).rcc = s.rcc ∧
    (s.submit l p k).tariff = s.tariff ∧
    (s.submit l p k).passes = s.passes ∧
    (s.submit l p k).xfer = s.xfer ∧
    (s.submit l p k).lanes = s.lanes ∧
    (s.submit l p k).pbl = s.pbl ∧
    (s.submit l p k).tally = s.tally ∧
    (s.submit l p k).rfc = s.rfc ∧
    (s.submit l p k).quotes = s.quotes ∧
    (s.submit l p k).journal = s.journal ∧
    (s.submit l p k).notices = s.notices ∧
    (s.submit l p k).pending = s.pending := by
  simp [State.submit]

@[simp] theorem State.leaveSet_frame (s : State) (l : LaneId) :
    (s.leaveSet l).lif = s.lif ∧
    (s.leaveSet l).rcc = s.rcc ∧
    (s.leaveSet l).tariff = s.tariff ∧
    (s.leaveSet l).passes = s.passes ∧
    (s.leaveSet l).xfer = s.xfer ∧
    (s.leaveSet l).lanes = s.lanes ∧
    (s.leaveSet l).pbl = s.pbl ∧
    (s.leaveSet l).tally = s.tally ∧
    (s.leaveSet l).rfc = s.rfc ∧
    (s.leaveSet l).quotes = s.quotes ∧
    (s.leaveSet l).journal = s.journal ∧
    (s.leaveSet l).notices = s.notices ∧
    (s.leaveSet l).pending = s.pending := by
  simp [State.leaveSet]

@[simp] theorem State.admitPass_frame (s : State) (l : LaneId) (p : Nat) :
    (s.admitPass l p).lif = s.lif ∧
    (s.admitPass l p).rcc = s.rcc ∧
    (s.admitPass l p).tariff = s.tariff ∧
    (s.admitPass l p).xfer = s.xfer ∧
    (s.admitPass l p).ae = s.ae ∧
    (s.admitPass l p).rfc = s.rfc ∧
    (s.admitPass l p).quotes = s.quotes ∧
    (s.admitPass l p).journal = s.journal ∧
    (s.admitPass l p).notices = s.notices ∧
    (s.admitPass l p).pending = s.pending := by
  simp [State.admitPass]

@[simp] theorem State.gateDecision_frame (s : State) (l : LaneId) (p : Nat) :
    (s.gateDecision l p).lif = s.lif ∧
    (s.gateDecision l p).rcc = s.rcc ∧
    (s.gateDecision l p).tariff = s.tariff ∧
    (s.gateDecision l p).xfer = s.xfer ∧
    (s.gateDecision l p).ae = s.ae ∧
    (s.gateDecision l p).rfc = s.rfc ∧
    (s.gateDecision l p).quotes = s.quotes ∧
    (s.gateDecision l p).pending = s.pending := by
  unfold State.gateDecision; split <;> simp

@[simp] theorem State.testDecision_frame (s : State) (l : LaneId) (p : Nat) (t : Byte) :
    (s.testDecision l p t).rcc = s.rcc ∧
    (s.testDecision l p t).tariff = s.tariff ∧
    (s.testDecision l p t).passes = s.passes ∧
    (s.testDecision l p t).xfer = s.xfer ∧
    (s.testDecision l p t).ae = s.ae ∧
    (s.testDecision l p t).pbl = s.pbl ∧
    (s.testDecision l p t).rfc = s.rfc ∧
    (s.testDecision l p t).quotes = s.quotes ∧
    (s.testDecision l p t).pending = s.pending := by
  simp [State.testDecision]

@[simp] theorem State.autoQuote_frame (s : State) (l : LaneId) (p : Nat) :
    (s.autoQuote l p).1.lif = s.lif ∧
    (s.autoQuote l p).1.rcc = s.rcc ∧
    (s.autoQuote l p).1.tariff = s.tariff ∧
    (s.autoQuote l p).1.xfer = s.xfer ∧
    (s.autoQuote l p).1.lanes = s.lanes ∧
    (s.autoQuote l p).1.ae = s.ae ∧
    (s.autoQuote l p).1.pbl = s.pbl ∧
    (s.autoQuote l p).1.tally = s.tally ∧
    (s.autoQuote l p).1.journal = s.journal ∧
    (s.autoQuote l p).1.notices = s.notices ∧
    (s.autoQuote l p).1.pending = s.pending := by
  unfold State.autoQuote; (repeat' split) <;> simp

@[simp] theorem State.serveLookup_frame (s : State) (l : LaneId) (r : LookupResult) :
    (s.serveLookup l r).lif = s.lif ∧
    (s.serveLookup l r).rcc = s.rcc ∧
    (s.serveLookup l r).tariff = s.tariff ∧
    (s.serveLookup l r).xfer = s.xfer ∧
    (s.serveLookup l r).ae = s.ae ∧
    (s.serveLookup l r).pbl = s.pbl ∧
    (s.serveLookup l r).journal = s.journal ∧
    (s.serveLookup l r).pending = s.pending := by
  simp [State.serveLookup]

@[simp] theorem State.deskDecision_frame (s : State) (l : LaneId) (p : Nat) :
    (s.deskDecision l p).lif = s.lif ∧
    (s.deskDecision l p).rcc = s.rcc ∧
    (s.deskDecision l p).tariff = s.tariff ∧
    (s.deskDecision l p).xfer = s.xfer ∧
    (s.deskDecision l p).ae = s.ae ∧
    (s.deskDecision l p).pbl = s.pbl ∧
    (s.deskDecision l p).pending = s.pending := by
  unfold State.deskDecision; split <;> simp

@[simp] theorem State.evaluate_frame (s : State) (l : LaneId) (r : LaneRequest) :
    (s.evaluate l r).rcc = s.rcc ∧
    (s.evaluate l r).tariff = s.tariff ∧
    (s.evaluate l r).xfer = s.xfer ∧
    (s.evaluate l r).ae = s.ae ∧
    (s.evaluate l r).pending = s.pending := by
  unfold State.evaluate; split <;> simp

@[simp] theorem State.grant_frame (s : State) :
    (s.grant).rcc = s.rcc ∧
    (s.grant).tariff = s.tariff ∧
    (s.grant).xfer = s.xfer ∧
    (s.grant).pending = s.pending := by
  unfold State.grant; (repeat' split) <;> simp

@[simp] theorem State.countPaid_frame (s : State) (l : LaneId) (b : Bool) :
    (s.countPaid l b).lif = s.lif ∧
    (s.countPaid l b).rcc = s.rcc ∧
    (s.countPaid l b).tariff = s.tariff ∧
    (s.countPaid l b).passes = s.passes ∧
    (s.countPaid l b).xfer = s.xfer ∧
    (s.countPaid l b).lanes = s.lanes ∧
    (s.countPaid l b).ae = s.ae ∧
    (s.countPaid l b).pbl = s.pbl ∧
    (s.countPaid l b).rfc = s.rfc ∧
    (s.countPaid l b).quotes = s.quotes ∧
    (s.countPaid l b).journal = s.journal ∧
    (s.countPaid l b).notices = s.notices ∧
    (s.countPaid l b).pending = s.pending := by
  unfold State.countPaid; dsimp only; split <;> simp

@[simp] theorem State.commitEntry_frame (s : State) (l : LaneId) (e : PassEntry) (m : AdmissionMarker) :
    (s.commitEntry l e m).lif = s.lif ∧
    (s.commitEntry l e m).rcc = s.rcc ∧
    (s.commitEntry l e m).tariff = s.tariff ∧
    (s.commitEntry l e m).xfer = s.xfer ∧
    (s.commitEntry l e m).lanes = s.lanes ∧
    (s.commitEntry l e m).ae = s.ae ∧
    (s.commitEntry l e m).rfc = s.rfc ∧
    (s.commitEntry l e m).quotes = s.quotes ∧
    (s.commitEntry l e m).pending = s.pending := by
  simp [State.commitEntry]

@[simp] theorem State.paidRotation_frame (s : State) (l : LaneId) :
    (s.paidRotation l).lif = s.lif ∧
    (s.paidRotation l).rcc = s.rcc ∧
    (s.paidRotation l).tariff = s.tariff ∧
    (s.paidRotation l).xfer = s.xfer ∧
    (s.paidRotation l).ae = s.ae ∧
    (s.paidRotation l).rfc = s.rfc ∧
    (s.paidRotation l).quotes = s.quotes ∧
    (s.paidRotation l).pending = s.pending := by
  unfold State.paidRotation; split <;> simp

@[simp] theorem State.freeRotation_frame (s : State) (l : LaneId) :
    (s.freeRotation l).lif = s.lif ∧
    (s.freeRotation l).rcc = s.rcc ∧
    (s.freeRotation l).tariff = s.tariff ∧
    (s.freeRotation l).passes = s.passes ∧
    (s.freeRotation l).xfer = s.xfer ∧
    (s.freeRotation l).ae = s.ae ∧
    (s.freeRotation l).pbl = s.pbl ∧
    (s.freeRotation l).rfc = s.rfc ∧
    (s.freeRotation l).quotes = s.quotes ∧
    (s.freeRotation l).pending = s.pending := by
  simp [State.freeRotation]

@[simp] theorem State.forcedRotation_frame (s : State) (l : LaneId) :
    (s.forcedRotation l).lif = s.lif ∧
    (s.forcedRotation l).rcc = s.rcc ∧
    (s.forcedRotation l).tariff = s.tariff ∧
    (s.forcedRotation l).passes = s.passes ∧
    (s.forcedRotation l).xfer = s.xfer ∧
    (s.forcedRotation l).ae = s.ae ∧
    (s.forcedRotation l).pbl = s.pbl ∧
    (s.forcedRotation l).rfc = s.rfc ∧
    (s.forcedRotation l).quotes = s.quotes ∧
    (s.forcedRotation l).pending = s.pending := by
  simp [State.forcedRotation]

@[simp] theorem State.rotate_frame (s : State) (l : LaneId) :
    (s.rotate l).lif = s.lif ∧
    (s.rotate l).rcc = s.rcc ∧
    (s.rotate l).tariff = s.tariff ∧
    (s.rotate l).xfer = s.xfer ∧
    (s.rotate l).ae = s.ae ∧
    (s.rotate l).rfc = s.rfc ∧
    (s.rotate l).quotes = s.quotes ∧
    (s.rotate l).pending = s.pending := by
  unfold State.rotate; (repeat' split) <;> simp

@[simp] theorem State.setArm_frame (s : State) (l : LaneId) (v : ArmOverride) :
    (s.setArm l v).rcc = s.rcc ∧
    (s.setArm l v).tariff = s.tariff ∧
    (s.setArm l v).xfer = s.xfer ∧
    (s.setArm l v).rfc = s.rfc ∧
    (s.setArm l v).quotes = s.quotes ∧
    (s.setArm l v).pending = s.pending := by
  unfold State.setArm; split; · simp
  · (dsimp only; split <;> simp)

@[simp] theorem State.changeRole_frame (s : State) (f : LaneFields) :
    (s.changeRole f).rcc = s.rcc ∧
    (s.changeRole f).tariff = s.tariff ∧
    (s.changeRole f).passes = s.passes ∧
    (s.changeRole f).xfer = s.xfer ∧
    (s.changeRole f).pbl = s.pbl ∧
    (s.changeRole f).tally = s.tally ∧
    (s.changeRole f).rfc = s.rfc ∧
    (s.changeRole f).quotes = s.quotes ∧
    (s.changeRole f).pending = s.pending := by
  unfold State.changeRole; dsimp only; split <;> simp

@[simp] theorem State.keepRole_frame (s : State) (f : LaneFields) :
    (s.keepRole f).lif = s.lif ∧
    (s.keepRole f).rcc = s.rcc ∧
    (s.keepRole f).tariff = s.tariff ∧
    (s.keepRole f).passes = s.passes ∧
    (s.keepRole f).xfer = s.xfer ∧
    (s.keepRole f).ae = s.ae ∧
    (s.keepRole f).pbl = s.pbl ∧
    (s.keepRole f).tally = s.tally ∧
    (s.keepRole f).rfc = s.rfc ∧
    (s.keepRole f).quotes = s.quotes ∧
    (s.keepRole f).journal = s.journal ∧
    (s.keepRole f).notices = s.notices ∧
    (s.keepRole f).pending = s.pending := by
  simp [State.keepRole]

@[simp] theorem State.configureLane_frame (s : State) (f : LaneFields) :
    (s.configureLane f).rcc = s.rcc ∧
    (s.configureLane f).tariff = s.tariff ∧
    (s.configureLane f).passes = s.passes ∧
    (s.configureLane f).xfer = s.xfer ∧
    (s.configureLane f).pbl = s.pbl ∧
    (s.configureLane f).tally = s.tally ∧
    (s.configureLane f).rfc = s.rfc ∧
    (s.configureLane f).quotes = s.quotes ∧
    (s.configureLane f).pending = s.pending := by
  unfold State.configureLane; split <;> simp

@[simp] theorem State.discardRead_frame (s : State) (l : LaneId) :
    (s.discardRead l).lif = s.lif ∧
    (s.discardRead l).rcc = s.rcc ∧
    (s.discardRead l).tariff = s.tariff ∧
    (s.discardRead l).passes = s.passes ∧
    (s.discardRead l).xfer = s.xfer ∧
    (s.discardRead l).ae = s.ae ∧
    (s.discardRead l).pbl = s.pbl ∧
    (s.discardRead l).tally = s.tally ∧
    (s.discardRead l).rfc = s.rfc ∧
    (s.discardRead l).quotes = s.quotes ∧
    (s.discardRead l).journal = s.journal ∧
    (s.discardRead l).notices = s.notices ∧
    (s.discardRead l).pending = s.pending := by
  simp [State.discardRead]

@[simp] theorem State.readyRead_frame (s : State) (l : LaneId) (k : RequestClass) (p : Option Nat) :
    (s.readyRead l k p).lif = s.lif ∧
    (s.readyRead l k p).rcc = s.rcc ∧
    (s.readyRead l k p).tariff = s.tariff ∧
    (s.readyRead l k p).passes = s.passes ∧
    (s.readyRead l k p).xfer = s.xfer ∧
    (s.readyRead l k p).pbl = s.pbl ∧
    (s.readyRead l k p).rfc = s.rfc ∧
    (s.readyRead l k p).quotes = s.quotes ∧
    (s.readyRead l k p).pending = s.pending := by
  unfold State.readyRead; split <;> simp

@[simp] theorem State.gateRead_frame (s : State) (l : LaneId) (p : Option Nat) :
    (s.gateRead l p).lif = s.lif ∧
    (s.gateRead l p).rcc = s.rcc ∧
    (s.gateRead l p).tariff = s.tariff ∧
    (s.gateRead l p).passes = s.passes ∧
    (s.gateRead l p).xfer = s.xfer ∧
    (s.gateRead l p).pbl = s.pbl ∧
    (s.gateRead l p).rfc = s.rfc ∧
    (s.gateRead l p).quotes = s.quotes ∧
    (s.gateRead l p).pending = s.pending := by
  unfold State.gateRead; (repeat' split) <;> simp

@[simp] theorem State.deskRead_frame (s : State) (l : LaneId) (p : Option Nat) :
    (s.deskRead l p).lif = s.lif ∧
    (s.deskRead l p).rcc = s.rcc ∧
    (s.deskRead l p).tariff = s.tariff ∧
    (s.deskRead l p).passes = s.passes ∧
    (s.deskRead l p).xfer = s.xfer ∧
    (s.deskRead l p).pbl = s.pbl ∧
    (s.deskRead l p).rfc = s.rfc ∧
    (s.deskRead l p).quotes = s.quotes ∧
    (s.deskRead l p).pending = s.pending := by
  unfold State.deskRead; (repeat' split) <;> simp

@[simp] theorem State.read_frame (s : State) (l : LaneId) (p : Option Nat) :
    (s.read l p).lif = s.lif ∧
    (s.read l p).rcc = s.rcc ∧
    (s.read l p).tariff = s.tariff ∧
    (s.read l p).passes = s.passes ∧
    (s.read l p).xfer = s.xfer ∧
    (s.read l p).pbl = s.pbl ∧
    (s.read l p).rfc = s.rfc ∧
    (s.read l p).quotes = s.quotes ∧
    (s.read l p).pending = s.pending := by
  unfold State.read; split <;> simp

@[simp] theorem State.pollSilent_frame (s : State) (l : LaneId) :
    (s.pollSilent l).rcc = s.rcc ∧
    (s.pollSilent l).tariff = s.tariff ∧
    (s.pollSilent l).xfer = s.xfer ∧
    (s.pollSilent l).rfc = s.rfc ∧
    (s.pollSilent l).quotes = s.quotes ∧
    (s.pollSilent l).pending = s.pending := by
  unfold State.pollSilent; dsimp only; split <;> simp

@[simp] theorem State.pollHealthy_frame (s : State) (l : LaneId) :
    (s.pollHealthy l).lif = s.lif ∧
    (s.pollHealthy l).rcc = s.rcc ∧
    (s.pollHealthy l).tariff = s.tariff ∧
    (s.pollHealthy l).passes = s.passes ∧
    (s.pollHealthy l).xfer = s.xfer ∧
    (s.pollHealthy l).ae = s.ae ∧
    (s.pollHealthy l).pbl = s.pbl ∧
    (s.pollHealthy l).tally = s.tally ∧
    (s.pollHealthy l).rfc = s.rfc ∧
    (s.pollHealthy l).quotes = s.quotes ∧
    (s.pollHealthy l).journal = s.journal ∧
    (s.pollHealthy l).notices = s.notices ∧
    (s.pollHealthy l).pending = s.pending := by
  simp [State.pollHealthy]

@[simp] theorem State.poll_frame (s : State) (l : LaneId) (o : PollOutcome) :
    (s.poll l o).rcc = s.rcc ∧
    (s.poll l o).tariff = s.tariff ∧
    (s.poll l o).xfer = s.xfer ∧
    (s.poll l o).rfc = s.rfc ∧
    (s.poll l o).quotes = s.quotes ∧
    (s.poll l o).pending = s.pending := by
  unfold State.poll; split <;> simp

@[simp] theorem State.beamStuckExpiry_frame (s : State) (l : LaneId) (bm : Beam) :
    (s.beamStuckExpiry l bm).rcc = s.rcc ∧
    (s.beamStuckExpiry l bm).tariff = s.tariff ∧
    (s.beamStuckExpiry l bm).xfer = s.xfer ∧
    (s.beamStuckExpiry l bm).rfc = s.rfc ∧
    (s.beamStuckExpiry l bm).quotes = s.quotes ∧
    (s.beamStuckExpiry l bm).pending = s.pending := by
  unfold State.beamStuckExpiry; split <;> simp

@[simp] theorem State.armStuckExpiry_frame (s : State) (l : LaneId) :
    (s.armStuckExpiry l).rcc = s.rcc ∧
    (s.armStuckExpiry l).tariff = s.tariff ∧
    (s.armStuckExpiry l).xfer = s.xfer ∧
    (s.armStuckExpiry l).rfc = s.rfc ∧
    (s.armStuckExpiry l).quotes = s.quotes ∧
    (s.armStuckExpiry l).pending = s.pending := by
  unfold State.armStuckExpiry; split <;> simp

@[simp] theorem State.gateBeamChange_frame (s : State) (l : LaneId) (bm : Beam) (v : Bool) :
    (s.gateBeamChange l bm v).lif = s.lif ∧
    (s.gateBeamChange l bm v).rcc = s.rcc ∧
    (s.gateBeamChange l bm v).tariff = s.tariff ∧
    (s.gateBeamChange l bm v).passes = s.passes ∧
    (s.gateBeamChange l bm v).xfer = s.xfer ∧
    (s.gateBeamChange l bm v).ae = s.ae ∧
    (s.gateBeamChange l bm v).pbl = s.pbl ∧
    (s.gateBeamChange l bm v).rfc = s.rfc ∧
    (s.gateBeamChange l bm v).quotes = s.quotes ∧
    (s.gateBeamChange l bm v).pending = s.pending := by
  unfold State.gateBeamChange; dsimp only; split <;> simp

@[simp] theorem State.beamChange_frame (s : State) (l : LaneId) (bm : Beam) (v : Bool) :
    (s.beamChange l bm v).lif = s.lif ∧
    (s.beamChange l bm v).rcc = s.rcc ∧
    (s.beamChange l bm v).tariff = s.tariff ∧
    (s.beamChange l bm v).passes = s.passes ∧
    (s.beamChange l bm v).xfer = s.xfer ∧
    (s.beamChange l bm v).ae = s.ae ∧
    (s.beamChange l bm v).pbl = s.pbl ∧
    (s.beamChange l bm v).rfc = s.rfc ∧
    (s.beamChange l bm v).quotes = s.quotes ∧
    (s.beamChange l bm v).pending = s.pending := by
  unfold State.beamChange; (repeat' split) <;> simp

@[simp] theorem State.matchExpiry_frame (s : State) (l : LaneId) (k : MatchList) (n : Nat) :
    (s.matchExpiry l k n).lif = s.lif ∧
    (s.matchExpiry l k n).rcc = s.rcc ∧
    (s.matchExpiry l k n).tariff = s.tariff ∧
    (s.matchExpiry l k n).passes = s.passes ∧
    (s.matchExpiry l k n).xfer = s.xfer ∧
    (s.matchExpiry l k n).ae = s.ae ∧
    (s.matchExpiry l k n).pbl = s.pbl ∧
    (s.matchExpiry l k n).rfc = s.rfc ∧
    (s.matchExpiry l k n).quotes = s.quotes ∧
    (s.matchExpiry l k n).pending = s.pending := by
  unfold State.matchExpiry; (repeat' split) <;> simp

end Sys2Proof.Machine
end

