-- ==== Sys2Proof/Laws/FrameClock.lean ====
section
/-!
SUPPORT. What the operations of the clock, the modes and the restart leave as it was: one lemma for each, the blocks it does not name unchanged.
-/

namespace Sys2Proof.Machine

@[simp] theorem State.setClockTo_frame (s : State) (c : ClockState) (d n : Nat) :
    (s.setClockTo c d n).lif = s.lif ∧
    (s.setClockTo c d n).tariff = s.tariff ∧
    (s.setClockTo c d n).passes = s.passes ∧
    (s.setClockTo c d n).xfer = s.xfer ∧
    (s.setClockTo c d n).lanes = s.lanes ∧
    (s.setClockTo c d n).ae = s.ae ∧
    (s.setClockTo c d n).pbl = s.pbl ∧
    (s.setClockTo c d n).tally = s.tally ∧
    (s.setClockTo c d n).rfc = s.rfc ∧
    (s.setClockTo c d n).quotes = s.quotes ∧
    (s.setClockTo c d n).journal = s.journal ∧
    (s.setClockTo c d n).notices = s.notices ∧
    (s.setClockTo c d n).pending = s.pending := by
  simp [State.setClockTo]

@[simp] theorem State.moveTally_frame (s : State) (d : Nat) :
    (s.moveTally d).lif = s.lif ∧
    (s.moveTally d).rcc = s.rcc ∧
    (s.moveTally d).tariff = s.tariff ∧
    (s.moveTally d).passes = s.passes ∧
    (s.moveTally d).xfer = s.xfer ∧
    (s.moveTally d).lanes = s.lanes ∧
    (s.moveTally d).ae = s.ae ∧
    (s.moveTally d).pbl = s.pbl ∧
    (s.moveTally d).rfc = s.rfc ∧
    (s.moveTally d).quotes = s.quotes ∧
    (s.moveTally d).pending = s.pending := by
  simp [State.moveTally]

@[simp] theorem State.announceDay_frame (s : State) (d : Nat) :
    (s.announceDay d).lif = s.lif ∧
    (s.announceDay d).rcc = s.rcc ∧
    (s.announceDay d).tariff = s.tariff ∧
    (s.announceDay d).passes = s.passes ∧
    (s.announceDay d).xfer = s.xfer ∧
    (s.announceDay d).lanes = s.lanes ∧
    (s.announceDay d).ae = s.ae ∧
    (s.announceDay d).rfc = s.rfc ∧
    (s.announceDay d).quotes = s.quotes ∧
    (s.announceDay d).pending = s.pending := by
  simp [State.announceDay]

@[simp] theorem State.rollOver_frame (s : State) :
    (s.rollOver).lif = s.lif ∧
    (s.rollOver).tariff = s.tariff ∧
    (s.rollOver).passes = s.passes ∧
    (s.rollOver).xfer = s.xfer ∧
    (s.rollOver).lanes = s.lanes ∧
    (s.rollOver).ae = s.ae ∧
    (s.rollOver).rfc = s.rfc ∧
    (s.rollOver).quotes = s.quotes ∧
    (s.rollOver).pending = s.pending := by
  simp [State.rollOver]

@[simp] theorem State.endSeason_frame (s : State) :
    (s.endSeason).lif = s.lif ∧
    (s.endSeason).tariff = s.tariff ∧
    (s.endSeason).xfer = s.xfer ∧
    (s.endSeason).ae = s.ae ∧
    (s.endSeason).rfc = s.rfc ∧
    (s.endSeason).quotes = s.quotes ∧
    (s.endSeason).pending = s.pending := by
  simp [State.endSeason]

@[simp] theorem State.advanceSecond_frame (s : State) :
    (s.advanceSecond).lif = s.lif ∧
    (s.advanceSecond).tariff = s.tariff ∧
    (s.advanceSecond).xfer = s.xfer ∧
    (s.advanceSecond).ae = s.ae ∧
    (s.advanceSecond).pending = s.pending := by
  unfold State.advanceSecond; (repeat' split) <;> simp

@[simp] theorem State.changeMode_frame (s : State) (m : Mode) (c : ModeCause) :
    (s.changeMode m c).lif = s.lif ∧
    (s.changeMode m c).tariff = s.tariff ∧
    (s.changeMode m c).passes = s.passes ∧
    (s.changeMode m c).xfer = s.xfer ∧
    (s.changeMode m c).lanes = s.lanes ∧
    (s.changeMode m c).ae = s.ae ∧
    (s.changeMode m c).pbl = s.pbl ∧
    (s.changeMode m c).tally = s.tally ∧
    (s.changeMode m c).rfc = s.rfc ∧
    (s.changeMode m c).quotes = s.quotes ∧
    (s.changeMode m c).pending = s.pending := by
  simp [State.changeMode]

@[simp] theorem State.changeLift_frame (s : State) (v : LiftStatus) :
    (s.changeLift v).lif = s.lif ∧
    (s.changeLift v).tariff = s.tariff ∧
    (s.changeLift v).xfer = s.xfer ∧
    (s.changeLift v).ae = s.ae ∧
    (s.changeLift v).rfc = s.rfc ∧
    (s.changeLift v).quotes = s.quotes ∧
    (s.changeLift v).pending = s.pending := by
  unfold State.changeLift; dsimp only; split <;> simp

@[simp] theorem State.restartLift_frame (s : State) :
    (s.restartLift).lif = s.lif ∧
    (s.restartLift).tariff = s.tariff ∧
    (s.restartLift).passes = s.passes ∧
    (s.restartLift).xfer = s.xfer ∧
    (s.restartLift).lanes = s.lanes ∧
    (s.restartLift).ae = s.ae ∧
    (s.restartLift).pbl = s.pbl ∧
    (s.restartLift).tally = s.tally ∧
    (s.restartLift).rfc = s.rfc ∧
    (s.restartLift).quotes = s.quotes ∧
    (s.restartLift).pending = s.pending := by
  unfold State.restartLift; split <;> simp

@[simp] theorem State.warmRestart_frame (s : State) :
    (s.warmRestart).tariff = s.tariff ∧
    (s.warmRestart).pending = s.pending := by
  simp [State.warmRestart, fourInOrder]

end Sys2Proof.Machine
end

