-- ==== Sys2Proof/Laws/FrameLine.lean ====
section
/-!
SUPPORT. What the operations of the line leave as it was: one lemma for each, the blocks it does not name unchanged.
-/

namespace Sys2Proof.Machine

@[simp] theorem State.frameComplete_frame (s : State) (cs : List Byte) :
    (s.frameComplete cs).1.rcc = s.rcc ∧
    (s.frameComplete cs).1.tariff = s.tariff ∧
    (s.frameComplete cs).1.passes = s.passes ∧
    (s.frameComplete cs).1.xfer = s.xfer ∧
    (s.frameComplete cs).1.lanes = s.lanes ∧
    (s.frameComplete cs).1.ae = s.ae ∧
    (s.frameComplete cs).1.pbl = s.pbl ∧
    (s.frameComplete cs).1.tally = s.tally ∧
    (s.frameComplete cs).1.rfc = s.rfc ∧
    (s.frameComplete cs).1.quotes = s.quotes ∧
    (s.frameComplete cs).1.journal = s.journal ∧
    (s.frameComplete cs).1.notices = s.notices ∧
    (s.frameComplete cs).1.pending = s.pending := by
  unfold State.frameComplete; dsimp only; split <;> simp [State.setReceiver, State.flagCheckError]

@[simp] theorem State.examineOne_frame (s : State) (c : Byte) :
    (s.examineOne c).1.rcc = s.rcc ∧
    (s.examineOne c).1.tariff = s.tariff ∧
    (s.examineOne c).1.passes = s.passes ∧
    (s.examineOne c).1.xfer = s.xfer ∧
    (s.examineOne c).1.lanes = s.lanes ∧
    (s.examineOne c).1.ae = s.ae ∧
    (s.examineOne c).1.pbl = s.pbl ∧
    (s.examineOne c).1.tally = s.tally ∧
    (s.examineOne c).1.rfc = s.rfc ∧
    (s.examineOne c).1.quotes = s.quotes ∧
    (s.examineOne c).1.journal = s.journal ∧
    (s.examineOne c).1.notices = s.notices ∧
    (s.examineOne c).1.pending = s.pending := by
  unfold State.examineOne; dsimp only; (repeat' split) <;> simp [State.setReceiver]

@[simp] theorem State.examineAll_frame (n : Nat) (cs : List Byte) (s : State) :
    (State.examineAll n cs s).rcc = s.rcc ∧
    (State.examineAll n cs s).tariff = s.tariff ∧
    (State.examineAll n cs s).passes = s.passes ∧
    (State.examineAll n cs s).xfer = s.xfer ∧
    (State.examineAll n cs s).lanes = s.lanes ∧
    (State.examineAll n cs s).ae = s.ae ∧
    (State.examineAll n cs s).pbl = s.pbl ∧
    (State.examineAll n cs s).tally = s.tally ∧
    (State.examineAll n cs s).rfc = s.rfc ∧
    (State.examineAll n cs s).quotes = s.quotes ∧
    (State.examineAll n cs s).journal = s.journal ∧
    (State.examineAll n cs s).notices = s.notices ∧
    (State.examineAll n cs s).pending = s.pending := by
  induction n generalizing cs s with
  | zero => simp [State.examineAll]
  | succ n ih =>
    cases cs with
    | nil => simp [State.examineAll]
    | cons c cs => simp only [State.examineAll, ih]; simp

@[simp] theorem State.setReceiver_frame (s : State) (r : Receiver) :
    (s.setReceiver r).rcc = s.rcc ∧
    (s.setReceiver r).tariff = s.tariff ∧
    (s.setReceiver r).passes = s.passes ∧
    (s.setReceiver r).xfer = s.xfer ∧
    (s.setReceiver r).lanes = s.lanes ∧
    (s.setReceiver r).ae = s.ae ∧
    (s.setReceiver r).pbl = s.pbl ∧
    (s.setReceiver r).tally = s.tally ∧
    (s.setReceiver r).rfc = s.rfc ∧
    (s.setReceiver r).quotes = s.quotes ∧
    (s.setReceiver r).journal = s.journal ∧
    (s.setReceiver r).notices = s.notices ∧
    (s.setReceiver r).pending = s.pending := by
  simp [State.setReceiver]

@[simp] theorem State.flagCheckError_frame (s : State) :
    (s.flagCheckError).rcc = s.rcc ∧
    (s.flagCheckError).tariff = s.tariff ∧
    (s.flagCheckError).passes = s.passes ∧
    (s.flagCheckError).xfer = s.xfer ∧
    (s.flagCheckError).lanes = s.lanes ∧
    (s.flagCheckError).ae = s.ae ∧
    (s.flagCheckError).pbl = s.pbl ∧
    (s.flagCheckError).tally = s.tally ∧
    (s.flagCheckError).rfc = s.rfc ∧
    (s.flagCheckError).quotes = s.quotes ∧
    (s.flagCheckError).journal = s.journal ∧
    (s.flagCheckError).notices = s.notices ∧
    (s.flagCheckError).pending = s.pending := by
  simp [State.flagCheckError]

@[simp] theorem State.answerBadFormat_frame (s : State) (k t : Byte) :
    (s.answerBadFormat k t).rcc = s.rcc ∧
    (s.answerBadFormat k t).tariff = s.tariff ∧
    (s.answerBadFormat k t).passes = s.passes ∧
    (s.answerBadFormat k t).xfer = s.xfer ∧
    (s.answerBadFormat k t).lanes = s.lanes ∧
    (s.answerBadFormat k t).ae = s.ae ∧
    (s.answerBadFormat k t).pbl = s.pbl ∧
    (s.answerBadFormat k t).tally = s.tally ∧
    (s.answerBadFormat k t).rfc = s.rfc ∧
    (s.answerBadFormat k t).quotes = s.quotes ∧
    (s.answerBadFormat k t).journal = s.journal ∧
    (s.answerBadFormat k t).notices = s.notices ∧
    (s.answerBadFormat k t).pending = s.pending := by
  simp [State.answerBadFormat]

@[simp] theorem State.receive_frame (s : State) (c : Byte) :
    (s.receive c).rcc = s.rcc ∧
    (s.receive c).tariff = s.tariff ∧
    (s.receive c).passes = s.passes ∧
    (s.receive c).xfer = s.xfer ∧
    (s.receive c).lanes = s.lanes ∧
    (s.receive c).ae = s.ae ∧
    (s.receive c).pbl = s.pbl ∧
    (s.receive c).tally = s.tally ∧
    (s.receive c).rfc = s.rfc ∧
    (s.receive c).quotes = s.quotes ∧
    (s.receive c).journal = s.journal ∧
    (s.receive c).notices = s.notices ∧
    (s.receive c).pending = s.pending := by
  unfold State.receive; simp

@[simp] theorem State.gapExpiry_frame (s : State) :
    (s.gapExpiry).rcc = s.rcc ∧
    (s.gapExpiry).tariff = s.tariff ∧
    (s.gapExpiry).passes = s.passes ∧
    (s.gapExpiry).xfer = s.xfer ∧
    (s.gapExpiry).lanes = s.lanes ∧
    (s.gapExpiry).ae = s.ae ∧
    (s.gapExpiry).pbl = s.pbl ∧
    (s.gapExpiry).tally = s.tally ∧
    (s.gapExpiry).rfc = s.rfc ∧
    (s.gapExpiry).quotes = s.quotes ∧
    (s.gapExpiry).journal = s.journal ∧
    (s.gapExpiry).notices = s.notices ∧
    (s.gapExpiry).pending = s.pending := by
  unfold State.gapExpiry; simp

end Sys2Proof.Machine
end

