-- ==== Sys2Proof/Laws/FrameTables.lean ====
section
/-!
SUPPORT. What the operations of the tables and the transfers leave as it was: one lemma for each, the blocks it does not name unchanged.
-/

namespace Sys2Proof.Machine

@[simp] theorem State.setProductSlot_frame (s : State) (c : Nat) (x : ProductSlot) :
    (s.setProductSlot c x).lif = s.lif ∧
    (s.setProductSlot c x).rcc = s.rcc ∧
    (s.setProductSlot c x).passes = s.passes ∧
    (s.setProductSlot c x).xfer = s.xfer ∧
    (s.setProductSlot c x).lanes = s.lanes ∧
    (s.setProductSlot c x).ae = s.ae ∧
    (s.setProductSlot c x).pbl = s.pbl ∧
    (s.setProductSlot c x).tally = s.tally ∧
    (s.setProductSlot c x).rfc = s.rfc ∧
    (s.setProductSlot c x).quotes = s.quotes ∧
    (s.setProductSlot c x).journal = s.journal ∧
    (s.setProductSlot c x).notices = s.notices ∧
    (s.setProductSlot c x).pending = s.pending := by
  simp [State.setProductSlot]

@[simp] theorem State.addPass_frame (s : State) (r : PassRecord) (st : PassStatus) :
    (s.addPass r st).lif = s.lif ∧
    (s.addPass r st).rcc = s.rcc ∧
    (s.addPass r st).tariff = s.tariff ∧
    (s.addPass r st).xfer = s.xfer ∧
    (s.addPass r st).lanes = s.lanes ∧
    (s.addPass r st).ae = s.ae ∧
    (s.addPass r st).pbl = s.pbl ∧
    (s.addPass r st).tally = s.tally ∧
    (s.addPass r st).rfc = s.rfc ∧
    (s.addPass r st).quotes = s.quotes ∧
    (s.addPass r st).journal = s.journal ∧
    (s.addPass r st).notices = s.notices ∧
    (s.addPass r st).pending = s.pending := by
  simp [State.addPass]

@[simp] theorem State.rewritePass_frame (s : State) (r : PassRecord) (st : PassStatus) :
    (s.rewritePass r st).lif = s.lif ∧
    (s.rewritePass r st).rcc = s.rcc ∧
    (s.rewritePass r st).tariff = s.tariff ∧
    (s.rewritePass r st).xfer = s.xfer ∧
    (s.rewritePass r st).lanes = s.lanes ∧
    (s.rewritePass r st).ae = s.ae ∧
    (s.rewritePass r st).pbl = s.pbl ∧
    (s.rewritePass r st).tally = s.tally ∧
    (s.rewritePass r st).rfc = s.rfc ∧
    (s.rewritePass r st).quotes = s.quotes ∧
    (s.rewritePass r st).journal = s.journal ∧
    (s.rewritePass r st).notices = s.notices ∧
    (s.rewritePass r st).pending = s.pending := by
  simp [State.rewritePass]

@[simp] theorem State.setStatus_frame (s : State) (p : Nat) (st : PassStatus) :
    (s.setStatus p st).lif = s.lif ∧
    (s.setStatus p st).rcc = s.rcc ∧
    (s.setStatus p st).tariff = s.tariff ∧
    (s.setStatus p st).xfer = s.xfer ∧
    (s.setStatus p st).lanes = s.lanes ∧
    (s.setStatus p st).ae = s.ae ∧
    (s.setStatus p st).pbl = s.pbl ∧
    (s.setStatus p st).tally = s.tally ∧
    (s.setStatus p st).rfc = s.rfc ∧
    (s.setStatus p st).quotes = s.quotes ∧
    (s.setStatus p st).journal = s.journal ∧
    (s.setStatus p st).notices = s.notices ∧
    (s.setStatus p st).pending = s.pending := by
  simp [State.setStatus]

@[simp] theorem State.markPass_frame (s : State) (p : Nat) :
    (s.markPass p).lif = s.lif ∧
    (s.markPass p).rcc = s.rcc ∧
    (s.markPass p).tariff = s.tariff ∧
    (s.markPass p).xfer = s.xfer ∧
    (s.markPass p).lanes = s.lanes ∧
    (s.markPass p).ae = s.ae ∧
    (s.markPass p).pbl = s.pbl ∧
    (s.markPass p).tally = s.tally ∧
    (s.markPass p).rfc = s.rfc ∧
    (s.markPass p).quotes = s.quotes ∧
    (s.markPass p).journal = s.journal ∧
    (s.markPass p).notices = s.notices ∧
    (s.markPass p).pending = s.pending := by
  simp [State.markPass]

@[simp] theorem State.openTransfer_frame (s : State) (m : TransferMode) (b : Bool) (n : Nat) :
    (s.openTransfer m b n).lif = s.lif ∧
    (s.openTransfer m b n).rcc = s.rcc ∧
    (s.openTransfer m b n).tariff = s.tariff ∧
    (s.openTransfer m b n).lanes = s.lanes ∧
    (s.openTransfer m b n).ae = s.ae ∧
    (s.openTransfer m b n).pbl = s.pbl ∧
    (s.openTransfer m b n).tally = s.tally ∧
    (s.openTransfer m b n).rfc = s.rfc ∧
    (s.openTransfer m b n).quotes = s.quotes ∧
    (s.openTransfer m b n).journal = s.journal ∧
    (s.openTransfer m b n).notices = s.notices ∧
    (s.openTransfer m b n).pending = s.pending := by
  unfold State.openTransfer; dsimp only; split <;> simp

@[simp] theorem State.loadEffect_frame (s : State) (r : PassRecord) (o : RecordOutcome) :
    (s.loadEffect r o).lif = s.lif ∧
    (s.loadEffect r o).rcc = s.rcc ∧
    (s.loadEffect r o).tariff = s.tariff ∧
    (s.loadEffect r o).xfer = s.xfer ∧
    (s.loadEffect r o).lanes = s.lanes ∧
    (s.loadEffect r o).ae = s.ae ∧
    (s.loadEffect r o).pbl = s.pbl ∧
    (s.loadEffect r o).tally = s.tally ∧
    (s.loadEffect r o).rfc = s.rfc ∧
    (s.loadEffect r o).quotes = s.quotes ∧
    (s.loadEffect r o).journal = s.journal ∧
    (s.loadEffect r o).notices = s.notices ∧
    (s.loadEffect r o).pending = s.pending := by
  unfold State.loadEffect; split <;> simp

@[simp] theorem State.loadRecord_frame (s : State) (r : PassRecord) :
    (s.loadRecord r).lif = s.lif ∧
    (s.loadRecord r).rcc = s.rcc ∧
    (s.loadRecord r).tariff = s.tariff ∧
    (s.loadRecord r).xfer = s.xfer ∧
    (s.loadRecord r).lanes = s.lanes ∧
    (s.loadRecord r).ae = s.ae ∧
    (s.loadRecord r).pbl = s.pbl ∧
    (s.loadRecord r).tally = s.tally ∧
    (s.loadRecord r).rfc = s.rfc ∧
    (s.loadRecord r).quotes = s.quotes ∧
    (s.loadRecord r).journal = s.journal ∧
    (s.loadRecord r).notices = s.notices ∧
    (s.loadRecord r).pending = s.pending := by
  simp [State.loadRecord]

@[simp] theorem State.loadStep_frame (s : State) (r : PassRecord) :
    (s.loadStep r).lif = s.lif ∧
    (s.loadStep r).rcc = s.rcc ∧
    (s.loadStep r).tariff = s.tariff ∧
    (s.loadStep r).lanes = s.lanes ∧
    (s.loadStep r).ae = s.ae ∧
    (s.loadStep r).pbl = s.pbl ∧
    (s.loadStep r).tally = s.tally ∧
    (s.loadStep r).rfc = s.rfc ∧
    (s.loadStep r).quotes = s.quotes ∧
    (s.loadStep r).journal = s.journal ∧
    (s.loadStep r).notices = s.notices ∧
    (s.loadStep r).pending = s.pending := by
  simp [State.loadStep]

@[simp] theorem State.verifyMark_frame (s : State) (r : PassRecord) (o : RecordOutcome) :
    (s.verifyMark r o).lif = s.lif ∧
    (s.verifyMark r o).rcc = s.rcc ∧
    (s.verifyMark r o).tariff = s.tariff ∧
    (s.verifyMark r o).xfer = s.xfer ∧
    (s.verifyMark r o).lanes = s.lanes ∧
    (s.verifyMark r o).ae = s.ae ∧
    (s.verifyMark r o).pbl = s.pbl ∧
    (s.verifyMark r o).tally = s.tally ∧
    (s.verifyMark r o).rfc = s.rfc ∧
    (s.verifyMark r o).quotes = s.quotes ∧
    (s.verifyMark r o).journal = s.journal ∧
    (s.verifyMark r o).notices = s.notices ∧
    (s.verifyMark r o).pending = s.pending := by
  unfold State.verifyMark; split <;> simp

@[simp] theorem State.verifyStep_frame (s : State) (r : PassRecord) :
    (s.verifyStep r).lif = s.lif ∧
    (s.verifyStep r).rcc = s.rcc ∧
    (s.verifyStep r).tariff = s.tariff ∧
    (s.verifyStep r).lanes = s.lanes ∧
    (s.verifyStep r).ae = s.ae ∧
    (s.verifyStep r).pbl = s.pbl ∧
    (s.verifyStep r).tally = s.tally ∧
    (s.verifyStep r).rfc = s.rfc ∧
    (s.verifyStep r).quotes = s.quotes ∧
    (s.verifyStep r).journal = s.journal ∧
    (s.verifyStep r).notices = s.notices ∧
    (s.verifyStep r).pending = s.pending := by
  simp [State.verifyStep]

@[simp] theorem State.recordStep_frame (s : State) (m : TransferMode) (r : PassRecord) :
    (s.recordStep m r).lif = s.lif ∧
    (s.recordStep m r).rcc = s.rcc ∧
    (s.recordStep m r).tariff = s.tariff ∧
    (s.recordStep m r).lanes = s.lanes ∧
    (s.recordStep m r).ae = s.ae ∧
    (s.recordStep m r).pbl = s.pbl ∧
    (s.recordStep m r).tally = s.tally ∧
    (s.recordStep m r).rfc = s.rfc ∧
    (s.recordStep m r).quotes = s.quotes ∧
    (s.recordStep m r).journal = s.journal ∧
    (s.recordStep m r).notices = s.notices ∧
    (s.recordStep m r).pending = s.pending := by
  unfold State.recordStep; split <;> simp

@[simp] theorem State.handleRecords_frame (m : TransferMode) (rs : List PassRecord) (s : State) :
    (State.handleRecords m rs s).1.lif = s.lif ∧
    (State.handleRecords m rs s).1.rcc = s.rcc ∧
    (State.handleRecords m rs s).1.tariff = s.tariff ∧
    (State.handleRecords m rs s).1.lanes = s.lanes ∧
    (State.handleRecords m rs s).1.ae = s.ae ∧
    (State.handleRecords m rs s).1.pbl = s.pbl ∧
    (State.handleRecords m rs s).1.tally = s.tally ∧
    (State.handleRecords m rs s).1.rfc = s.rfc ∧
    (State.handleRecords m rs s).1.quotes = s.quotes ∧
    (State.handleRecords m rs s).1.journal = s.journal ∧
    (State.handleRecords m rs s).1.notices = s.notices ∧
    (State.handleRecords m rs s).1.pending = s.pending := by
  induction rs generalizing s with
  | nil => simp [State.handleRecords]
  | cons r rs ih => simp [State.handleRecords, ih]

@[simp] theorem State.loadSweep_frame (s : State) :
    (s.loadSweep).lif = s.lif ∧
    (s.loadSweep).rcc = s.rcc ∧
    (s.loadSweep).tariff = s.tariff ∧
    (s.loadSweep).lanes = s.lanes ∧
    (s.loadSweep).ae = s.ae ∧
    (s.loadSweep).pbl = s.pbl ∧
    (s.loadSweep).tally = s.tally ∧
    (s.loadSweep).rfc = s.rfc ∧
    (s.loadSweep).quotes = s.quotes ∧
    (s.loadSweep).journal = s.journal ∧
    (s.loadSweep).notices = s.notices ∧
    (s.loadSweep).pending = s.pending := by
  simp [State.loadSweep]

@[simp] theorem State.verifySweep_frame (s : State) :
    (s.verifySweep).lif = s.lif ∧
    (s.verifySweep).rcc = s.rcc ∧
    (s.verifySweep).tariff = s.tariff ∧
    (s.verifySweep).passes = s.passes ∧
    (s.verifySweep).lanes = s.lanes ∧
    (s.verifySweep).ae = s.ae ∧
    (s.verifySweep).pbl = s.pbl ∧
    (s.verifySweep).tally = s.tally ∧
    (s.verifySweep).rfc = s.rfc ∧
    (s.verifySweep).quotes = s.quotes ∧
    (s.verifySweep).journal = s.journal ∧
    (s.verifySweep).notices = s.notices ∧
    (s.verifySweep).pending = s.pending := by
  simp [State.verifySweep]

@[simp] theorem State.sweep_frame (s : State) (m : TransferMode) :
    (s.sweep m).lif = s.lif ∧
    (s.sweep m).rcc = s.rcc ∧
    (s.sweep m).tariff = s.tariff ∧
    (s.sweep m).lanes = s.lanes ∧
    (s.sweep m).ae = s.ae ∧
    (s.sweep m).pbl = s.pbl ∧
    (s.sweep m).tally = s.tally ∧
    (s.sweep m).rfc = s.rfc ∧
    (s.sweep m).quotes = s.quotes ∧
    (s.sweep m).journal = s.journal ∧
    (s.sweep m).notices = s.notices ∧
    (s.sweep m).pending = s.pending := by
  unfold State.sweep; split <;> simp

@[simp] theorem State.completeTransfer_frame (s : State) (h : TransferHeader) :
    (s.completeTransfer h).lif = s.lif ∧
    (s.completeTransfer h).rcc = s.rcc ∧
    (s.completeTransfer h).tariff = s.tariff ∧
    (s.completeTransfer h).lanes = s.lanes ∧
    (s.completeTransfer h).ae = s.ae ∧
    (s.completeTransfer h).pbl = s.pbl ∧
    (s.completeTransfer h).tally = s.tally ∧
    (s.completeTransfer h).rfc = s.rfc ∧
    (s.completeTransfer h).quotes = s.quotes ∧
    (s.completeTransfer h).journal = s.journal ∧
    (s.completeTransfer h).notices = s.notices ∧
    (s.completeTransfer h).pending = s.pending := by
  unfold State.completeTransfer; dsimp only; split <;> simp

end Sys2Proof.Machine
end

