-- ==== Sys2Proof/Laws/FrameOwners.lean ====
section
/-!
SUPPORT. What the owners of the requests leave as it was: one lemma for each, the blocks it does not name unchanged.
-/

namespace Sys2Proof.Machine

@[simp] theorem State.runRequest_frame (s : State) (tag : Byte) :
    (s.runRequest tag).tariff = s.tariff ∧
    (s.runRequest tag).passes = s.passes ∧
    (s.runRequest tag).xfer = s.xfer ∧
    (s.runRequest tag).lanes = s.lanes ∧
    (s.runRequest tag).ae = s.ae ∧
    (s.runRequest tag).pbl = s.pbl ∧
    (s.runRequest tag).tally = s.tally ∧
    (s.runRequest tag).rfc = s.rfc ∧
    (s.runRequest tag).quotes = s.quotes ∧
    (s.runRequest tag).pending = s.pending := by
  unfold State.runRequest; (repeat' split) <;> simp

@[simp] theorem State.setupRequest_frame (s : State) (tag : Byte) :
    (s.setupRequest tag).tariff = s.tariff ∧
    (s.setupRequest tag).passes = s.passes ∧
    (s.setupRequest tag).xfer = s.xfer ∧
    (s.setupRequest tag).lanes = s.lanes ∧
    (s.setupRequest tag).ae = s.ae ∧
    (s.setupRequest tag).pbl = s.pbl ∧
    (s.setupRequest tag).tally = s.tally ∧
    (s.setupRequest tag).rfc = s.rfc ∧
    (s.setupRequest tag).quotes = s.quotes ∧
    (s.setupRequest tag).pending = s.pending := by
  unfold State.setupRequest; (repeat' split) <;> simp

@[simp] theorem State.setClockInSetup_frame (s : State) (d n : Nat) :
    (s.setClockInSetup d n).lif = s.lif ∧
    (s.setClockInSetup d n).tariff = s.tariff ∧
    (s.setClockInSetup d n).xfer = s.xfer ∧
    (s.setClockInSetup d n).lanes = s.lanes ∧
    (s.setClockInSetup d n).ae = s.ae ∧
    (s.setClockInSetup d n).pending = s.pending := by
  simp [State.setClockInSetup]

@[simp] theorem State.setClockInRun_frame (s : State) (d n : Nat) :
    (s.setClockInRun d n).lif = s.lif ∧
    (s.setClockInRun d n).tariff = s.tariff ∧
    (s.setClockInRun d n).xfer = s.xfer ∧
    (s.setClockInRun d n).lanes = s.lanes ∧
    (s.setClockInRun d n).ae = s.ae ∧
    (s.setClockInRun d n).pending = s.pending := by
  unfold State.setClockInRun; dsimp only; split <;> simp

@[simp] theorem State.setClockRequest_frame (s : State) (tag : Byte) (d n : Nat) :
    (s.setClockRequest tag d n).tariff = s.tariff ∧
    (s.setClockRequest tag d n).xfer = s.xfer ∧
    (s.setClockRequest tag d n).lanes = s.lanes ∧
    (s.setClockRequest tag d n).ae = s.ae ∧
    (s.setClockRequest tag d n).pending = s.pending := by
  unfold State.setClockRequest; (repeat' split) <;> simp

@[simp] theorem State.siteConfigRequest_frame (s : State) (tag : Byte) (f : SiteFields) :
    (s.siteConfigRequest tag f).tariff = s.tariff ∧
    (s.siteConfigRequest tag f).passes = s.passes ∧
    (s.siteConfigRequest tag f).xfer = s.xfer ∧
    (s.siteConfigRequest tag f).lanes = s.lanes ∧
    (s.siteConfigRequest tag f).ae = s.ae ∧
    (s.siteConfigRequest tag f).pbl = s.pbl ∧
    (s.siteConfigRequest tag f).tally = s.tally ∧
    (s.siteConfigRequest tag f).rfc = s.rfc ∧
    (s.siteConfigRequest tag f).quotes = s.quotes ∧
    (s.siteConfigRequest tag f).journal = s.journal ∧
    (s.siteConfigRequest tag f).notices = s.notices ∧
    (s.siteConfigRequest tag f).pending = s.pending := by
  unfold State.siteConfigRequest; (repeat' split) <;> simp

@[simp] theorem State.liftStatusRequest_frame (s : State) (tag : Byte) (v : Byte) :
    (s.liftStatusRequest tag v).tariff = s.tariff ∧
    (s.liftStatusRequest tag v).xfer = s.xfer ∧
    (s.liftStatusRequest tag v).ae = s.ae ∧
    (s.liftStatusRequest tag v).rfc = s.rfc ∧
    (s.liftStatusRequest tag v).quotes = s.quotes ∧
    (s.liftStatusRequest tag v).pending = s.pending := by
  unfold State.liftStatusRequest; (repeat' split) <;> simp

@[simp] theorem State.calendarMarkRequest_frame (s : State) (tag : Byte) (d : Nat) (m : Byte) :
    (s.calendarMarkRequest tag d m).tariff = s.tariff ∧
    (s.calendarMarkRequest tag d m).passes = s.passes ∧
    (s.calendarMarkRequest tag d m).xfer = s.xfer ∧
    (s.calendarMarkRequest tag d m).lanes = s.lanes ∧
    (s.calendarMarkRequest tag d m).ae = s.ae ∧
    (s.calendarMarkRequest tag d m).pbl = s.pbl ∧
    (s.calendarMarkRequest tag d m).tally = s.tally ∧
    (s.calendarMarkRequest tag d m).rfc = s.rfc ∧
    (s.calendarMarkRequest tag d m).quotes = s.quotes ∧
    (s.calendarMarkRequest tag d m).journal = s.journal ∧
    (s.calendarMarkRequest tag d m).notices = s.notices ∧
    (s.calendarMarkRequest tag d m).pending = s.pending := by
  unfold State.calendarMarkRequest; (repeat' split) <;> simp

@[simp] theorem State.passbackSetRequest_frame (s : State) (tag : Byte) (n : Nat) :
    (s.passbackSetRequest tag n).rcc = s.rcc ∧
    (s.passbackSetRequest tag n).tariff = s.tariff ∧
    (s.passbackSetRequest tag n).passes = s.passes ∧
    (s.passbackSetRequest tag n).xfer = s.xfer ∧
    (s.passbackSetRequest tag n).lanes = s.lanes ∧
    (s.passbackSetRequest tag n).ae = s.ae ∧
    (s.passbackSetRequest tag n).tally = s.tally ∧
    (s.passbackSetRequest tag n).rfc = s.rfc ∧
    (s.passbackSetRequest tag n).quotes = s.quotes ∧
    (s.passbackSetRequest tag n).journal = s.journal ∧
    (s.passbackSetRequest tag n).notices = s.notices ∧
    (s.passbackSetRequest tag n).pending = s.pending := by
  unfold State.passbackSetRequest; (repeat' split) <;> simp

@[simp] theorem State.productPutRequest_frame (s : State) (tag : Byte) (c : Nat) (f : ProductFields) :
    (s.productPutRequest tag c f).rcc = s.rcc ∧
    (s.productPutRequest tag c f).passes = s.passes ∧
    (s.productPutRequest tag c f).xfer = s.xfer ∧
    (s.productPutRequest tag c f).lanes = s.lanes ∧
    (s.productPutRequest tag c f).ae = s.ae ∧
    (s.productPutRequest tag c f).pbl = s.pbl ∧
    (s.productPutRequest tag c f).tally = s.tally ∧
    (s.productPutRequest tag c f).rfc = s.rfc ∧
    (s.productPutRequest tag c f).quotes = s.quotes ∧
    (s.productPutRequest tag c f).journal = s.journal ∧
    (s.productPutRequest tag c f).notices = s.notices ∧
    (s.productPutRequest tag c f).pending = s.pending := by
  unfold State.productPutRequest; (repeat' split) <;> simp

@[simp] theorem State.productClearRequest_frame (s : State) (tag : Byte) (c : Nat) :
    (s.productClearRequest tag c).rcc = s.rcc ∧
    (s.productClearRequest tag c).passes = s.passes ∧
    (s.productClearRequest tag c).xfer = s.xfer ∧
    (s.productClearRequest tag c).lanes = s.lanes ∧
    (s.productClearRequest tag c).ae = s.ae ∧
    (s.productClearRequest tag c).pbl = s.pbl ∧
    (s.productClearRequest tag c).tally = s.tally ∧
    (s.productClearRequest tag c).rfc = s.rfc ∧
    (s.productClearRequest tag c).quotes = s.quotes ∧
    (s.productClearRequest tag c).journal = s.journal ∧
    (s.productClearRequest tag c).notices = s.notices ∧
    (s.productClearRequest tag c).pending = s.pending := by
  unfold State.productClearRequest; (repeat' split) <;> simp

@[simp] theorem State.passPutRequest_frame (s : State) (tag : Byte) (r : PassRecord) :
    (s.passPutRequest tag r).rcc = s.rcc ∧
    (s.passPutRequest tag r).tariff = s.tariff ∧
    (s.passPutRequest tag r).xfer = s.xfer ∧
    (s.passPutRequest tag r).lanes = s.lanes ∧
    (s.passPutRequest tag r).ae = s.ae ∧
    (s.passPutRequest tag r).pbl = s.pbl ∧
    (s.passPutRequest tag r).tally = s.tally ∧
    (s.passPutRequest tag r).rfc = s.rfc ∧
    (s.passPutRequest tag r).quotes = s.quotes ∧
    (s.passPutRequest tag r).journal = s.journal ∧
    (s.passPutRequest tag r).notices = s.notices ∧
    (s.passPutRequest tag r).pending = s.pending := by
  unfold State.passPutRequest; (repeat' split) <;> simp

@[simp] theorem State.passBlockRequest_frame (s : State) (tag : Byte) (p : Nat) :
    (s.passBlockRequest tag p).rcc = s.rcc ∧
    (s.passBlockRequest tag p).tariff = s.tariff ∧
    (s.passBlockRequest tag p).xfer = s.xfer ∧
    (s.passBlockRequest tag p).lanes = s.lanes ∧
    (s.passBlockRequest tag p).ae = s.ae ∧
    (s.passBlockRequest tag p).pbl = s.pbl ∧
    (s.passBlockRequest tag p).tally = s.tally ∧
    (s.passBlockRequest tag p).rfc = s.rfc ∧
    (s.passBlockRequest tag p).quotes = s.quotes ∧
    (s.passBlockRequest tag p).journal = s.journal ∧
    (s.passBlockRequest tag p).notices = s.notices ∧
    (s.passBlockRequest tag p).pending = s.pending := by
  unfold State.passBlockRequest State.withEntry; (repeat' split) <;> (try dsimp only) <;> (repeat' split) <;> simp

@[simp] theorem State.passUnblockRequest_frame (s : State) (tag : Byte) (p : Nat) :
    (s.passUnblockRequest tag p).rcc = s.rcc ∧
    (s.passUnblockRequest tag p).tariff = s.tariff ∧
    (s.passUnblockRequest tag p).xfer = s.xfer ∧
    (s.passUnblockRequest tag p).lanes = s.lanes ∧
    (s.passUnblockRequest tag p).ae = s.ae ∧
    (s.passUnblockRequest tag p).pbl = s.pbl ∧
    (s.passUnblockRequest tag p).tally = s.tally ∧
    (s.passUnblockRequest tag p).rfc = s.rfc ∧
    (s.passUnblockRequest tag p).quotes = s.quotes ∧
    (s.passUnblockRequest tag p).journal = s.journal ∧
    (s.passUnblockRequest tag p).notices = s.notices ∧
    (s.passUnblockRequest tag p).pending = s.pending := by
  unfold State.passUnblockRequest State.withEntry; (repeat' split) <;> (try dsimp only) <;> (repeat' split) <;> simp

@[simp] theorem State.passDeleteRequest_frame (s : State) (tag : Byte) (p : Nat) :
    (s.passDeleteRequest tag p).rcc = s.rcc ∧
    (s.passDeleteRequest tag p).tariff = s.tariff ∧
    (s.passDeleteRequest tag p).xfer = s.xfer ∧
    (s.passDeleteRequest tag p).lanes = s.lanes ∧
    (s.passDeleteRequest tag p).ae = s.ae ∧
    (s.passDeleteRequest tag p).pbl = s.pbl ∧
    (s.passDeleteRequest tag p).tally = s.tally ∧
    (s.passDeleteRequest tag p).rfc = s.rfc ∧
    (s.passDeleteRequest tag p).quotes = s.quotes ∧
    (s.passDeleteRequest tag p).journal = s.journal ∧
    (s.passDeleteRequest tag p).notices = s.notices ∧
    (s.passDeleteRequest tag p).pending = s.pending := by
  unfold State.passDeleteRequest State.withEntry; (repeat' split) <;> (try dsimp only) <;> (repeat' split) <;> simp

@[simp] theorem State.passQueryRequest_frame (s : State) (tag : Byte) (p : Nat) (m : Byte) :
    (s.passQueryRequest tag p m).rcc = s.rcc ∧
    (s.passQueryRequest tag p m).tariff = s.tariff ∧
    (s.passQueryRequest tag p m).passes = s.passes ∧
    (s.passQueryRequest tag p m).xfer = s.xfer ∧
    (s.passQueryRequest tag p m).lanes = s.lanes ∧
    (s.passQueryRequest tag p m).ae = s.ae ∧
    (s.passQueryRequest tag p m).pbl = s.pbl ∧
    (s.passQueryRequest tag p m).tally = s.tally ∧
    (s.passQueryRequest tag p m).rfc = s.rfc ∧
    (s.passQueryRequest tag p m).quotes = s.quotes ∧
    (s.passQueryRequest tag p m).journal = s.journal ∧
    (s.passQueryRequest tag p m).notices = s.notices ∧
    (s.passQueryRequest tag p m).pending = s.pending := by
  unfold State.passQueryRequest; (repeat' split) <;> simp

@[simp] theorem State.mergeInto_frame (s : State) (tag : Byte) (e : PassEntry) (ds : List Nat) :
    (s.mergeInto tag e ds).rcc = s.rcc ∧
    (s.mergeInto tag e ds).tariff = s.tariff ∧
    (s.mergeInto tag e ds).xfer = s.xfer ∧
    (s.mergeInto tag e ds).lanes = s.lanes ∧
    (s.mergeInto tag e ds).ae = s.ae ∧
    (s.mergeInto tag e ds).pbl = s.pbl ∧
    (s.mergeInto tag e ds).tally = s.tally ∧
    (s.mergeInto tag e ds).rfc = s.rfc ∧
    (s.mergeInto tag e ds).quotes = s.quotes ∧
    (s.mergeInto tag e ds).journal = s.journal ∧
    (s.mergeInto tag e ds).notices = s.notices ∧
    (s.mergeInto tag e ds).pending = s.pending := by
  simp [State.mergeInto]

@[simp] theorem State.usageMergeRequest_frame (s : State) (tag : Byte) (p : Nat) (ds : List Byte) :
    (s.usageMergeRequest tag p ds).rcc = s.rcc ∧
    (s.usageMergeRequest tag p ds).tariff = s.tariff ∧
    (s.usageMergeRequest tag p ds).xfer = s.xfer ∧
    (s.usageMergeRequest tag p ds).lanes = s.lanes ∧
    (s.usageMergeRequest tag p ds).ae = s.ae ∧
    (s.usageMergeRequest tag p ds).pbl = s.pbl ∧
    (s.usageMergeRequest tag p ds).tally = s.tally ∧
    (s.usageMergeRequest tag p ds).rfc = s.rfc ∧
    (s.usageMergeRequest tag p ds).quotes = s.quotes ∧
    (s.usageMergeRequest tag p ds).journal = s.journal ∧
    (s.usageMergeRequest tag p ds).notices = s.notices ∧
    (s.usageMergeRequest tag p ds).pending = s.pending := by
  unfold State.usageMergeRequest; (repeat' split) <;> simp

@[simp] theorem State.xferOpenRequest_frame (s : State) (tag : Byte) (m p : Byte) (n : Nat) :
    (s.xferOpenRequest tag m p n).rcc = s.rcc ∧
    (s.xferOpenRequest tag m p n).tariff = s.tariff ∧
    (s.xferOpenRequest tag m p n).lanes = s.lanes ∧
    (s.xferOpenRequest tag m p n).ae = s.ae ∧
    (s.xferOpenRequest tag m p n).pbl = s.pbl ∧
    (s.xferOpenRequest tag m p n).tally = s.tally ∧
    (s.xferOpenRequest tag m p n).rfc = s.rfc ∧
    (s.xferOpenRequest tag m p n).quotes = s.quotes ∧
    (s.xferOpenRequest tag m p n).journal = s.journal ∧
    (s.xferOpenRequest tag m p n).notices = s.notices ∧
    (s.xferOpenRequest tag m p n).pending = s.pending := by
  unfold State.xferOpenRequest; (repeat' split) <;> simp

@[simp] theorem State.xferAbortRequest_frame (s : State) (tag : Byte) :
    (s.xferAbortRequest tag).rcc = s.rcc ∧
    (s.xferAbortRequest tag).tariff = s.tariff ∧
    (s.xferAbortRequest tag).passes = s.passes ∧
    (s.xferAbortRequest tag).lanes = s.lanes ∧
    (s.xferAbortRequest tag).ae = s.ae ∧
    (s.xferAbortRequest tag).pbl = s.pbl ∧
    (s.xferAbortRequest tag).tally = s.tally ∧
    (s.xferAbortRequest tag).rfc = s.rfc ∧
    (s.xferAbortRequest tag).quotes = s.quotes ∧
    (s.xferAbortRequest tag).journal = s.journal ∧
    (s.xferAbortRequest tag).notices = s.notices ∧
    (s.xferAbortRequest tag).pending = s.pending := by
  unfold State.xferAbortRequest; (repeat' split) <;> simp

@[simp] theorem State.takeChunk_frame (s : State) (tag : Byte) (h : TransferHeader) (rs : List PassRecord) :
    (s.takeChunk tag h rs).rcc = s.rcc ∧
    (s.takeChunk tag h rs).tariff = s.tariff ∧
    (s.takeChunk tag h rs).lanes = s.lanes ∧
    (s.takeChunk tag h rs).ae = s.ae ∧
    (s.takeChunk tag h rs).pbl = s.pbl ∧
    (s.takeChunk tag h rs).tally = s.tally ∧
    (s.takeChunk tag h rs).rfc = s.rfc ∧
    (s.takeChunk tag h rs).quotes = s.quotes ∧
    (s.takeChunk tag h rs).journal = s.journal ∧
    (s.takeChunk tag h rs).notices = s.notices ∧
    (s.takeChunk tag h rs).pending = s.pending := by
  unfold State.takeChunk; dsimp only; split <;> simp

@[simp] theorem State.refuseChunk_frame (s : State) (tag : Byte) (c : StatusCode) :
    (s.refuseChunk tag c).rcc = s.rcc ∧
    (s.refuseChunk tag c).tariff = s.tariff ∧
    (s.refuseChunk tag c).passes = s.passes ∧
    (s.refuseChunk tag c).xfer = s.xfer ∧
    (s.refuseChunk tag c).lanes = s.lanes ∧
    (s.refuseChunk tag c).ae = s.ae ∧
    (s.refuseChunk tag c).pbl = s.pbl ∧
    (s.refuseChunk tag c).tally = s.tally ∧
    (s.refuseChunk tag c).rfc = s.rfc ∧
    (s.refuseChunk tag c).quotes = s.quotes ∧
    (s.refuseChunk tag c).journal = s.journal ∧
    (s.refuseChunk tag c).notices = s.notices ∧
    (s.refuseChunk tag c).pending = s.pending := by
  simp [State.refuseChunk]

@[simp] theorem State.xferChunkRequest_frame (s : State) (tag : Byte) (rs : List PassRecord) :
    (s.xferChunkRequest tag rs).rcc = s.rcc ∧
    (s.xferChunkRequest tag rs).tariff = s.tariff ∧
    (s.xferChunkRequest tag rs).lanes = s.lanes ∧
    (s.xferChunkRequest tag rs).ae = s.ae ∧
    (s.xferChunkRequest tag rs).pbl = s.pbl ∧
    (s.xferChunkRequest tag rs).tally = s.tally ∧
    (s.xferChunkRequest tag rs).rfc = s.rfc ∧
    (s.xferChunkRequest tag rs).quotes = s.quotes ∧
    (s.xferChunkRequest tag rs).journal = s.journal ∧
    (s.xferChunkRequest tag rs).notices = s.notices ∧
    (s.xferChunkRequest tag rs).pending = s.pending := by
  unfold State.xferChunkRequest; (repeat' split) <;> simp

@[simp] theorem State.laneConfigRequest_frame (s : State) (tag : Byte) (l r u a : Byte) :
    (s.laneConfigRequest tag l r u a).rcc = s.rcc ∧
    (s.laneConfigRequest tag l r u a).tariff = s.tariff ∧
    (s.laneConfigRequest tag l r u a).passes = s.passes ∧
    (s.laneConfigRequest tag l r u a).xfer = s.xfer ∧
    (s.laneConfigRequest tag l r u a).pbl = s.pbl ∧
    (s.laneConfigRequest tag l r u a).tally = s.tally ∧
    (s.laneConfigRequest tag l r u a).rfc = s.rfc ∧
    (s.laneConfigRequest tag l r u a).quotes = s.quotes ∧
    (s.laneConfigRequest tag l r u a).pending = s.pending := by
  unfold State.laneConfigRequest; (repeat' split) <;> simp

theorem State.outputEffect_frame {s u : State} {l : LaneId} {out : LaneOutput} {v : Byte}
    (h : s.outputEffect l out v = some u) :
    u.rcc = s.rcc ∧
    u.tariff = s.tariff ∧
    u.xfer = s.xfer ∧
    u.rfc = s.rfc ∧
    u.quotes = s.quotes ∧
    u.pending = s.pending := by
  unfold State.outputEffect at h
  cases out <;> dsimp only at h <;> split at h <;> simp only [Option.map_eq_some_iff, reduceCtorEq] at h <;>
    (obtain ⟨_, _, rfl⟩ := h; simp)

@[simp] theorem State.laneOutputRequest_frame (s : State) (tag : Byte) (l o v : Byte) :
    (s.laneOutputRequest tag l o v).rcc = s.rcc ∧
    (s.laneOutputRequest tag l o v).tariff = s.tariff ∧
    (s.laneOutputRequest tag l o v).xfer = s.xfer ∧
    (s.laneOutputRequest tag l o v).rfc = s.rfc ∧
    (s.laneOutputRequest tag l o v).quotes = s.quotes ∧
    (s.laneOutputRequest tag l o v).pending = s.pending := by
  unfold State.laneOutputRequest; (repeat' split)
  · rename_i h; simp [State.outputEffect_frame h]
  all_goals simp

@[simp] theorem State.clearLane_frame (s : State) (tag : Byte) (l : LaneId) :
    (s.clearLane tag l).rcc = s.rcc ∧
    (s.clearLane tag l).tariff = s.tariff ∧
    (s.clearLane tag l).passes = s.passes ∧
    (s.clearLane tag l).xfer = s.xfer ∧
    (s.clearLane tag l).ae = s.ae ∧
    (s.clearLane tag l).pbl = s.pbl ∧
    (s.clearLane tag l).tally = s.tally ∧
    (s.clearLane tag l).rfc = s.rfc ∧
    (s.clearLane tag l).quotes = s.quotes ∧
    (s.clearLane tag l).pending = s.pending := by
  unfold State.clearLane; dsimp only; (repeat' split) <;> simp

@[simp] theorem State.laneClearRequest_frame (s : State) (tag : Byte) (l : Byte) :
    (s.laneClearRequest tag l).rcc = s.rcc ∧
    (s.laneClearRequest tag l).tariff = s.tariff ∧
    (s.laneClearRequest tag l).passes = s.passes ∧
    (s.laneClearRequest tag l).xfer = s.xfer ∧
    (s.laneClearRequest tag l).ae = s.ae ∧
    (s.laneClearRequest tag l).pbl = s.pbl ∧
    (s.laneClearRequest tag l).tally = s.tally ∧
    (s.laneClearRequest tag l).rfc = s.rfc ∧
    (s.laneClearRequest tag l).quotes = s.quotes ∧
    (s.laneClearRequest tag l).pending = s.pending := by
  unfold State.laneClearRequest; (repeat' split) <;> simp

@[simp] theorem State.laneInjectRequest_frame (s : State) (tag : Byte) (l : Byte) (p : Nat) :
    (s.laneInjectRequest tag l p).rcc = s.rcc ∧
    (s.laneInjectRequest tag l p).tariff = s.tariff ∧
    (s.laneInjectRequest tag l p).passes = s.passes ∧
    (s.laneInjectRequest tag l p).xfer = s.xfer ∧
    (s.laneInjectRequest tag l p).lanes = s.lanes ∧
    (s.laneInjectRequest tag l p).pbl = s.pbl ∧
    (s.laneInjectRequest tag l p).tally = s.tally ∧
    (s.laneInjectRequest tag l p).rfc = s.rfc ∧
    (s.laneInjectRequest tag l p).quotes = s.quotes ∧
    (s.laneInjectRequest tag l p).journal = s.journal ∧
    (s.laneInjectRequest tag l p).notices = s.notices ∧
    (s.laneInjectRequest tag l p).pending = s.pending := by
  unfold State.laneInjectRequest; (repeat' split) <;> simp

@[simp] theorem State.quoteRequest_frame (s : State) (tag : Byte) (p : Nat) :
    (s.quoteRequest tag p).rcc = s.rcc ∧
    (s.quoteRequest tag p).tariff = s.tariff ∧
    (s.quoteRequest tag p).xfer = s.xfer ∧
    (s.quoteRequest tag p).lanes = s.lanes ∧
    (s.quoteRequest tag p).ae = s.ae ∧
    (s.quoteRequest tag p).pbl = s.pbl ∧
    (s.quoteRequest tag p).tally = s.tally ∧
    (s.quoteRequest tag p).journal = s.journal ∧
    (s.quoteRequest tag p).notices = s.notices ∧
    (s.quoteRequest tag p).pending = s.pending := by
  unfold State.quoteRequest; (repeat' split) <;> simp

@[simp] theorem State.confirmDrops_frame (s : State) (tag : Byte) (k : SlotId) (c : StatusCode) (r : DropReason) :
    (s.confirmDrops tag k c r).rcc = s.rcc ∧
    (s.confirmDrops tag k c r).tariff = s.tariff ∧
    (s.confirmDrops tag k c r).xfer = s.xfer ∧
    (s.confirmDrops tag k c r).lanes = s.lanes ∧
    (s.confirmDrops tag k c r).ae = s.ae ∧
    (s.confirmDrops tag k c r).pbl = s.pbl ∧
    (s.confirmDrops tag k c r).tally = s.tally ∧
    (s.confirmDrops tag k c r).pending = s.pending := by
  simp [State.confirmDrops]

@[simp] theorem State.confirmQuoted_frame (s : State) (tag : Byte) (k : SlotId) (i : QuoteIdentity) (x : Snapshot) (r : Results) :
    (s.confirmQuoted tag k i x r).rcc = s.rcc ∧
    (s.confirmQuoted tag k i x r).tariff = s.tariff ∧
    (s.confirmQuoted tag k i x r).xfer = s.xfer ∧
    (s.confirmQuoted tag k i x r).lanes = s.lanes ∧
    (s.confirmQuoted tag k i x r).ae = s.ae ∧
    (s.confirmQuoted tag k i x r).pbl = s.pbl ∧
    (s.confirmQuoted tag k i x r).pending = s.pending := by
  unfold State.confirmQuoted; (repeat' split) <;> simp

@[simp] theorem State.confirmSlot_frame (s : State) (tag : Byte) (k : SlotId) (p : Nat) :
    (s.confirmSlot tag k p).rcc = s.rcc ∧
    (s.confirmSlot tag k p).tariff = s.tariff ∧
    (s.confirmSlot tag k p).xfer = s.xfer ∧
    (s.confirmSlot tag k p).lanes = s.lanes ∧
    (s.confirmSlot tag k p).ae = s.ae ∧
    (s.confirmSlot tag k p).pbl = s.pbl ∧
    (s.confirmSlot tag k p).pending = s.pending := by
  unfold State.confirmSlot; (repeat' split) <;> simp

@[simp] theorem State.confirmRequest_frame (s : State) (tag : Byte) (k : Byte) (p : Nat) :
    (s.confirmRequest tag k p).rcc = s.rcc ∧
    (s.confirmRequest tag k p).tariff = s.tariff ∧
    (s.confirmRequest tag k p).xfer = s.xfer ∧
    (s.confirmRequest tag k p).lanes = s.lanes ∧
    (s.confirmRequest tag k p).ae = s.ae ∧
    (s.confirmRequest tag k p).pbl = s.pbl ∧
    (s.confirmRequest tag k p).pending = s.pending := by
  unfold State.confirmRequest; (repeat' split) <;> simp

@[simp] theorem State.cancelSlot_frame (s : State) (tag : Byte) (k : SlotId) (p : Nat) :
    (s.cancelSlot tag k p).rcc = s.rcc ∧
    (s.cancelSlot tag k p).tariff = s.tariff ∧
    (s.cancelSlot tag k p).xfer = s.xfer ∧
    (s.cancelSlot tag k p).lanes = s.lanes ∧
    (s.cancelSlot tag k p).ae = s.ae ∧
    (s.cancelSlot tag k p).pbl = s.pbl ∧
    (s.cancelSlot tag k p).tally = s.tally ∧
    (s.cancelSlot tag k p).pending = s.pending := by
  unfold State.cancelSlot; (repeat' split) <;> simp

@[simp] theorem State.cancelRequest_frame (s : State) (tag : Byte) (k : Byte) (p : Nat) :
    (s.cancelRequest tag k p).rcc = s.rcc ∧
    (s.cancelRequest tag k p).tariff = s.tariff ∧
    (s.cancelRequest tag k p).xfer = s.xfer ∧
    (s.cancelRequest tag k p).lanes = s.lanes ∧
    (s.cancelRequest tag k p).ae = s.ae ∧
    (s.cancelRequest tag k p).pbl = s.pbl ∧
    (s.cancelRequest tag k p).tally = s.tally ∧
    (s.cancelRequest tag k p).pending = s.pending := by
  unfold State.cancelRequest; (repeat' split) <;> simp

@[simp] theorem State.quoteQueryRequest_frame (s : State) (tag : Byte) (k : Byte) :
    (s.quoteQueryRequest tag k).rcc = s.rcc ∧
    (s.quoteQueryRequest tag k).tariff = s.tariff ∧
    (s.quoteQueryRequest tag k).passes = s.passes ∧
    (s.quoteQueryRequest tag k).xfer = s.xfer ∧
    (s.quoteQueryRequest tag k).lanes = s.lanes ∧
    (s.quoteQueryRequest tag k).ae = s.ae ∧
    (s.quoteQueryRequest tag k).pbl = s.pbl ∧
    (s.quoteQueryRequest tag k).tally = s.tally ∧
    (s.quoteQueryRequest tag k).rfc = s.rfc ∧
    (s.quoteQueryRequest tag k).quotes = s.quotes ∧
    (s.quoteQueryRequest tag k).journal = s.journal ∧
    (s.quoteQueryRequest tag k).notices = s.notices ∧
    (s.quoteQueryRequest tag k).pending = s.pending := by
  unfold State.quoteQueryRequest; (repeat' split) <;> simp

@[simp] theorem State.clearReported_frame (s : State) :
    (s.clearReported).rcc = s.rcc ∧
    (s.clearReported).tariff = s.tariff ∧
    (s.clearReported).passes = s.passes ∧
    (s.clearReported).xfer = s.xfer ∧
    (s.clearReported).lanes = s.lanes ∧
    (s.clearReported).ae = s.ae ∧
    (s.clearReported).tally = s.tally ∧
    (s.clearReported).rfc = s.rfc ∧
    (s.clearReported).quotes = s.quotes ∧
    (s.clearReported).journal = s.journal ∧
    (s.clearReported).notices = s.notices ∧
    (s.clearReported).pending = s.pending := by
  simp [State.clearReported]

@[simp] theorem State.statusRequest_frame (s : State) (tag : Byte) (o : Byte) :
    (s.statusRequest tag o).rcc = s.rcc ∧
    (s.statusRequest tag o).tariff = s.tariff ∧
    (s.statusRequest tag o).passes = s.passes ∧
    (s.statusRequest tag o).xfer = s.xfer ∧
    (s.statusRequest tag o).lanes = s.lanes ∧
    (s.statusRequest tag o).ae = s.ae ∧
    (s.statusRequest tag o).tally = s.tally ∧
    (s.statusRequest tag o).rfc = s.rfc ∧
    (s.statusRequest tag o).quotes = s.quotes ∧
    (s.statusRequest tag o).journal = s.journal ∧
    (s.statusRequest tag o).notices = s.notices ∧
    (s.statusRequest tag o).pending = s.pending := by
  unfold State.statusRequest; (repeat' split) <;> simp

@[simp] theorem State.tallyRequest_frame (s : State) (tag : Byte) (a b : Byte) :
    (s.tallyRequest tag a b).rcc = s.rcc ∧
    (s.tallyRequest tag a b).tariff = s.tariff ∧
    (s.tallyRequest tag a b).passes = s.passes ∧
    (s.tallyRequest tag a b).xfer = s.xfer ∧
    (s.tallyRequest tag a b).lanes = s.lanes ∧
    (s.tallyRequest tag a b).ae = s.ae ∧
    (s.tallyRequest tag a b).pbl = s.pbl ∧
    (s.tallyRequest tag a b).tally = s.tally ∧
    (s.tallyRequest tag a b).rfc = s.rfc ∧
    (s.tallyRequest tag a b).quotes = s.quotes ∧
    (s.tallyRequest tag a b).journal = s.journal ∧
    (s.tallyRequest tag a b).notices = s.notices ∧
    (s.tallyRequest tag a b).pending = s.pending := by
  unfold State.tallyRequest; (repeat' split) <;> simp

@[simp] theorem State.journalFetchRequest_frame (s : State) (tag : Byte) (n : Nat) :
    (s.journalFetchRequest tag n).rcc = s.rcc ∧
    (s.journalFetchRequest tag n).tariff = s.tariff ∧
    (s.journalFetchRequest tag n).passes = s.passes ∧
    (s.journalFetchRequest tag n).xfer = s.xfer ∧
    (s.journalFetchRequest tag n).lanes = s.lanes ∧
    (s.journalFetchRequest tag n).ae = s.ae ∧
    (s.journalFetchRequest tag n).pbl = s.pbl ∧
    (s.journalFetchRequest tag n).tally = s.tally ∧
    (s.journalFetchRequest tag n).rfc = s.rfc ∧
    (s.journalFetchRequest tag n).quotes = s.quotes ∧
    (s.journalFetchRequest tag n).notices = s.notices ∧
    (s.journalFetchRequest tag n).pending = s.pending := by
  unfold State.journalFetchRequest; (repeat' split) <;> simp

@[simp] theorem State.noticeMaskRequest_frame (s : State) (tag : Byte) (k v : Byte) :
    (s.noticeMaskRequest tag k v).rcc = s.rcc ∧
    (s.noticeMaskRequest tag k v).tariff = s.tariff ∧
    (s.noticeMaskRequest tag k v).passes = s.passes ∧
    (s.noticeMaskRequest tag k v).xfer = s.xfer ∧
    (s.noticeMaskRequest tag k v).lanes = s.lanes ∧
    (s.noticeMaskRequest tag k v).ae = s.ae ∧
    (s.noticeMaskRequest tag k v).pbl = s.pbl ∧
    (s.noticeMaskRequest tag k v).tally = s.tally ∧
    (s.noticeMaskRequest tag k v).rfc = s.rfc ∧
    (s.noticeMaskRequest tag k v).quotes = s.quotes ∧
    (s.noticeMaskRequest tag k v).journal = s.journal ∧
    (s.noticeMaskRequest tag k v).pending = s.pending := by
  unfold State.noticeMaskRequest; (repeat' split) <;> simp

end Sys2Proof.Machine
end

