-- ==== Sys2Proof/Laws/Requests.lean ====
section
/-!
SUPPORT. The frame conditions, and what the look-ups of the Pass Table, the Journal, the Notice Latch and the tally
answer after each shared operation. The proofs about a command cite these instead of unfolding the operations.
-/

namespace Sys2Proof.Machine

/-! ## Frames of blocks -/

/-- The frame condition, block by block. -/
theorem State.keepsAllBut_iff (s u : State) (bs : List Block) :
    s.keepsAllBut u bs ↔
      (Block.lif ∉ bs → u.lif = s.lif) ∧ (Block.rcc ∉ bs → u.rcc = s.rcc) ∧
      (Block.tariff ∉ bs → u.tariff = s.tariff) ∧ (Block.passes ∉ bs → u.passes = s.passes) ∧
      (Block.xfer ∉ bs → u.xfer = s.xfer) ∧ (Block.lanes ∉ bs → u.lanes = s.lanes) ∧
      (Block.ae ∉ bs → u.ae = s.ae) ∧ (Block.pbl ∉ bs → u.pbl = s.pbl) ∧
      (Block.tally ∉ bs → u.tally = s.tally) ∧ (Block.rfc ∉ bs → u.rfc = s.rfc) ∧
      (Block.quotes ∉ bs → u.quotes = s.quotes) ∧ (Block.journal ∉ bs → u.journal = s.journal) ∧
      (Block.notices ∉ bs → u.notices = s.notices) ∧ (Block.pending ∉ bs → u.pending = s.pending) := by
  constructor
  · intro h
    exact ⟨h .lif, h .rcc, h .tariff, h .passes, h .xfer, h .lanes, h .ae, h .pbl, h .tally, h .rfc, h .quotes,
      h .journal, h .notices, h .pending⟩
  · intro h b hb
    obtain ⟨h1, h2, h3, h4, h5, h6, h7, h8, h9, h10, h11, h12, h13, h14⟩ := h
    cases b
    · exact h1 hb
    · exact h2 hb
    · exact h3 hb
    · exact h4 hb
    · exact h5 hb
    · exact h6 hb
    · exact h7 hb
    · exact h8 hb
    · exact h9 hb
    · exact h10 hb
    · exact h11 hb
    · exact h12 hb
    · exact h13 hb
    · exact h14 hb

/-- A state keeps all of its own blocks. -/
theorem State.keepsAllBut_refl (s : State) (bs : List Block) : s.keepsAllBut s bs := by
  intro b _; cases b <;> rfl

/-- Frames compose. -/
theorem State.keepsAllBut_trans {s t u : State} {bs : List Block} (h : s.keepsAllBut t bs)
    (k : t.keepsAllBut u bs) : s.keepsAllBut u bs := by
  intro b hb
  have h1 := h b hb
  have h2 := k b hb
  cases b <;> simp_all [Block.same]

/-- A frame may name more blocks than change. -/
theorem State.keepsAllBut_mono {s u : State} {bs cs : List Block} (h : s.keepsAllBut u bs)
    (sub : ∀ b ∈ bs, b ∈ cs) : s.keepsAllBut u cs :=
  fun b hb => h b fun hin => hb (sub b hin)

/-- Nothing but the line changes when a frame joins the buffers or is discarded. -/
theorem State.joinRequest_keepsAllBut (s : State) (i : Instr) : s.keepsAllBut (s.joinRequest i) [.lif] := by
  intro b hb
  cases b <;> simp_all [Block.same]

/-! ## The transmitter -/

/-- A second fill finds nothing more to do (R185). -/
theorem State.fillHolding_idem (s : State) : s.fillHolding.fillHolding = s.fillHolding := by
  conv => lhs; rw [State.fillHolding]
  unfold State.fillHolding
  cases h : s.lif.holding with
  | some x => simp [h]
  | none =>
    cases hr : s.lif.replies with
    | cons r rest => simp
    | nil =>
      cases hf : s.notices.pending.find? s.notices.eligible with
      | some x => simp
      | none => simp [h, hr, hf]

/-- With a frame on the line the transmitter only fills its holding frame. -/
theorem State.pump_of_shifting {s : State} {f : OutFrame} (h : s.lif.shifting = some f) :
    s.pump = s.fillHolding := by
  have hs : s.fillHolding.lif.shifting = some f := by
    unfold State.fillHolding; (repeat' split) <;> simp [h]
  simp [State.pump, State.startShifting, hs, State.fillHolding_idem]

/-! ## Replies -/

/-- What a reply adds to the line. -/
@[simp] theorem State.answer_lif (s : State) (k : RequestKind) (tag : Byte) (st : StatusCode) (d : ReplyData) :
    (s.answer k tag st d).lif = { s.lif with replies := s.lif.replies ++ [replyFrame k.code tag st d] } := rfl

@[simp] theorem State.answerCode_lif (s : State) (k : RequestKind) (tag : Byte) (st : StatusCode) :
    (s.answerCode k tag st).lif =
      { s.lif with replies := s.lif.replies ++ [replyFrame k.code tag st .nothing] } := rfl

/-- An owner that only answers. -/
theorem State.onlyAnswers_answer (s : State) (k : RequestKind) (tag : Byte) (st : StatusCode) (d : ReplyData) :
    s.onlyAnswers (s.answer k tag st d) k tag st d := by
  refine ⟨rfl, ?_⟩
  intro b hb
  cases b <;> simp_all [Block.same]

theorem State.onlyAnswers_answerCode (s : State) (k : RequestKind) (tag : Byte) (st : StatusCode) :
    s.onlyAnswers (s.answerCode k tag st) k tag st .nothing := s.onlyAnswers_answer k tag st .nothing

/-! ## The Journal and the Notice Latch -/

@[simp] theorem State.raise_notices (s : State) (x : PendingNotice) : (s.raise x).notices = s.notices.raise x := rfl

/-- A write of the journal is R165's, at the current stamp. -/
@[simp] theorem State.writeRecord_journal (s : State) (b : RecordBody) :
    (s.writeRecord b).journal = s.journal.write s.stamp b := by
  unfold State.writeRecord; dsimp only; split <;> simp

/-- A write raises JOURNAL_HIGH at or above the limits (R167). -/
theorem State.writeRecord_notices (s : State) (b : RecordBody) :
    (s.writeRecord b).notices =
      if (s.journal.write s.stamp b).isHigh then s.notices.raise .journalHigh else s.notices := by
  unfold State.writeRecord; dsimp only; split <;> simp_all

theorem State.recorded_writeRecord (s : State) (b : RecordBody) : s.recorded (s.writeRecord b) b :=
  ⟨s.writeRecord_journal b, s.writeRecord_notices b⟩

/-- The settlement count is that of the records. -/
theorem Journal.settlementCount_write (j : Journal) (stamp : Nat) (b : RecordBody)
    (h : j.records.length < Config.journalCapacity) :
    (j.write stamp b).records = j.records ++ [{ seq := j.nextSeq, stamp := stamp, body := b }] := by
  simp [Journal.write, h]

/-- R163: the record just written stands at the young end. -/
theorem Journal.write_last (j : Journal) (stamp : Nat) (b : RecordBody) :
    (j.write stamp b).records.getLast? = some { seq := j.nextSeq, stamp := stamp, body := b } := by
  unfold Journal.write; dsimp only; split <;> simp

/-- A raise leaves its key pending. -/
theorem NoticeLatch.key_mem_raise (n : NoticeLatch) (x : PendingNotice) :
    x ∈ (n.raise x).pending := by
  unfold NoticeLatch.raise
  split
  · rename_i h
    simp only [List.any_eq_true, beq_iff_eq] at h
    obtain ⟨y, hy, hk⟩ := h
    simp only [List.mem_map]
    exact ⟨y, hy, by simp [hk]⟩
  · simp

/-- A raise of another key keeps what is pending. -/
theorem NoticeLatch.mem_raise_of_ne (n : NoticeLatch) {x y : PendingNotice} (hy : y ∈ n.pending)
    (hk : y.key ≠ x.key) : y ∈ (n.raise x).pending := by
  unfold NoticeLatch.raise
  split
  · simp only [List.mem_map]
    exact ⟨y, hy, by simp [hk]⟩
  · simp [hy]

@[simp] theorem NoticeLatch.raise_mask (n : NoticeLatch) (x : PendingNotice) : (n.raise x).mask = n.mask := by
  unfold NoticeLatch.raise; split <;> rfl

/-- R170: a raise keeps one pending notice for each key. -/
theorem NoticeLatch.raise_keys (n : NoticeLatch) (x : PendingNotice) :
    (n.raise x).pending.map PendingNotice.key =
      if n.pending.any (fun y => y.key == x.key) then n.pending.map PendingNotice.key
      else n.pending.map PendingNotice.key ++ [x.key] := by
  unfold NoticeLatch.raise
  split
  · simp only [List.map_map]
    apply List.map_congr_left
    intro y _
    simp only [Function.comp]
    split <;> simp_all
  · simp

/-! ## The Pass Table -/

/-- The pass number of an entry found is the one asked for. -/
theorem State.pass_of_findPass {s : State} {p : Nat} {e : PassEntry} (h : s.findPass p = some e) : e.pass = p := by
  have := List.find?_some h
  simpa using this

theorem State.mem_of_findPass {s : State} {p : Nat} {e : PassEntry} (h : s.findPass p = some e) : e ∈ s.passes :=
  List.mem_of_find?_eq_some h

/-- After an update of one pass that keeps pass numbers, each pass is found as it was, the named one changed. -/
theorem State.findPass_updatePass (s : State) (p q : Nat) (f : PassEntry → PassEntry)
    (hf : ∀ e, (f e).pass = e.pass) :
    (s.updatePass p f).findPass q = if q = p then (s.findPass q).map f else s.findPass q := by
  simp only [State.findPass, State.updatePass, State.setPasses_passes, updateIn, List.find?_map]
  have h : ((fun e : PassEntry => e.pass == q) ∘ fun e => if e.pass = p then f e else e) =
      fun e => e.pass == q := by
    funext e; simp only [Function.comp]; split <;> simp [hf]
  rw [h]
  cases hq : s.passes.find? (fun e => e.pass == q) with
  | none => simp
  | some e =>
    have : e.pass = q := by simpa using List.find?_some hq
    simp [this]
    split <;> rfl

/-- The passes are found alike where the tables are alike. -/
theorem State.findPass_congr {s u : State} (h : u.passes = s.passes) (p : Nat) : u.findPass p = s.findPass p := by
  simp [State.findPass, h]

/-- A new entry is found, and every other pass as before. -/
theorem find_insertEntry (x : PassEntry) (q : Nat) (es : List PassEntry)
    (h : es.find? (fun e => e.pass == x.pass) = none) :
    (insertEntry x es).find? (fun e => e.pass == q) =
      if q = x.pass then some x else es.find? (fun e => e.pass == q) := by
  induction es with
  | nil =>
    by_cases hq : q = x.pass
    · subst hq; simp [insertEntry]
    · have : ¬ (x.pass = q) := fun h => hq h.symm
      simp [insertEntry, hq, this]
  | cons e es ih =>
    have he : ¬ (e.pass = x.pass) := by
      intro hc; simp [hc] at h
    have hes : es.find? (fun e => e.pass == x.pass) = none := by
      simpa [List.find?_cons, he] using h
    simp only [insertEntry]
    by_cases hlt : x.pass < e.pass
    · simp only [hlt, if_true]
      by_cases hq : q = x.pass
      · subst hq; simp
      · have : ¬ (x.pass = q) := fun h => hq h.symm
        simp [hq, this, List.find?_cons]
    · simp only [hlt, if_false, List.find?_cons]
      by_cases heq : e.pass = q
      · subst heq
        simp [he]
      · have : (e.pass == q) = false := by simpa using heq
        simp [this, ih hes]

/-- A removed pass is not found, and every other pass as before. -/
theorem find_removeEntry (p q : Nat) (es : List PassEntry) :
    (removeEntry p es).find? (fun e => e.pass == q) =
      if q = p then none else es.find? (fun e => e.pass == q) := by
  induction es with
  | nil => simp [removeEntry]
  | cons e es ih =>
    simp only [removeEntry, List.filter_cons] at ih ⊢
    by_cases hp : e.pass = p
    · simp only [hp, beq_self_eq_true, Bool.not_true, Bool.false_eq_true, if_false, ih, List.find?_cons]
      by_cases hq : q = p
      · simp [hq]
      · have : (p == q) = false := by simpa using fun h => hq h.symm
        simp [hq, this]
    · have : (e.pass == p) = false := by simpa using hp
      simp only [this, Bool.not_false, if_true, List.find?_cons, ih]
      by_cases heq : e.pass = q
      · subst heq; simp [hp]
      · have : (e.pass == q) = false := by simpa using heq
        simp [this]

/-- An insertion makes the table one entry longer. -/
@[simp] theorem length_insertEntry (x : PassEntry) (es : List PassEntry) :
    (insertEntry x es).length = es.length + 1 := by
  induction es with
  | nil => rfl
  | cons e es ih => simp only [insertEntry]; split <;> simp_all

@[simp] theorem length_updateIn (p : Nat) (f : PassEntry → PassEntry) (es : List PassEntry) :
    (updateIn p f es).length = es.length := by simp [updateIn]

@[simp] theorem State.updatePass_passes (s : State) (p : Nat) (f : PassEntry → PassEntry) :
    (s.updatePass p f).passes = updateIn p f s.passes := rfl

/-! ## The Passback List -/

/-- R109: what an expiry leaves. -/
theorem State.expirePassback_eq (s : State) :
    s.expirePassback = s.setPbl { s.pbl with
      entries := s.pbl.entries.filter fun x => x.staysAt s.stamp s.pbl.interval } := by
  have h : s.pbl.entries.filter (fun e => !(s.passbackDue e)) =
      s.pbl.entries.filter fun x => x.staysAt s.stamp s.pbl.interval := by
    apply List.filter_congr
    intro x _
    unfold State.passbackDue PassbackEntry.staysAt
    cases x.phase with
    | pending l => rfl
    | committed c =>
      by_cases hh : s.pbl.interval ≤ s.stamp - c
      · simp [hh, Nat.not_lt.mpr hh]
      · simp [hh, Nat.lt_of_not_le hh]
  simp only [State.expirePassback, h]

/-! ## The Tariff Table -/

/-- The slot just written, and every other slot as before. -/
theorem State.productSlot_setProductSlot (s : State) (x : ProductSlot) (c d : Nat) (hc : legalCode c = true)
    (hd : legalCode d = true) :
    (s.setProductSlot c x).productSlot d = if d = c then x else s.productSlot d := by
  simp only [legalCode, Bool.and_eq_true, decide_eq_true_eq] at hc hd
  simp only [State.productSlot, State.setProductSlot, State.setTariff, Vector.getElem?_setIfInBounds]
  by_cases h : d = c
  · subst h; simp [show d - 1 < 63 by omega]
  · simp [h, show ¬ (c - 1 = d - 1) by omega]

/-! ## The tally -/

@[simp] theorem State.setToday_tally (s : State) (t : TallySet) :
    (s.setToday t).tally = { s.tally with today := t } := rfl

@[simp] theorem State.countLane_tally (s : State) (l : LaneId) (f : LaneCounters → LaneCounters) :
    (s.countLane l f).tally = { s.tally with today := { s.tally.today with
      lanes := s.tally.today.lanes.set l (f (s.tally.today.lanes.get l)) } } := rfl

end Sys2Proof.Machine
end

