-- ==== Sys2Proof/Laws/Handler.lean ====
section
/-!
SUPPORT. What the request handler and the end of an event do: the line's other parts through every owner, the settling
of the line, and how a request ends.
-/

namespace Sys2Proof.Machine

/-! ## The line through the owners: receiver, buffers, transmitter and straps are no owner's -/

@[simp] theorem State.withdraw_line (s : State) (l : LaneId) :
    (s.withdraw l).lif.receiver = s.lif.receiver ∧ (s.withdraw l).lif.inbound = s.lif.inbound ∧
    (s.withdraw l).lif.holding = s.lif.holding ∧ (s.withdraw l).lif.shifting = s.lif.shifting ∧
    (s.withdraw l).lif.straps = s.lif.straps := by
  unfold State.withdraw
  split
  · simp
  · dsimp only; split <;> simp [State.answerCode]

@[simp] theorem State.withdrawAll_line (s : State) :
    s.withdrawAll.lif.receiver = s.lif.receiver ∧ s.withdrawAll.lif.inbound = s.lif.inbound ∧
    s.withdrawAll.lif.holding = s.lif.holding ∧ s.withdrawAll.lif.shifting = s.lif.shifting ∧
    s.withdrawAll.lif.straps = s.lif.straps := by
  simp [State.withdrawAll, fourInOrder]

@[simp] theorem State.setArm_line (s : State) (l : LaneId) (v : ArmOverride) :
    (s.setArm l v).lif.receiver = s.lif.receiver ∧ (s.setArm l v).lif.inbound = s.lif.inbound ∧
    (s.setArm l v).lif.holding = s.lif.holding ∧ (s.setArm l v).lif.shifting = s.lif.shifting ∧
    (s.setArm l v).lif.straps = s.lif.straps := by
  unfold State.setArm; (repeat' split) <;> simp

@[simp] theorem State.configureLane_line (s : State) (f : LaneFields) :
    (s.configureLane f).lif.receiver = s.lif.receiver ∧ (s.configureLane f).lif.inbound = s.lif.inbound ∧
    (s.configureLane f).lif.holding = s.lif.holding ∧ (s.configureLane f).lif.shifting = s.lif.shifting ∧
    (s.configureLane f).lif.straps = s.lif.straps := by
  unfold State.configureLane State.changeRole; dsimp only; (repeat' split) <;> simp

@[simp] theorem State.warmRestart_line (s : State) :
    s.warmRestart.lif.receiver = s.lif.receiver ∧ s.warmRestart.lif.inbound = s.lif.inbound ∧
    s.warmRestart.lif.holding = s.lif.holding ∧ s.warmRestart.lif.shifting = s.lif.shifting ∧
    s.warmRestart.lif.straps = s.lif.straps := by
  unfold State.warmRestart; simp [fourInOrder]

/-- The lane output's effect leaves the line's other parts. -/
theorem State.outputEffect_line {s u : State} {l : LaneId} {o : LaneOutput} {v : Byte}
    (h : s.outputEffect l o v = some u) :
    u.lif.receiver = s.lif.receiver ∧ u.lif.inbound = s.lif.inbound ∧ u.lif.holding = s.lif.holding ∧
    u.lif.shifting = s.lif.shifting ∧ u.lif.straps = s.lif.straps := by
  have hm : ∀ {α : Type} (o : Option α) (f : α → State), o.map f = some u → ∃ x, f x = u := by
    intro α o f h
    cases o with
    | none => cases h
    | some x => exact ⟨x, by simpa using h⟩
  cases o <;> simp only [State.outputEffect] at h <;> split at h <;>
    first
    | cases h
    | (obtain ⟨x, rfl⟩ := hm _ _ h; simp)

/-- An owner touches neither the receiver, nor the inbound buffers, nor the transmitter, nor the straps: of the line it
changes the reply queue, and STATUS the error flags. -/
theorem State.owner_line (s : State) (i : Instr) :
    (s.owner i).lif.receiver = s.lif.receiver ∧ (s.owner i).lif.inbound = s.lif.inbound ∧
    (s.owner i).lif.holding = s.lif.holding ∧ (s.owner i).lif.shifting = s.lif.shifting ∧
    (s.owner i).lif.straps = s.lif.straps := by
  cases i
  case laneOutput tag lane output value =>
    simp only [State.owner, State.laneOutputRequest]
    split
    · split
      · rename_i h; simp [State.outputEffect_line h]
      · simp
    · simp
  all_goals
    simp only [State.owner, and_self, State.restartRequest, State.runRequest, State.setupRequest, State.siteConfigRequest,
      State.setClockRequest, State.liftStatusRequest, State.calendarMarkRequest, State.passbackSetRequest,
      State.productPutRequest, State.productClearRequest, State.passPutRequest, State.passBlockRequest,
      State.passUnblockRequest, State.passDeleteRequest, State.passQueryRequest, State.usageMergeRequest,
      State.mergeInto, State.xferOpenRequest, State.xferChunkRequest, State.takeChunk, State.refuseChunk,
      State.xferAbortRequest, State.laneConfigRequest, State.laneClearRequest, State.clearLane,
      State.laneInjectRequest, State.quoteRequest, State.confirmRequest, State.confirmSlot, State.confirmQuoted,
      State.confirmDrops, State.cancelRequest, State.cancelSlot, State.quoteQueryRequest, State.statusRequest,
      State.clearReported, State.tallyRequest, State.journalFetchRequest, State.noticeMaskRequest,
      State.withEntry, State.identifyRequest, State.xferStatusRequest, State.tallyClearRequest, State.answerBadFormat,
      State.quoteQueryRequest]
    try ((repeat' split) <;> simp [State.placeReply])

/-- The queue is no owner's. -/
@[simp] theorem State.owner_pending (s : State) (i : Instr) : (s.owner i).pending = s.pending := by
  cases i
  case laneOutput tag lane output value => exact (s.laneOutputRequest_frame tag lane output value).2.2.2.2.2
  all_goals simp [State.owner, State.restartRequest, State.identifyRequest, State.xferStatusRequest,
    State.tallyClearRequest]

/-! ## The end of an event -/

/-- The transmitter leaves the receiver, the buffers, the straps and the flags. -/
@[simp] theorem State.pump_line (s : State) :
    s.pump.lif.receiver = s.lif.receiver ∧ s.pump.lif.inbound = s.lif.inbound ∧
    s.pump.lif.straps = s.lif.straps ∧ s.pump.lif.flags = s.lif.flags := by
  have hf : ∀ t : State, t.fillHolding.lif.receiver = t.lif.receiver ∧ t.fillHolding.lif.inbound = t.lif.inbound ∧
      t.fillHolding.lif.straps = t.lif.straps ∧ t.fillHolding.lif.flags = t.lif.flags := by
    intro t; unfold State.fillHolding; (repeat' split) <;> simp
  have hs : ∀ t : State, t.startShifting.lif.receiver = t.lif.receiver ∧
      t.startShifting.lif.inbound = t.lif.inbound ∧ t.startShifting.lif.straps = t.lif.straps ∧
      t.startShifting.lif.flags = t.lif.flags := by
    intro t; unfold State.startShifting; (repeat' split) <;> simp
  simp [State.pump, hf, hs]

/-- With no frame buffered the end of an event is the transmitter's. -/
theorem State.settled_of_empty {s : State} (h : s.lif.inbound = []) : s.settled = s.pump := by
  simp [State.settled, h, State.serve]

/-- With no room for a reply the end of an event is the transmitter's. -/
theorem State.settled_of_full {s : State} (h : s.pump.replyRoom = false) : s.settled = s.pump := by
  unfold State.settled
  cases hn : s.lif.inbound with
  | nil => rfl
  | cons f rest =>
    simp [State.serve, hn, h]

/-- R182: with room the oldest buffered frame is taken, and the rest of the event goes on from there. -/
theorem State.settled_of_frame {s : State} {f : InFrame} {rest : List InFrame} (h : s.lif.inbound = f :: rest)
    (hroom : s.pump.replyRoom = true) :
    s.settled = ((s.pump.setLif { s.pump.lif with inbound := rest }).owner (decodeFrame f)).settled := by
  have ho := (State.owner_line (s.pump.setLif { s.pump.lif with inbound := rest }) (decodeFrame f)).2.1
  unfold State.settled
  rw [ho]
  simp [h, State.serve, hroom]

/-- Every proof about the end of an event: a property that the transmitter keeps, and the taking of a buffered frame
with room for its reply, holds there. -/
theorem State.settled_induct {P : State → Prop} (hpump : ∀ s, P s → P s.pump)
    (htake : ∀ s f rest, P s → s.lif.inbound = f :: rest → s.replyRoom = true →
      P ((s.setLif { s.lif with inbound := rest }).owner (decodeFrame f)))
    (s : State) (hs : P s) : P s.settled := by
  have h : ∀ n (s : State), s.lif.inbound.length = n → P s → P s.settled := by
    intro n
    induction n with
    | zero =>
      intro s hn hs
      rw [State.settled_of_empty (List.eq_nil_of_length_eq_zero hn)]
      exact hpump s hs
    | succ n ih =>
      intro s hn hs
      cases hin : s.lif.inbound with
      | nil => rw [State.settled_of_empty hin]; exact hpump s hs
      | cons f rest =>
        cases hroom : s.pump.replyRoom with
        | false => rw [State.settled_of_full hroom]; exact hpump s hs
        | true =>
          have hp : s.pump.lif.inbound = f :: rest := by simp [hin]
          rw [State.settled_of_frame hin hroom]
          apply ih _ _ (htake _ _ _ (hpump s hs) hp hroom)
          rw [(State.owner_line _ _).2.1]
          simpa [hin] using hn
  exact h _ s rfl hs

/-- The end of an event leaves the transmitter served, and a frame in the buffers only where no reply fits. -/
theorem State.settled_quiet (s : State) :
    (∃ u : State, s.settled = u.pump) ∧ (s.settled.lif.inbound = [] ∨ s.settled.replyRoom = false) := by
  have h : ∀ n (s : State), s.lif.inbound.length = n →
      (∃ u : State, s.settled = u.pump) ∧ (s.settled.lif.inbound = [] ∨ s.settled.replyRoom = false) := by
    intro n
    induction n with
    | zero =>
      intro s hn
      have hin := List.eq_nil_of_length_eq_zero hn
      rw [State.settled_of_empty hin]
      exact ⟨⟨s, rfl⟩, .inl (by simp [hin])⟩
    | succ n ih =>
      intro s hn
      cases hin : s.lif.inbound with
      | nil => rw [State.settled_of_empty hin]; exact ⟨⟨s, rfl⟩, .inl (by simp [hin])⟩
      | cons f rest =>
        cases hroom : s.pump.replyRoom with
        | false => rw [State.settled_of_full hroom]; exact ⟨⟨s, rfl⟩, .inr hroom⟩
        | true =>
          rw [State.settled_of_frame hin hroom]
          apply ih
          rw [(State.owner_line _ _).2.1]
          simpa [hin] using hn
  exact h _ s rfl

/-- The queue stays through the end of an event. -/
@[simp] theorem State.settled_pending (s : State) : s.settled.pending = s.pending := by
  have h := State.settled_induct (P := fun u => u.pending = s.pending) (fun u hu => by simp [hu])
    (fun u f rest hu _ _ => by simp [hu]) s rfl
  exact h

/-! ## How a request ends -/

/-- The handler takes a request exactly where `takes` says so. -/
theorem State.takesNow_iff (s : State) : s.takesNow = true ↔ s.takes := by
  simp only [State.takesNow, State.takes, State.replyRoom, Bool.and_eq_true, List.isEmpty_iff, decide_eq_true_eq]
  exact Iff.rfl

/-- A request the handler takes ends with its owner's state, the line settled. -/
theorem handle_takes {i : Instr} {s : State} (h : s.takes) : handle i s = .next (s.owner i).settled := by
  simp [handle, s.takesNow_iff.mpr h, finish]

/-- A request that the handler does not take changes nothing but the line before the event ends. -/
theorem handle_waits {i : Instr} {s : State} (h : ¬ s.takes) : handle i s = .next (s.joinRequest i).settled := by
  have hn : s.takesNow = false := by
    cases ht : s.takesNow with
    | false => rfl
    | true => exact absurd (s.takesNow_iff.mp ht) h
  simp [handle, hn, finish]

/-- A request that is taken, in the terms of the statements. -/
theorem asks_of_handle {i : Instr} {s : State} (hi : exec i s = handle i s) (h : s.takes) :
    asks i s (s.owner i) := ⟨rfl, by rw [ends, hi, handle_takes h]⟩

/-- Every request answers a next state, and leaves the queue. -/
theorem handle_next (i : Instr) (s : State) : ∃ t, handle i s = .next t ∧ t.pending = s.pending := by
  by_cases h : s.takes
  · exact ⟨_, handle_takes h, by simp⟩
  · exact ⟨_, handle_waits h, by simp⟩

end Sys2Proof.Machine
end

