-- ==== Sys2Proof/Laws/Holds.lean ====
section
/-!
SUPPORT. The hold expiry and the drop of a quote, and the expiry and clearing of the Passback List together.
-/

namespace Sys2Proof.Machine

/-- R152: a slot whose hold is not due stays. -/
theorem State.expireHold_of_not_due {s : State} {k : SlotId}
    (h : ∀ i x r e, (s.slot k).state = .quoted i x r e → s.stamp < e) : s.expireHold k = s := by
  unfold State.expireHold State.holdDue
  split
  · rename_i heq
    have := h _ _ _ _ heq
    simp [Nat.not_le.mpr this]
  all_goals rfl

/-- R152: a slot whose hold is due is dropped. -/
theorem State.expireHold_of_due {s : State} {k : SlotId} {i : QuoteIdentity} {x : Snapshot} {r : Results} {e : Nat}
    (h : (s.slot k).state = .quoted i x r e) (hd : e ≤ s.stamp) : s.expireHold k = s.dropQuote k .expired := by
  simp [State.expireHold, State.holdDue, h, hd]

/-- R152: with no hold due nothing is dropped. -/
theorem State.expireHolds_of_none_due {s : State}
    (h : ∀ k i x r e, (s.slot k).state = .quoted i x r e → s.stamp < e) : s.expireHolds = s := by
  simp [State.expireHolds, fourInOrder, State.expireHold_of_not_due (h _)]

/-- R109, R110: of a cleared list nothing more expires. -/
theorem filter_cleared_staysAt (xs : List PassbackEntry) (stamp interval : Nat) :
    (xs.filter fun x => !x.isCommitted).filter (fun x => x.staysAt stamp interval) =
      xs.filter fun x => !x.isCommitted := by
  rw [List.filter_filter]
  apply List.filter_congr
  intro x _
  unfold PassbackEntry.isCommitted PassbackEntry.staysAt
  cases x.phase <;> simp

/-- R150: the blocks after a drop to a state. -/
theorem State.dropTo_spec (s : State) (k : SlotId) (p : Nat) (reason : DropReason) (next : SlotState) :
    (s.dropTo k p reason next).passes = updateIn p (fun e => { e with status := .active }) s.passes ∧
    (s.dropTo k p reason next).rfc = { s.rfc with queue := s.rfc.queue.filter fun i => i != k } ∧
    (s.dropTo k p reason next).quotes =
      s.quotes.set k { state := next, lastEnding := some { pass := p, reason := reason } } ∧
    (s.dropTo k p reason next).journal = s.journal.write s.stamp (.quoteDropped p k reason) ∧
    (s.dropTo k p reason next).notices =
      (if (s.journal.write s.stamp (.quoteDropped p k reason)).isHigh then s.notices.raise .journalHigh
        else s.notices).raise (.quoteEnded k) := by
  refine ⟨?_, ?_, ?_, ?_, ?_⟩
  · simp [State.dropTo]
  · simp [State.dropTo]
  · simp [State.dropTo, State.setSlot]
  · simp [State.dropTo]; rfl
  · simp only [State.dropTo, State.raise_notices, State.writeRecord_notices]; rfl

/-- R150: which drop an occupied slot takes. -/
theorem State.dropQuote_eq {s : State} {k : SlotId} {i : QuoteIdentity} (h : (s.slot k).state.identity? = some i)
    (reason : DropReason) :
    s.dropQuote k reason =
      s.dropTo k i.pass reason (if (s.slot k).state.phase = .computing then .cancelling else .free) := by
  unfold State.dropQuote
  cases hs : (s.slot k).state <;> simp_all [SlotState.identity?, SlotState.phase]

end Sys2Proof.Machine
end

