-- ==== Sys2Proof/Laws/Kept.lean ====
section
/-!
SUPPORT. The shapes of every invariant proof: from one command to a step, and from an owner to its request.
-/

namespace Sys2Proof.Machine

/-- A property that the queue does not matter to is kept by every step, if every command keeps it and so does a step of
the calculator at the end of an event. -/
theorem keptByStep_of_exec {P : State → Prop} (hpend : ∀ s x, P s → P (s.setPending x))
    (hexec : ∀ i s t, P s → exec i s = .next t → P t) (hidle : ∀ s, P s → P s.calculatorStep.settled) :
    KeptByStep P := by
  intro s t hs ht
  unfold step at ht
  split at ht
  · cases ht; exact hidle _ hs
  · exact hexec _ _ _ (hpend _ _ hs) ht

/-- A property of other blocks than the line is kept through the end of an event, if every owner and the transmitter
keep it. -/
theorem kept_settled {P : State → Prop} (hlif : ∀ s x, P s → P (s.setLif x)) (hpump : ∀ s, P s → P s.pump)
    (howner : ∀ i s, P s → P (s.owner i)) {s : State} (hs : P s) : P s.settled :=
  State.settled_induct hpump (fun u _ _ hu _ _ => howner _ _ (hlif u _ hu)) s hs

/-- A property of other blocks than the line is kept by a request, if every owner and the transmitter keep it. -/
theorem kept_handle {P : State → Prop} (i : Instr) (hlif : ∀ s x, P s → P (s.setLif x))
    (hpump : ∀ s, P s → P s.pump) (howner : ∀ i s, P s → P (s.owner i)) {s t : State} (hs : P s)
    (ht : handle i s = .next t) : P t := by
  have hjoin : P (s.joinRequest i) := by
    unfold State.joinRequest State.joinInbound
    (repeat' split)
    · exact hlif _ _ hs
    · exact hlif _ _ hs
    · exact hs
  unfold handle finish at ht
  split at ht <;> cases ht
  · exact kept_settled hlif hpump howner (howner _ _ hs)
  · exact kept_settled hlif hpump howner hjoin

end Sys2Proof.Machine
end

