-- ==== Sys2Proof/Laws/Lapse.lean ====
section
/-!
SUPPORT. What a lapse, a withdrawal and the lapse of all lanes do, block by block, and how the pending admissions read
after each operation of the Passback List.
-/

namespace Sys2Proof.Machine

/-! ## Reading what an unchanged block gives -/

theorem State.pendingPass_congr {s u : State} (h : u.pbl = s.pbl) (l : LaneId) :
    u.pendingPass l = s.pendingPass l := by
  simp [State.pendingPass, h]

theorem State.stamp_congr {s u : State} (h : u.rcc = s.rcc) : u.stamp = s.stamp := by
  simp [State.stamp, h]

theorem State.lane_congr {s u : State} (h : u.lanes = s.lanes) (l : LaneId) : u.lane l = s.lane l := by
  simp [State.lane, h]

theorem State.slot_congr {s u : State} (h : u.quotes = s.quotes) (k : SlotId) : u.slot k = s.slot k := by
  simp [State.slot, h]

theorem State.counters_congr {s u : State} (h : u.tally = s.tally) (l : LaneId) : u.counters l = s.counters l := by
  simp [State.counters, h]

/-! ## One lapse -/

/-- R103: with no admission pending nothing happens. -/
theorem State.lapse_of_none {s : State} {l : LaneId} (h : s.pendingPass l = none) (r : LapseReason) :
    s.lapse l r = s := by
  simp [State.lapse, h]

/-- R103: the blocks after a lapse. -/
theorem State.lapse_of_some {s : State} {l : LaneId} {p : Nat} (h : s.pendingPass l = some p) (r : LapseReason) :
    (s.lapse l r).passes = updateIn p (fun e => { e with marker := none }) s.passes ∧
    (s.lapse l r).pbl = { s.pbl with entries := s.pbl.entries.filter fun e => !(e.phase == .pending l) } ∧
    (s.lapse l r).tally = s.tallyWith l { s.counters l with lapsed := bump (s.counters l).lapsed } ∧
    (s.lapse l r).journal = s.journal.write s.stamp (.lapsed l p r) ∧
    (s.lapse l r).notices =
      (if (s.journal.write s.stamp (.lapsed l p r)).isHigh then s.notices.raise .journalHigh else s.notices) ∧
    (s.lapse l r).lanes = s.lanes.set l { s.lane l with unlockTimer := none } := by
  simp only [State.lapse, h]
  refine ⟨?_, ?_, ?_, ?_, ?_, ?_⟩
  · simp
  · simp
  · simp [State.tallyWith, State.counters]
  · simp [State.stamp]
  · simp only [State.setLane, State.setLanes_notices, State.writeRecord_notices, State.countLane_frame]
    rfl
  · simp [State.setLane, State.lane]

/-- R103: after a lapse the lane has no admission pending, and every other lane as before. -/
theorem State.pendingPass_lapse (s : State) (l k : LaneId) (r : LapseReason) :
    (s.lapse l r).pendingPass k = if k = l then none else s.pendingPass k := by
  cases h : s.pendingPass l with
  | none =>
    rw [State.lapse_of_none h]
    by_cases hk : k = l
    · subst hk; simp [h]
    · simp [hk]
  | some p =>
    simp only [State.pendingPass, (State.lapse_of_some h r).2.1, List.find?_filter]
    by_cases hk : k = l
    · subst hk
      simp only [if_true, Option.map_eq_none_iff, List.find?_eq_none]
      intro x _; cases x.phase == PassbackPhase.pending k <;> simp
    · simp only [hk, if_false]
      congr 1
      congr 1
      funext x
      by_cases hx : x.phase = .pending k
      · simp [hx, hk]
      · simp [hx]

/-- R104: the lapse of all lanes leaves none pending. -/
theorem State.pendingPass_lapseAll (s : State) (k : LaneId) (r : LapseReason) :
    (s.lapseAll r).pendingPass k = none := by
  simp only [State.lapseAll, fourInOrder, List.foldl, State.pendingPass_lapse]
  match k with
  | 0 => simp
  | 1 => simp
  | 2 => simp
  | 3 => simp

/-- R103: a lapse keeps every lane but its own, and of its own it stops the unlock timer if an admission is pending. -/
theorem State.lane_lapse (s : State) (l k : LaneId) (r : LapseReason) :
    (s.lapse l r).lane k = if k = l ∧ (s.pendingPass l).isSome then { s.lane k with unlockTimer := none }
      else s.lane k := by
  cases h : s.pendingPass l with
  | none => simp [State.lapse_of_none h]
  | some p =>
    simp only [State.lane, (State.lapse_of_some h r).2.2.2.2.2, Quad.get_set]
    by_cases hk : k = l
    · subst hk; simp
    · simp [hk]

/-- R103: the counters after a lapse. -/
theorem State.counters_lapse (s : State) (l k : LaneId) (r : LapseReason) :
    (s.lapse l r).counters k = if k = l then s.lapsedCounters l else s.counters k := by
  cases h : s.pendingPass l with
  | none =>
    by_cases hk : k = l
    · subst hk; simp [State.lapse_of_none h, State.lapsedCounters, h]
    · simp [State.lapse_of_none h, hk]
  | some p =>
    simp only [State.counters, (State.lapse_of_some h r).2.2.1, State.tallyWith, Quad.get_set]
    by_cases hk : k = l
    · subst hk; simp [State.lapsedCounters, h, State.counters]
    · simp [hk]

/-- R103: a lapse changes the lapsed count alone. -/
theorem State.tally_lapse (s : State) (l : LaneId) (r : LapseReason) :
    (s.lapse l r).tally = { s.tally with today := { s.tally.today with
      lanes := (s.lapse l r).tally.today.lanes } } := by
  cases h : s.pendingPass l with
  | none => simp [State.lapse_of_none h]
  | some p => simp [(State.lapse_of_some h r).2.2.1, State.tallyWith]

/-- R103: a lapse changes markers alone. -/
theorem State.passes_lapse (s : State) (l : LaneId) (r : LapseReason) :
    ((s.lapse l r).passes.map fun e => { e with marker := none }) =
      (s.passes.map fun e => { e with marker := none }) := by
  cases h : s.pendingPass l with
  | none => simp [State.lapse_of_none h]
  | some p =>
    simp only [(State.lapse_of_some h r).1, updateIn, List.map_map]
    apply List.map_congr_left
    intro e _
    simp only [Function.comp]
    split <;> rfl

/-- R103: the passes after a lapse. -/
theorem State.findPass_lapse (s : State) (l : LaneId) (r : LapseReason) (q : Nat) :
    (s.lapse l r).findPass q = if s.pendingPass l = some q then (s.findPass q).map (fun e => { e with marker := none })
      else s.findPass q := by
  cases h : s.pendingPass l with
  | none => simp [State.lapse_of_none h]
  | some p =>
    have hp := (State.lapse_of_some h r).1
    have hf := s.findPass_updatePass p q (fun e => { e with marker := none }) (fun _ => rfl)
    rw [State.findPass_congr (s := s.updatePass p fun e => { e with marker := none }) (u := s.lapse l r) (by simp [hp]),
      hf]
    by_cases hq : q = p
    · subst hq; simp
    · simp [hq, Ne.symm hq]

/-! ## One withdrawal -/

/-- R91: the waiting set and the line after a withdrawal. -/
theorem State.withdraw_spec (s : State) (l : LaneId) :
    (s.withdraw l).ae = { s.ae with waiting := s.ae.waiting.set l none } ∧
    (s.withdraw l).lif = { s.lif with replies := s.lif.replies ++ s.busyReplies l } := by
  unfold State.withdraw State.busyReplies
  cases h : s.ae.waiting.get l with
  | none =>
    refine ⟨?_, by simp⟩
    have : s.ae.waiting.set l none = s.ae.waiting := by
      apply Quad.ext_get; intro i; rw [Quad.get_set]; split
      · subst_vars; exact h.symm
      · rfl
    rw [this]
  | some r =>
    obtain ⟨p, k⟩ := r
    cases k <;> simp

end Sys2Proof.Machine
end

