-- ==== Sys2Proof/Laws/LaneEffects.lean ====
section
/-!
SUPPORT. What reader health, a short buzzer pattern and a fault latch do to a lane and to the notices, said once.
-/

namespace Sys2Proof.Machine

/-- R63: a good outcome, field by field. -/
theorem Lane.healthy_eq (x : Lane) : x.healthy = { x with
    silentCount := 0
    lossPresent := x.lossPresent && x.recoveryCount == 0
    recoveryCount := if x.lossPresent then (if x.recoveryCount = 0 then 1 else 0) else x.recoveryCount } := by
  unfold Lane.healthy
  cases x
  dsimp only
  split <;> (try split) <;> simp_all

/-- R68, R79: a chirp or a double tone touches the pattern alone. -/
theorem Lane.soundShort_eq (x : Lane) (p : BuzzerPattern) : x.soundShort p = { x with
    pattern := if x.buzzerOverride = .auto ∧ x.pattern ≠ .alarm then p else x.pattern } := by
  unfold Lane.soundShort
  split <;> rfl

/-- R81, R167: the journal and the notices after a fault latch is set where no admission lapses: the lane was in FAULT,
or has none pending. -/
theorem State.latchFault_of_no_lapse {s : State} {l : LaneId} {f : FaultLatch}
    (h : (s.lane l).latches.has f = false) (hp : (s.lane l).latches.any = true ∨ s.pendingPass l = none) :
    (s.latchFault l f).journal = s.journal.write s.stamp (.fault l ((s.lane l).latches.add f)) ∧
    (s.latchFault l f).notices =
      (if (s.latchFault l f).journal.isHigh then s.notices.raise .journalHigh else s.notices).raise (.laneFault l) := by
  have hs : ∀ x, (s.setLane l x).stamp = s.stamp := fun _ => rfl
  rcases hp with hp | hp
  · simp [State.latchFault, h, hp, State.writeRecord_notices, Lane.latch, hs]
  · cases ha : (s.lane l).latches.any
    · have hq : ∀ x b y, (((s.setLane l x).writeRecord b).setLane l y).pendingPass l = none := fun x b y =>
        (State.pendingPass_congr (by simp) l).trans hp
      simp [State.latchFault, h, ha, State.enterFault, State.lapse_of_none (hq _ _ _), State.writeRecord_notices,
        Lane.latch, hs]
    · simp [State.latchFault, h, ha, State.writeRecord_notices, Lane.latch, hs]

/-- R81, R103, R167: the journal and the notices after a fault latch is set and the pending admission lapses. -/
theorem State.latchFault_of_lapse {s : State} {l : LaneId} {f : FaultLatch} {p : Nat}
    (h : (s.lane l).latches.has f = false) (ha : (s.lane l).latches.any = false) (hp : s.pendingPass l = some p) :
    (s.latchFault l f).journal =
      (s.journal.write s.stamp (.fault l ((s.lane l).latches.add f))).write s.stamp (.lapsed l p .fault) ∧
    ∀ n, n = (if (s.journal.write s.stamp (.fault l ((s.lane l).latches.add f))).isHigh
        then s.notices.raise .journalHigh else s.notices) →
      (s.latchFault l f).notices =
        (if (s.latchFault l f).journal.isHigh then n.raise .journalHigh else n).raise (.laneFault l) := by
  have hs : ∀ x b y, (((s.setLane l x).writeRecord b).setLane l y).stamp = s.stamp := fun _ _ _ =>
    State.stamp_congr (by simp)
  have hs' : ∀ x, (s.setLane l x).stamp = s.stamp := fun _ => rfl
  have hq : ∀ x b y, (((s.setLane l x).writeRecord b).setLane l y).pendingPass l = some p := fun x b y =>
    (State.pendingPass_congr (by simp) l).trans hp
  have hj := fun x b y => (State.lapse_of_some (hq x b y) .fault).2.2.2.1
  have hn := fun x b y => (State.lapse_of_some (hq x b y) .fault).2.2.2.2.1
  simp [State.latchFault, h, ha, State.enterFault, hj, hn, State.writeRecord_notices, Lane.latch, hs, hs']

end Sys2Proof.Machine
end

