-- ==== Sys2Proof/Laws/Operands.lean ====
section
/-!
SUPPORT. What the operand decoders answer, in the terms of Safety.
-/

namespace Sys2Proof.Machine

/-- A two-valued byte is 0 exactly for `false`. -/
theorem boolOf_false (b : Byte) : boolOf b = some false ↔ b.toNat = 0 := by
  unfold boolOf; split <;> simp_all
/-- A two-valued byte is 1 exactly for `true`. -/
theorem boolOf_true (b : Byte) : boolOf b = some true ↔ b.toNat = 1 := by
  unfold boolOf; split <;> simp_all
/-- Any other byte names neither. -/
theorem boolOf_none (b : Byte) : boolOf b = none ↔ 1 < b.toNat := by
  unfold boolOf; split <;> simp_all; omega

/-- Table 10.2: a KIND byte names the request kind of that code. -/
theorem ofCode?_eq_some_iff (b : Byte) (k : RequestKind) : RequestKind.ofCode? b = some k ↔ k.code = b := by
  have h : ∀ b, RequestKind.all.all fun k => decide (RequestKind.ofCode? b = some k ↔ k.code = b) := by decide +kernel
  simpa using List.all_eq_true.mp (h b) k (by cases k <;> decide)

/-- R183: a frame that is not BAD_FORMAT has a request kind and a length the kind allows. -/
theorem isBadFormat_eq_false_iff (f : InFrame) :
    isBadFormat f = false ↔ ∃ k : RequestKind, k.code = f.kind ∧ k.lengthAllowed f.payload.length = true := by
  simp only [← ofCode?_eq_some_iff]
  unfold isBadFormat
  cases RequestKind.ofCode? f.kind <;> simp

/-- R20: the policy carried is the one its bytes name. -/
theorem policyOf_eq_some_iff (f : ProductFields) (r : RefundPolicy) : policyOf f = some r ↔ NamesPolicy f r := by
  unfold policyOf NamesPolicy
  obtain ⟨a, b, c, d, e, g⟩ := r
  cases hb : boolOf f.stormCredit with
  | none => simp
  | some storm =>
    dsimp only
    constructor
    · intro h
      split at h
      · rename_i hc
        cases h
        exact ⟨rfl, rfl, hc.1, rfl, rfl, hc.2.1, rfl, rfl, hc.2.2⟩
      · cases h
    · rintro ⟨rfl, rfl, h1, rfl, rfl, h2, h4, rfl, h3⟩
      cases h4
      exact if_pos ⟨h1, h2, h3⟩

/-- The policy is absent or present as the presence byte says. -/
theorem carriedPolicy_iff (f : ProductFields) (o : Option RefundPolicy) : carriedPolicy f = some o ↔
   (f.policyPresent.toNat = 0 ∧ o = none) ∨ (f.policyPresent.toNat = 1 ∧ ∃ r, o = some r ∧ NamesPolicy f r) := by
  unfold carriedPolicy
  rcases hb : boolOf f.policyPresent with _ | _ | _
  · rw [boolOf_none] at hb; simp; omega
  · rw [boolOf_false] at hb; simp [hb]; exact eq_comm
  · rw [boolOf_true] at hb; simp [hb, policyOf_eq_some_iff]
    constructor
    · rintro ⟨r, h, rfl⟩; exact ⟨r, rfl, h⟩
    · rintro ⟨r, rfl, h⟩; exact ⟨r, h, rfl⟩

/-- R19: the kind carried, with N and W agreeing. -/
theorem carriedKind_iff (f : ProductFields) (b : Bool) (k : ProductKind) : carriedKind f b = some k ↔
   ((f.kind.toNat = 0 ∧ k = .days f.days.toNat ∧ 1 ≤ f.days.toNat ∧ f.days.toNat ≤ 14 ∧
      f.days.toNat ≤ f.window.toNat ∧ f.window.toNat ≤ 32) ∨
    (f.kind.toNat = 1 ∧ k = .season ∧ f.days.toNat = 0 ∧ 1 ≤ f.window.toNat ∧ f.window.toNat ≤ 240 ∧
      b = false)) := by
  unfold carriedKind
  dsimp only
  split
  · rename_i h; simp [h]; constructor
    · rintro ⟨a, rfl⟩; simp [a]
    · rintro ⟨rfl, a⟩; simp [a]
  · rename_i h; simp [h]; constructor
    · rintro ⟨a, rfl⟩; simp [a]
    · rintro ⟨rfl, a⟩; simp [a]
  · rename_i h1 h2
    constructor
    · intro h; cases h
    · rintro (⟨h, _⟩ | ⟨h, _⟩)
      · exact absurd h h1
      · exact absurd h h2

/-- R19, R20: the record carried is the product its fields name. -/
theorem productOf_eq_some_iff (f : ProductFields) (p : Product) : productOf f = some p ↔ NamesProduct f p := by
  unfold productOf NamesProduct
  obtain ⟨k, w, m, o, c, r⟩ := p
  cases h1 : carriedPolicy f with
  | none =>
    constructor
    · intro h; cases h
    · rintro ⟨_, _, _, _, _, _, _, hr⟩
      have := (carriedPolicy_iff f r).mpr hr
      simp [h1] at this
  | some pol =>
    simp
    have hp := carriedPolicy_iff f
    rw [h1] at hp
    cases h2 : carriedKind f pol.isSome with
    | none =>
      constructor
      · intro h; cases h
      · rintro ⟨hk, _, _, _, _, _, _, hr⟩
        rw [← hp] at hr
        simp at hr; subst hr
        have := (carriedKind_iff f pol.isSome k).mpr (by simpa using hk)
        simp [h2] at this
    | some kind =>
      simp
      have hk := carriedKind_iff f pol.isSome
      rw [h2] at hk
      simp only [← hp]
      constructor
      · rintro ⟨⟨h3, h4, h5, h6⟩, rfl, rfl, rfl, rfl, rfl, rfl⟩
        refine ⟨?_, rfl, rfl, rfl, rfl, h6, h5, rfl⟩
        simpa using (hk kind).mp rfl
      · rintro ⟨h3, rfl, rfl, rfl, rfl, h4, h5, h6⟩
        simp at h6; subst h6
        have := (hk k).mpr (by simpa using h3)
        simp at this; subst this
        refine ⟨⟨?_, ?_, ?_, ?_⟩, rfl, rfl, rfl, rfl, rfl, rfl⟩ <;> omega

/-- R8: the site configuration carried, exactly when every field is in its range. -/
theorem siteOf_eq_some_iff (f : SiteFields) (c : SiteConfig) :
    siteOf f = some c ↔ SiteFieldsInRange f ∧
      c = { liftNumber := f.liftNumber.toNat, rolloverMinute := f.rolloverMinute.toNat,
            readerLoss := f.readerLoss.toNat, beamStuck := f.beamStuck.toNat, armStuck := f.armStuck.toNat,
            matchWindow := f.matchWindow.toNat, holdTime := f.holdTime.toNat } := by
  unfold siteOf SiteFieldsInRange
  dsimp only
  split
  · rename_i h
    constructor
    · intro hc; cases hc
      obtain ⟨h1, h2, h3, h4, h5, h6, h7, h8, h9, h10, h11, h12⟩ := h
      exact ⟨⟨h1, h2, ⟨h3, h4⟩, ⟨h5, h6⟩, ⟨h7, h8⟩, ⟨h9, h10⟩, ⟨h11, h12⟩⟩, rfl⟩
    · rintro ⟨_, rfl⟩; rfl
  · rename_i h
    constructor
    · intro hc; cases hc
    · rintro ⟨⟨h1, h2, ⟨h3, h4⟩, ⟨h5, h6⟩, ⟨h7, h8⟩, ⟨h9, h10⟩, ⟨h11, h12⟩⟩, _⟩
      exact absurd ⟨h1, h2, h3, h4, h5, h6, h7, h8, h9, h10, h11, h12⟩ h

/-- The statuses the host may name (R33). -/
theorem hostStatusOf_eq_some_iff (b : Byte) (st : PassStatus) :
    hostStatusOf b = some st ↔ (b.toNat = 0 ∧ st = .active) ∨ (b.toNat = 1 ∧ st = .blocked) ∨
      (b.toNat = 3 ∧ st = .refunded) := by
  unfold hostStatusOf
  split
  · rename_i h; simp [h]; exact eq_comm
  · rename_i h; simp [h]; exact eq_comm
  · rename_i h; simp [h]; exact eq_comm
  · rename_i h1 h2 h3
    constructor
    · intro h; cases h
    · rintro (⟨h, _⟩ | ⟨h, _⟩ | ⟨h, _⟩)
      · exact absurd h h1
      · exact absurd h h2
      · exact absurd h h3

/-- R33, step 1: the check of a record's fields. -/
theorem State.recordStatus?_eq_some_iff (s : State) (r : PassRecord) (st : PassStatus) :
    s.recordStatus? r = some st ↔ s.namesPass r st := by
  unfold State.recordStatus? State.namesPass legalPass legalCode
  split
  · rename_i h
    simp only [Bool.and_eq_true, decide_eq_true_eq] at h
    rw [hostStatusOf_eq_some_iff]
    exact ⟨fun k => ⟨h.1, h.2.1, h.2.2.1, h.2.2.2, k⟩, fun k => k.2.2.2.2⟩
  · rename_i h
    simp only [Bool.and_eq_true, decide_eq_true_eq] at h
    constructor
    · intro hc; cases hc
    · rintro ⟨h1, h2, h3, h4, _⟩
      exact absurd ⟨h1, h2, h3, h4⟩ h

/-- R33, step 1: a record that names no entry. -/
theorem State.recordStatus?_eq_none_iff (s : State) (r : PassRecord) :
    s.recordStatus? r = none ↔ ¬ ∃ st, s.namesPass r st := by
  rw [Option.eq_none_iff_forall_ne_some]
  constructor
  · rintro h ⟨st, hst⟩
    exact h st ((s.recordStatus?_eq_some_iff r st).mpr hst)
  · intro h st hst
    exact h ⟨st, (s.recordStatus?_eq_some_iff r st).mp hst⟩

end Sys2Proof.Machine
end

