-- ==== Sys2Proof/Laws/PerInstr.lean ====
section
/-!
SUPPORT. Statements made for every command, one lemma for each constructor of `Instr`.
-/

namespace Sys2Proof.Laws

/-- R177, Table 10.2: the frame of a well-formed request has a payload of at most 120 bytes, and the request handler
finds its kind and length good, unless the command stands for a frame whose kind or length is not. -/
def RequestFrame.Statement (i : Instr) : Prop :=
  WellFormed i → ∀ f, encodeRequest i = some f →
    f.payload.length ≤ Config.maxPayload ∧
      (isBadFormat f = false ∨ ∃ kind tag payload, i = .badFormatFrame kind tag payload)

namespace RequestFrame

/-- A command that is no request has no frame. -/
theorem of_none {i : Instr} (h : encodeRequest i = none) : Statement i := by
  intro _ f hf
  rw [h] at hf
  cases hf

/-- A request whose frame has an allowed length of at most 120 bytes. -/
theorem of_frame {i : Instr} {g : InFrame} (h : encodeRequest i = some g) (hl : decide (g.payload.length ≤ Config.maxPayload) = true)
    (hb : isBadFormat g = false) : Statement i := by
  intro _ f hf
  rw [h] at hf
  cases hf
  exact ⟨of_decide_eq_true hl, .inl hb⟩

/-- The bytes of the records of a chunk. -/
theorem records_length (rs : List PassRecord) : ((rs.map encodeRecord).flatten).length = 10 * rs.length := by
  induction rs with
  | nil => rfl
  | cons r rs ih =>
    simp only [List.map_cons, List.flatten_cons, List.length_append, List.length_cons, ih]
    simp [encodeRecord, bytes32, bytes24]
    omega

theorem coldReset (rate1 : Bool) (rate0 : Bool) : Statement (.coldReset rate1 rate0) := of_none rfl
theorem restart (tag : Byte) : Statement (.restart tag) := of_frame rfl rfl rfl
theorem run (tag : Byte) : Statement (.run tag) := of_frame rfl rfl rfl
theorem setup (tag : Byte) : Statement (.setup tag) := of_frame rfl rfl rfl
theorem siteConfig (tag : Byte) (fields : SiteFields) : Statement (.siteConfig tag fields) := of_frame rfl rfl rfl
theorem identify (tag : Byte) : Statement (.identify tag) := of_frame rfl rfl rfl
theorem setClock (tag : Byte) (day : Byte) (second : U24) : Statement (.setClock tag day second) := of_frame rfl rfl rfl
theorem liftStatus (tag : Byte) (value : Byte) : Statement (.liftStatus tag value) := of_frame rfl rfl rfl
theorem calendarMark (tag : Byte) (day : Byte) (mark : Byte) : Statement (.calendarMark tag day mark) := of_frame rfl rfl rfl
theorem passbackSet (tag : Byte) (interval : U16) : Statement (.passbackSet tag interval) := of_frame rfl rfl rfl
theorem productPut (tag : Byte) (code : Byte) (fields : ProductFields) : Statement (.productPut tag code fields) := of_frame rfl rfl rfl
theorem productClear (tag : Byte) (code : Byte) : Statement (.productClear tag code) := of_frame rfl rfl rfl
theorem passPut (tag : Byte) (record : PassRecord) : Statement (.passPut tag record) := of_frame rfl rfl rfl
theorem passBlock (tag : Byte) (pass : U32) : Statement (.passBlock tag pass) := of_frame rfl rfl rfl
theorem passUnblock (tag : Byte) (pass : U32) : Statement (.passUnblock tag pass) := of_frame rfl rfl rfl
theorem passDelete (tag : Byte) (pass : U32) : Statement (.passDelete tag pass) := of_frame rfl rfl rfl
theorem passQuery (tag : Byte) (pass : U32) (mode : Byte) : Statement (.passQuery tag pass mode) := of_frame rfl rfl rfl
theorem usageMerge (tag : Byte) (pass : U32) (days : List Byte) : Statement (.usageMerge tag pass days) := by
  intro hw f hf
  simp only [WellFormed, Instr.wellFormed, usageMergeLengthOk, Bool.and_eq_true, decide_eq_true_eq] at hw
  cases hf
  have hl : (bytes32 pass ++ days).length = days.length + 4 := by simp [bytes32]
  refine ⟨by simp only [hl, Config.maxPayload]; omega, .inl ?_⟩
  have h : isBadFormat ⟨RequestKind.usageMerge.code, tag, bytes32 pass ++ days⟩ =
      !(RequestKind.usageMerge.lengthAllowed (bytes32 pass ++ days).length) := rfl
  rw [h, hl]
  simp [RequestKind.lengthAllowed]
  omega
theorem xferOpen (tag : Byte) (mode : Byte) (purge : Byte) (count : U16) : Statement (.xferOpen tag mode purge count) := of_frame rfl rfl rfl
theorem xferChunk (tag : Byte) (records : List PassRecord) : Statement (.xferChunk tag records) := by
  intro hw f hf
  simp only [WellFormed, Instr.wellFormed, chunkLengthOk, Bool.and_eq_true, decide_eq_true_eq] at hw
  cases hf
  refine ⟨by simp only [records_length, Config.maxPayload]; omega, .inl ?_⟩
  have h : isBadFormat ⟨RequestKind.xferChunk.code, tag, (records.map encodeRecord).flatten⟩ =
      !(RequestKind.xferChunk.lengthAllowed ((records.map encodeRecord).flatten).length) := rfl
  rw [h, records_length]
  simp [RequestKind.lengthAllowed]
  omega
theorem xferAbort (tag : Byte) : Statement (.xferAbort tag) := of_frame rfl rfl rfl
theorem xferStatus (tag : Byte) : Statement (.xferStatus tag) := of_frame rfl rfl rfl
theorem laneConfig (tag : Byte) (lane : Byte) (role : Byte) (timeout : Byte) (autoQuote : Byte) : Statement (.laneConfig tag lane role timeout autoQuote) := of_frame rfl rfl rfl
theorem laneOutput (tag : Byte) (lane : Byte) (output : Byte) (value : Byte) : Statement (.laneOutput tag lane output value) := of_frame rfl rfl rfl
theorem laneClear (tag : Byte) (lane : Byte) : Statement (.laneClear tag lane) := of_frame rfl rfl rfl
theorem laneInject (tag : Byte) (lane : Byte) (pass : U32) : Statement (.laneInject tag lane pass) := of_frame rfl rfl rfl
theorem quote (tag : Byte) (pass : U32) : Statement (.quote tag pass) := of_frame rfl rfl rfl
theorem confirm (tag : Byte) (slot : Byte) (pass : U32) : Statement (.confirm tag slot pass) := of_frame rfl rfl rfl
theorem cancel (tag : Byte) (slot : Byte) (pass : U32) : Statement (.cancel tag slot pass) := of_frame rfl rfl rfl
theorem quoteQuery (tag : Byte) (slot : Byte) : Statement (.quoteQuery tag slot) := of_frame rfl rfl rfl
theorem status (tag : Byte) (option : Byte) : Statement (.status tag option) := of_frame rfl rfl rfl
theorem tally (tag : Byte) (set : Byte) (part : Byte) : Statement (.tally tag set part) := of_frame rfl rfl rfl
theorem tallyClear (tag : Byte) : Statement (.tallyClear tag) := of_frame rfl rfl rfl
theorem journalFetch (tag : Byte) (count : Byte) : Statement (.journalFetch tag count) := of_frame rfl rfl rfl
theorem noticeMask (tag : Byte) (kind : Byte) (setting : Byte) : Statement (.noticeMask tag kind setting) := of_frame rfl rfl rfl
theorem badFormatFrame (kind : Byte) (tag : Byte) (payload : List Byte) : Statement (.badFormatFrame kind tag payload) := by
  intro hw f hf
  simp only [WellFormed, Instr.wellFormed, badFormatOk, Bool.and_eq_true, decide_eq_true_eq] at hw
  cases hf
  exact ⟨hw.1, .inr ⟨kind, tag, payload, rfl⟩⟩
theorem receiveCharacter (c : Byte) : Statement (.receiveCharacter c) := of_none rfl
theorem gapTimeout : Statement (.gapTimeout) := of_none rfl
theorem framing : Statement (.framing) := of_none rfl
theorem lineBreak : Statement (.lineBreak) := of_none rfl
theorem shiftingFrameDone : Statement (.shiftingFrameDone) := of_none rfl
theorem secondAdvance : Statement (.secondAdvance) := of_none rfl
theorem passbackExpiry : Statement (.passbackExpiry) := of_none rfl
theorem holdExpiry : Statement (.holdExpiry) := of_none rfl
theorem pollOutcome (lane : LaneId) (outcome : PollOutcome) : Statement (.pollOutcome lane outcome) := of_none rfl
theorem grant : Statement (.grant) := of_none rfl
theorem rotation (lane : LaneId) : Statement (.rotation lane) := of_none rfl
theorem armRestChange (lane : LaneId) (present : Bool) : Statement (.armRestChange lane present) := of_none rfl
theorem beamChange (lane : LaneId) (beam : Beam) (blocked : Bool) : Statement (.beamChange lane beam blocked) := of_none rfl
theorem unlockTimerExpiry (lane : LaneId) : Statement (.unlockTimerExpiry lane) := of_none rfl
theorem beamStuckTimerExpiry (lane : LaneId) (beam : Beam) : Statement (.beamStuckTimerExpiry lane beam) := of_none rfl
theorem armStuckTimerExpiry (lane : LaneId) : Statement (.armStuckTimerExpiry lane) := of_none rfl
theorem displayTimeExpiry (lane : LaneId) : Statement (.displayTimeExpiry lane) := of_none rfl
theorem alarmTimerExpiry (lane : LaneId) : Statement (.alarmTimerExpiry lane) := of_none rfl
theorem buzzerPatternEnd (lane : LaneId) : Statement (.buzzerPatternEnd lane) := of_none rfl
theorem matchTimerExpiry (lane : LaneId) (list : MatchList) (index : Fin 4) : Statement (.matchTimerExpiry lane list index) := of_none rfl
theorem computationCompletion : Statement (.computationCompletion) := of_none rfl

end RequestFrame

end Sys2Proof.Laws
end

