-- ==== Sys2Proof/Laws/Receiver.lean ====
section
/-!
SUPPORT. The rescans of the receiver end, and examine the characters one after another (R179, assumption log 20).
-/

namespace Sys2Proof.Machine

/-- The characters a receiver holds or has taken as a start byte. -/
def State.heldCount (s : State) : Nat :=
  s.lif.receiver.chars.length + if s.lif.receiver.state = .hunt then 0 else 1

/-- One character examined either leaves the rest to be examined as it is, and holds at most that character more, or
gives the partial frame's characters back, its start byte gone. -/
theorem State.examineOne_measure (s : State) (c : Byte) :
    ((s.examineOne c).2 = [] ∧ (s.examineOne c).1.heldCount ≤ s.heldCount + 1) ∨
    ((s.examineOne c).2.length + (s.examineOne c).1.heldCount ≤ s.heldCount) := by
  have hne : ∀ (r : Receiver) (x : ReceiverState), x ≠ .hunt → (s.setReceiver (r.hold c x)).heldCount = r.chars.length + 2 := by
    intro r x hx; simp [State.heldCount, State.setReceiver, Receiver.hold, hx]
  have hhunt : ∀ t : State, (t.setReceiver Receiver.hunting).heldCount = 0 := by
    intro t; simp [State.heldCount, State.setReceiver, Receiver.hunting]
  have hs : s.lif.receiver.state ≠ .hunt → s.heldCount = s.lif.receiver.chars.length + 1 := by
    intro h; simp [State.heldCount, h]
  cases h : s.lif.receiver.state <;> simp only [State.examineOne, h]
  · split
    · left; simp [State.setReceiver, State.heldCount]
    · left; simp
  · split
    · left; simp [hne, hs, h]
    · right; simp [hhunt, hs, h]
  · left; simp [hne, hs, h]
  · left
    have hx : s.lif.receiver.afterTag ≠ .hunt := by unfold Receiver.afterTag; split <;> simp
    simp [hne _ _ hx, hs, h]
  · left
    have hx : s.lif.receiver.afterPayload ≠ .hunt := by unfold Receiver.afterPayload; split <;> simp
    simp [hne _ _ hx, hs, h]
  · left; simp [hne, hs, h]
  · unfold State.frameComplete
    dsimp only
    split
    · left
      have hj : ∀ (t : State) (f : InFrame), (t.joinInbound f).heldCount = t.heldCount := by
        intro t f; unfold State.joinInbound; split <;> rfl
      simp [hj, hhunt]
    · right
      simp [State.flagCheckError, State.heldCount, State.setReceiver, Receiver.hunting, h]

/-- Fuel that is enough to examine `cs`, the rescans among them. -/
def State.enough (s : State) (n : Nat) (cs : List Byte) : Prop :=
  (s.heldCount + cs.length) * (s.heldCount + cs.length) + cs.length ≤ n

/-- One character examined leaves enough of enough fuel. -/
theorem State.enough_next {s : State} {n : Nat} {c : Byte} {cs : List Byte} (h : s.enough (n + 1) (c :: cs)) :
    (s.examineOne c).1.enough n ((s.examineOne c).2 ++ cs) := by
  unfold State.enough at h ⊢
  simp only [List.length_append, List.length_cons] at h ⊢
  rcases s.examineOne_measure c with ⟨h1, h2⟩ | h2
  · simp only [h1, List.length_nil, Nat.zero_add]
    have hm : (s.examineOne c).1.heldCount + cs.length ≤ s.heldCount + (cs.length + 1) := by omega
    have := Nat.mul_le_mul hm hm
    omega
  · generalize (s.examineOne c).1.heldCount = a at *
    generalize (s.examineOne c).2.length = b at *
    generalize s.heldCount = m at *
    generalize cs.length = k at *
    have hm : a + (b + k) ≤ m + k := by omega
    have h3 := Nat.mul_le_mul hm hm
    have h4 : (m + (k + 1)) * (m + (k + 1)) = (m + k) * (m + k) + 2 * (m + k) + 1 := by
      have : m + (k + 1) = (m + k) + 1 := by omega
      rw [this, Nat.add_mul, Nat.mul_add]
      omega
    omega

/-- More fuel than enough changes nothing. -/
theorem State.examineAll_fuel (n m : Nat) (cs : List Byte) (s : State) (hn : s.enough n cs) (hm : s.enough m cs) :
    State.examineAll n cs s = State.examineAll m cs s := by
  induction n generalizing m cs s with
  | zero =>
    cases cs with
    | nil => cases m <;> rfl
    | cons c cs => unfold State.enough at hn; simp at hn
  | succ n ih =>
    cases cs with
    | nil => cases m <;> rfl
    | cons c cs =>
      cases m with
      | zero => unfold State.enough at hm; simp at hm
      | succ m =>
        simp only [State.examineAll]
        exact ih m _ _ (State.enough_next hn) (State.enough_next hm)

/-- Two runs of characters are examined one after the other. -/
theorem State.examineAll_append (n m : Nat) (cs ds : List Byte) (s : State) (hn : s.enough n (cs ++ ds))
    (hm : s.enough m cs) (k : Nat) (hk : (State.examineAll m cs s).enough k ds) :
    State.examineAll n (cs ++ ds) s = State.examineAll k ds (State.examineAll m cs s) := by
  induction m generalizing n cs s with
  | zero =>
    cases cs with
    | nil => exact State.examineAll_fuel _ _ _ _ hn hk
    | cons c cs => unfold State.enough at hm; simp at hm
  | succ m ih =>
    cases cs with
    | nil => exact State.examineAll_fuel _ _ _ _ hn hk
    | cons c cs =>
      cases n with
      | zero => unfold State.enough at hn; simp at hn
      | succ n =>
        simp only [List.cons_append, State.examineAll] at hk ⊢
        have h1 := State.enough_next (c := c) (cs := cs ++ ds) hn
        rw [← List.append_assoc] at h1 ⊢
        exact ih n _ _ h1 (State.enough_next hm) hk

/-- The fuel of one received character is enough. -/
theorem State.enough_receive (s : State) (c : Byte) : s.enough (rescanFuel (s.lif.receiver.chars.length + 2)) [c] := by
  unfold State.enough rescanFuel State.heldCount
  simp only [List.length_cons, List.length_nil]
  generalize s.lif.receiver.chars.length = k
  have h : (k + if s.lif.receiver.state = .hunt then 0 else 1) + (0 + 1) ≤ k + 2 := by split <;> omega
  have h2 := Nat.mul_le_mul h h
  have h3 : (k + 2 + 1) * (k + 2 + 1) = (k + 2) * (k + 2) + 2 * (k + 2) + 1 := by
    rw [Nat.add_mul, Nat.mul_add]; omega
  omega

/-- R179: characters to be examined again are examined one after another, each as a received one. -/
theorem State.examineAll_eq_foldl (cs : List Byte) (n : Nat) (s : State) (h : s.enough n cs) :
    State.examineAll n cs s = cs.foldl (fun (x : State) c => x.receive c) s := by
  induction cs generalizing n s with
  | nil => cases n <;> rfl
  | cons c cs ih =>
    rw [List.foldl_cons, ← ih (((s.receive c).heldCount + cs.length) * ((s.receive c).heldCount + cs.length) + cs.length)
      (s.receive c) (Nat.le_refl _)]
    exact State.examineAll_append n _ [c] cs s h (s.enough_receive c) _ (Nat.le_refl _)

/-- R178, R179: one received character: what the examination of it leaves, and the characters it gives back examined
one after another. -/
theorem State.receive_eq (s : State) (c : Byte) :
    s.receive c = (s.examineOne c).2.foldl (fun (x : State) b => x.receive b) (s.examineOne c).1 := by
  have h := s.enough_receive c
  obtain ⟨n, hn⟩ : ∃ n, rescanFuel (s.lif.receiver.chars.length + 2) = n + 1 :=
    ⟨rescanFuel (s.lif.receiver.chars.length + 2) - 1, by unfold State.enough at h; simp at h; omega⟩
  unfold State.receive
  rw [hn] at h ⊢
  have h1 := State.enough_next h
  simp only [List.append_nil] at h1
  simp only [State.examineAll, List.append_nil]
  exact State.examineAll_eq_foldl _ _ _ h1

/-- R179: the expiry of the gap timer examines the characters held one after another. -/
theorem State.gapExpiry_eq (s : State) :
    s.gapExpiry = s.lif.receiver.chars.foldl (fun (x : State) c => x.receive c) (s.setLif { s.lif with
      receiver := Receiver.hunting
      flags := { s.lif.flags with gapTimeout := true } }) := by
  unfold State.gapExpiry
  apply State.examineAll_eq_foldl
  unfold State.enough rescanFuel State.heldCount
  simp only [State.setLif_lif, Receiver.hunting, List.length_nil, if_true, Nat.zero_add]
  generalize s.lif.receiver.chars.length = k
  have h3 : (k + 2 + 1) * (k + 2 + 1) = k * k + 6 * k + 9 := by
    rw [Nat.add_mul, Nat.mul_add, Nat.mul_add, Nat.add_mul]; omega
  omega

end Sys2Proof.Machine
end

