-- ==== Sys2Proof/Laws/TallyByte.lean ====
section
/-!
SUPPORT. The free coding of TALLY's payload byte loses no selectors that R124 allows (assumption log 3).
-/

namespace Sys2Proof

/-- Ten bytes, no two the same. -/
theorem tallyBytes_spec : tallyBytes.length = 10 ∧ tallyBytes.Nodup := by
  unfold tallyBytes
  dsimp only
  split
  · rename_i h; exact ⟨by simp, h⟩
  · exact ⟨by simp, by decide⟩

/-- Selectors that are allowed are read back from their byte. -/
theorem tallySelectors_of_allowed (set part : Byte) (hs : set.toNat ≤ 1) (hp : part.toNat ≤ 4) :
    tallySelectors (tallyByte set part) = (set, part) := by
  have hk : 5 * set.toNat + part.toNat < tallyBytes.length := by rw [tallyBytes_spec.1]; omega
  have hi : tallyBytes.idxOf? tallyBytes[5 * set.toNat + part.toNat] = some (5 * set.toNat + part.toNat) := by
    rw [List.idxOf?_eq_some_iff]
    refine ⟨hk, by simp, ?_⟩
    intro j hj
    have := List.pairwise_iff_getElem.mp tallyBytes_spec.2 j _ (by omega) hk hj
    simpa using this
  have h1 : (5 * set.toNat + part.toNat) / 5 = set.toNat := by omega
  have h2 : (5 * set.toNat + part.toNat) % 5 = part.toNat := by omega
  simp [tallyByte, hs, hp, List.getElem?_eq_getElem hk, tallySelectors, hi, h1, h2]

/-- A list of distinct members of another is no longer than it. -/
theorem length_le_of_nodup_of_subset {α : Type} [DecidableEq α] (l m : List α) (hl : l.Nodup) (hs : l ⊆ m) :
    l.length ≤ m.length := by
  induction l generalizing m with
  | nil => simp
  | cons a l ih =>
    rw [List.nodup_cons] at hl
    have ha : a ∈ m := hs (by simp)
    have h := ih (m.erase a) hl.2 (fun b hb =>
      (List.mem_erase_of_ne (fun hba : b = a => hl.1 (hba ▸ hb))).mpr (hs (by simp [hb])))
    rw [List.length_erase_of_mem ha] at h
    have := List.length_pos_of_mem ha
    simp only [List.length_cons]
    omega

/-- The byte of refused selectors is none of the ten. -/
theorem tallyRefused_not_mem : tallyRefused ∉ tallyBytes := by
  unfold tallyRefused
  split
  · cases hf : ((List.range 11).map (BitVec.ofNat 8)).find? fun b => !(tallyBytes.contains b) with
    | some b => have := List.find?_some hf; simpa using this
    | none =>
      exfalso
      rw [List.find?_eq_none] at hf
      have hsub : (List.range 11).map (BitVec.ofNat 8) ⊆ tallyBytes := by
        intro b hb; have := hf b hb; simpa using this
      have hnd : ((List.range 11).map (BitVec.ofNat 8)).Nodup := by decide
      have := length_le_of_nodup_of_subset _ _ hnd hsub
      rw [tallyBytes_spec.1] at this
      simp at this
  · assumption

/-- Selectors that are refused are read back as a pair that is refused. -/
theorem tallySelectors_of_refused (set part : Byte) (h : 1 < set.toNat ∨ 4 < part.toNat) :
    tallySelectors (tallyByte set part) = (0xFF, 0xFF) := by
  have hc : ¬ (set.toNat ≤ 1 ∧ part.toNat ≤ 4) := by omega
  have hn : tallyBytes.idxOf? tallyRefused = none := by
    rw [List.idxOf?_eq_none_iff]; exact tallyRefused_not_mem
  simp [tallyByte, hc, tallySelectors, hn]

end Sys2Proof
end

