-- ==== Sys2Proof/Tests/Slice0.lean ====
section
/-!
SUPPORT. Small tests of the model: the refusals of WellFormed, the manual's worked cases, one step of most commands, and
for every statement with hypotheses a state and operands that meet them (`test_meets_<Name>`).
-/

namespace Sys2Proof.Tests

-- One theorem after another: the kernel evaluates most of them, and they would all wait for each other.
set_option Elab.async false

open Sys2Proof Sys2Proof.Machine

/-! ## Two small states -/

/-- A product of section 7.4.1's policy: N 3, W 8. -/
def dayProduct : Product :=
  { kind := .days 3, window := 8, liftMask := 1, openMinute := 0, closeMinute := 1440,
    policy := some { fixedFee := 500, percentFee := 1000, minimum := 1000, rounding := 50, stormCredit := true,
                     deadlineDays := 30 } }

/-- A season product. -/
def seasonProduct : Product :=
  { kind := .season, window := 240, liftMask := 1, openMinute := 0, closeMinute := 1440, policy := none }

/-- An entry bought for 32,999 from day 8 on. -/
def entryOf (pass code : Nat) (st : PassStatus) : PassEntry :=
  { pass := pass, product := code, start := 8, price := 32999, status := st, usage := none, marker := none,
    transferMark := false }

/-- One used day, day 8. -/
def oneDay : Usage := { firstUse := 8, days := [0], rides := 4, last := none }

/-- The entry of pass 5, admissible, with one used day. -/
def pass5 : PassEntry := { entryOf 5 1 .active with usage := some oneDay }

/-- The entry of pass 9, admitted at lane 2. -/
def pass9 : PassEntry := { entryOf 9 1 .active with marker := some { lane := 2, day := 10 } }

/-- The snapshot a quote takes of an unused pass of `dayProduct`. -/
def snap : Snapshot :=
  { price := 32999, days := 3, fullDays := 0, stormDays := 0, noServiceDays := 0, start := 8, window := 8,
    fixedFee := 500, percentFee := 1000, minimum := 1000, rounding := 50, stormCredit := true, deadlineDays := 30 }

/-- A GATE lane at rest. -/
def gateLane : Lane := { Lane.cold false false true with role := .gate }

/-- A DESK lane at rest. -/
def deskLane : Lane := { Lane.cold false false true with role := .desk }

/-- In SETUP with the clock running: day 10, an hour past the rollover. -/
def inSetup : State :=
  { State.reset with
    rcc := { State.reset.rcc with clock := { state := .running, day := 10, second := 3600 } }
    tariff := (State.reset.tariff.set 0 { record := some dayProduct, kept := none }).set 1
      { record := some seasonProduct, kept := none }
    passes := [pass5, entryOf 6 1 .blocked, entryOf 7 1 .refunded, entryOf 10 2 .active]
    lanes := ⟨gateLane, deskLane, gateLane, Lane.cold false false true⟩ }

/-- In RUN with the lift open: pass 9 is admitted at lane 2, pass 8's quote stands in slot 1, pass 12's is computing in
slot 2 and pass 13's is queued in slot 3. -/
def inRun : State :=
  { inSetup with
    rcc := { inSetup.rcc with mode := .run, lift := .isOpen }
    passes := [pass5, entryOf 6 1 .blocked, entryOf 7 1 .refunded, entryOf 8 1 (.refundHold 1), pass9,
      entryOf 10 2 .active, entryOf 11 3 .active, entryOf 12 1 (.refundHold 2), entryOf 13 1 (.refundHold 3)]
    lanes := ⟨gateLane, deskLane, { gateLane with unlockTimer := some 8 }, Lane.cold false false true⟩
    pbl := { entries := [{ pass := 4, phase := .committed 867500 }, { pass := 9, phase := .pending 2 }]
             interval := 300, evictions := 0 }
    tally := { State.reset.tally with today := { State.reset.tally.today with
      lanes := State.reset.tally.today.lanes.set 2 { LaneCounters.zero with admittedCount := 1 } } }
    rfc := { busy := some (Computation.start 2 snap), queue := [3] }
    quotes := ⟨QuoteSlot.cold,
      { state := .quoted { pass := 8, source := .line } snap (computeRefund snap) 867700, lastEnding := none },
      { state := .computing { pass := 12, source := .desk 1 } snap, lastEnding := none },
      { state := .queued { pass := 13, source := .line }, lastEnding := none }⟩ }

/-- The state a command leaves. -/
def after (i : Instr) (s : State) : State :=
  match exec i s with
  | .next t => t
  | .fault _ | .refused _ => s

/-- The frame on the line once a command has been taken: in the states here the line is idle, so it is the reply. -/
def sent (i : Instr) (s : State) : Option OutFrame := (after i s).lif.shifting

/-- `s` with a request waiting at one lane. -/
def asking (s : State) (l : LaneId) (pass : Nat) (kind : RequestClass) : State :=
  s.setAe { s.ae with waiting := s.ae.waiting.set l (some { pass := pass, kind := kind }), pointer := l }

/-! ## What WellFormed refuses -/

theorem test_merge_of_no_days_is_ill_formed : ¬ WellFormed (.usageMerge 0 5 []) := by decide +kernel
theorem test_merge_of_17_days_is_ill_formed : ¬ WellFormed (.usageMerge 0 5 (List.replicate 17 1)) := by decide +kernel
theorem test_chunk_of_no_records_is_ill_formed : ¬ WellFormed (.xferChunk 0 []) := by decide +kernel
theorem test_chunk_of_13_records_is_ill_formed :
    ¬ WellFormed (.xferChunk 0 (List.replicate 13 ⟨5, 1, 8, 32999, 0⟩)) := by decide +kernel
theorem test_bad_format_of_a_good_frame_is_ill_formed : ¬ WellFormed (.badFormatFrame 0x05 0 []) := by decide +kernel
theorem test_bad_format_beyond_120_bytes_is_ill_formed :
    ¬ WellFormed (.badFormatFrame 0x05 0 (List.replicate 121 0)) := by decide +kernel
theorem test_bad_format_of_a_wrong_length_is_well_formed : WellFormed (.badFormatFrame 0x05 0 [0]) := by decide +kernel

/-! ## Frames written out (R177, Tables 10.2 and 10.3) -/

theorem test_check_word_of_R177 :
    checkWord [0x31, 0x32, 0x33, 0x34, 0x35, 0x36, 0x37, 0x38, 0x39] = 0x29B1 := by decide +kernel
theorem test_no_table_word_spells_a_command : decodeTableWord 16 0 = none := rfl
theorem test_identify_frame : decodeFrame ⟨0x05, 0x21, []⟩ = .identify 0x21 := by decide +kernel
theorem test_set_clock_frame : decodeFrame ⟨0x10, 7, [10, 0x01, 0x51, 0x7F]⟩ = .setClock 7 10 86399 := by decide +kernel
theorem test_pass_put_frame :
    decodeFrame ⟨0x20, 1, [0, 0, 1, 2, 3, 60, 0x00, 0x80, 0xE7, 1]⟩ = .passPut 1 ⟨258, 3, 60, 32999, 1⟩ := by decide +kernel
theorem test_wrong_length_frame : decodeFrame ⟨0x44, 9, [0]⟩ = .badFormatFrame 0x44 9 [0] := by decide +kernel
theorem test_unknown_kind_frame : decodeFrame ⟨0x45, 9, []⟩ = .badFormatFrame 0x45 9 [] := by decide +kernel
theorem test_run_reply_bytes : (replyFrame RequestKind.run.code 7 .ok .nothing).wire.take 5 =
    [0xD5, 1, 0x81, 7, 0] := by decide +kernel

/-! ## The worked cases of section 7.4 -/

/-- The snapshot of section 7.4.1. -/
def case1 : Snapshot := { snap with days := 6, fullDays := 2, stormDays := 1, start := 60 }

theorem test_case_7_4_1 : computeRefund case1 =
    { hTotal := 12, hUsed := 5, hUnused := 7, q := 2749, r := 11, gross := 19249, fixedFee := 500,
      percentFee := 1924, net := 16825, payout := 16800, residue := 25, flags := ⟨false, false, false⟩ } := by decide +kernel
theorem test_case_7_4_1_without_storm_credit :
    (computeRefund { case1 with stormCredit := false }).payout = 14350 := by decide +kernel
theorem test_case_7_4_2 : longDivide 24 32999 12 = (2749, 11) := by decide +kernel
theorem test_case_7_4_3 : computeRefund { case1 with fullDays := 0, stormDays := 0 } =
    { hTotal := 12, hUsed := 0, hUnused := 12, q := 2749, r := 11, gross := 32999, fixedFee := 500,
      percentFee := 3299, net := 29200, payout := 29200, residue := 0, flags := ⟨false, false, false⟩ } := by decide +kernel
theorem test_case_7_4_4 : computeRefund { snap with fullDays := 4 } =
    { hTotal := 6, hUsed := 8, hUnused := 0, q := 5499, r := 5, gross := 0, fixedFee := 500,
      percentFee := 0, net := 0, payout := 0, residue := 0, flags := ⟨true, true, false⟩ } := by decide +kernel

/-- The snapshot of section 7.4.5. -/
def case5 (used : Nat) : Snapshot :=
  { snap with price := 12000, days := 5, fullDays := used, window := 10, fixedFee := 3000, minimum := 1500,
              rounding := 100, stormCredit := false }

theorem test_case_7_4_5_below_the_minimum :
    (computeRefund (case5 3)).net = 0 ∧ (computeRefund (case5 3)).flags = ⟨false, false, true⟩ := by decide +kernel
theorem test_case_7_4_5_negative :
    (computeRefund (case5 4)).gross = 2400 ∧ (computeRefund (case5 4)).flags = ⟨false, true, false⟩ := by decide +kernel
theorem test_case_7_4_5_paid :
    (computeRefund (case5 2)).payout = 3400 ∧ (computeRefund (case5 2)).residue = 80 := by decide +kernel
theorem test_case_7_4_6 :
    (computeRefund { case1 with price := 0, fullDays := 1, stormDays := 0 }).payout = 0 ∧
      (computeRefund { case1 with price := 0, fullDays := 1, stormDays := 0 }).flags = ⟨false, true, false⟩ := by
  decide +kernel

/-! ## One step of the commands -/

theorem test_cold_reset : (after (.coldReset true false) inRun).lif.straps = ⟨true, false⟩ ∧
    (after (.coldReset true false) inRun).passes = [] := by decide +kernel

theorem test_restart : (after (.restart 1) inRun).rcc.mode = .setup ∧
    (after (.restart 1) inRun).journal.records.map (·.body) =
      [.lapsed 2 9 .restart, .quoteDropped 8 1 .restart, .quoteDropped 12 2 .restart, .quoteDropped 13 3 .restart,
       .lift .closed, .mode .setup .restart] := by decide +kernel
theorem test_restart_reply_then_notice :
    sent (.restart 1) inRun = some (.reply 0x83 1 .ok .nothing) ∧
    (after (.restart 1) inRun).lif.holding = some (.notice (.quoteEnded 1) (.ended (some ⟨8, .restart⟩))) := by
  decide +kernel

theorem test_run : (after (.run 1) inSetup).rcc.mode = .run ∧
    sent (.run 1) State.reset = some (.reply 0x81 1 .notReady .nothing) := by decide +kernel
theorem test_setup_while_work_is_in_flight :
    sent (.setup 1) inRun = some (.reply 0x82 1 .busy .nothing) := by decide +kernel

theorem test_site_config :
    (after (.siteConfig 1 ⟨15, 1439, 64, 60, 60, 10, 600⟩) inSetup).rcc.site = ⟨15, 1439, 64, 60, 60, 10, 600⟩ ∧
    sent (.siteConfig 1 ⟨15, 1439, 64, 60, 60, 11, 600⟩) inSetup = some (.reply 0x84 1 .badValue .nothing) := by
  decide +kernel

theorem test_set_clock :
    (after (.setClock 1 239 86399) inSetup).rcc.clock = ⟨.running, 239, 86399⟩ ∧
    sent (.setClock 1 9 0) inRun = some (.reply 0x90 1 .backward .nothing) := by decide +kernel
theorem test_second_advance_of_the_last_second :
    (after .secondAdvance { inRun with rcc := { inRun.rcc with clock := ⟨.running, 10, 86399⟩ } }).rcc.clock =
      ⟨.running, 11, 0⟩ := by decide +kernel
theorem test_season_end :
    (after .secondAdvance { inRun with rcc := { inRun.rcc with clock := ⟨.running, 239, 86399⟩ } }).rcc.clock =
      ⟨.expired, 239, 86399⟩ := by decide +kernel

theorem test_lift_close_lapses : (after (.liftStatus 1 2) inRun).journal.records.map (·.body) =
    [.lift .closed, .lapsed 2 9 .liftClosed] := by decide +kernel
theorem test_calendar_mark : (after (.calendarMark 1 239 2) inSetup).markOf 239 = .closedAllDay := by decide +kernel
theorem test_passback_set : (after (.passbackSet 1 100) inRun).pbl.entries = [⟨9, .pending 2⟩] ∧
    (after (.passbackSet 1 101) inRun).pbl.entries.length = 2 := by decide +kernel

/-- The fields that name `dayProduct`. -/
def dayFields : ProductFields := ⟨0, 3, 8, 1, 0, 1440, 1, 500, 1000, 1000, 50, 1, 30⟩

theorem test_product_put : (after (.productPut 1 63 dayFields) inSetup).product? 63 = some dayProduct ∧
    sent (.productPut 1 1 { dayFields with window := 9 }) inSetup = some (.reply 0x98 1 .busy .nothing) := by
  decide +kernel
theorem test_product_clear : (after (.productClear 1 1) inSetup).productSlot 1 = ⟨none, some (true, 8)⟩ := by
  decide +kernel

theorem test_pass_put_keeps_the_order :
    (after (.passPut 1 ⟨4, 1, 8, 32999, 0⟩) inSetup).passes.map (·.pass) = [4, 5, 6, 7, 10] := by decide +kernel
theorem test_pass_put_outcome : sent (.passPut 1 ⟨5, 1, 8, 32999, 0⟩) inSetup =
    some (.reply 0xA0 1 .ok (.putOutcome .unchanged 4)) := by decide +kernel
theorem test_pass_block : ((after (.passBlock 1 5) inRun).findPass 5).map (·.status) = some .blocked ∧
    sent (.passBlock 1 7) inRun = some (.reply 0xA1 1 .alreadyRefunded .nothing) := by decide +kernel
theorem test_pass_unblock : ((after (.passUnblock 1 6) inRun).findPass 6).map (·.status) = some .active := by
  decide +kernel
theorem test_pass_delete : sent (.passDelete 1 9) inRun = some (.reply 0xA3 1 .pending .nothing) ∧
    sent (.passDelete 1 5) inRun = some (.reply 0xA3 1 .ok (.entryCount 8)) := by decide +kernel
theorem test_pass_query_at_or_after : sent (.passQuery 1 1 1) inRun =
    some (.reply 0xA4 1 .ok (.passFound 9 pass5)) := by decide +kernel
theorem test_usage_merge : sent (.usageMerge 1 5 [8, 10, 15, 16]) inSetup =
    some (.reply 0xA5 1 .ok (.mergeCounts 2 1 1 3)) ∧
    ((after (.usageMerge 1 5 [8, 10, 15, 16]) inSetup).findPass 5).map PassEntry.daysUsed = some [0, 2, 7] := by
  decide +kernel

/-- `inSetup` with a LOAD transfer of `n` records open, with PURGE. -/
def loading (n : Nat) : State := after (.xferOpen 1 0 1 (BitVec.ofNat 16 n)) { inSetup with passes := [pass5, entryOf 6 1 .blocked] }

theorem test_purge_load :
    (after (.xferChunk 1 [⟨5, 1, 8, 32999, 0⟩]) (loading 1)).passes = [{ pass5 with transferMark := true }] ∧
    (after (.xferChunk 1 [⟨5, 1, 8, 32999, 0⟩]) (loading 1)).xfer.load =
      { Transfer.cold.load with unchanged := 1, removed := 1 } := by decide +kernel
theorem test_xfer_abort : (after (.xferAbort 1) (loading 3)).xfer.condition = .aborted := by decide +kernel
theorem test_xfer_status : sent (.xferStatus 1) inSetup =
    some (.reply 0xAB 1 .ok (.transferRecord Transfer.cold 4)) := by decide +kernel

theorem test_lane_config : ((after (.laneConfig 1 3 1 30 1) inSetup).lane 3).role = .desk ∧
    sent (.laneConfig 1 3 0 30 1) inSetup = some (.reply 0xB0 1 .badValue .nothing) := by decide +kernel
theorem test_lane_lock_lapses : (after (.laneOutput 1 2 0 2) inRun).laneState 2 = .ready ∧
    (after (.laneOutput 1 2 0 2) inRun).pendingPass 2 = none := by decide +kernel
theorem test_lane_clear : sent (.laneClear 1 0)
    (inRun.setLane 0 { gateLane with latches := ⟨false, true, false⟩, beamB := true }) =
    some (.reply 0xB2 1 .conditionPresent (.latchedSet ⟨false, true, false⟩)) := by decide +kernel
theorem test_lane_inject_defers_its_reply : sent (.laneInject 1 0 5) inRun = none ∧
    (after (.laneInject 1 0 5) inRun).laneState 0 = .waiting := by decide +kernel
theorem test_test_decision : sent .grant (asking inRun 0 6 (.test 9)) =
    some (.reply 0xB3 9 .ok (.testDecision (.refusedWith .blocked))) := by decide +kernel

theorem test_read_is_submitted :
    (after (.pollOutcome 0 (.read 5)) inRun).ae.waiting.get 0 = some ⟨5, .gate⟩ := by decide +kernel
theorem test_silence_latches_reader_lost :
    (after (.pollOutcome 0 .silent) (inRun.setLane 0 { gateLane with silentCount := 15 })).laneState 0 = .fault := by
  decide +kernel
theorem test_grant_admits : (after .grant (asking inRun 0 5 .gate)).laneState 0 = .unlocked ∧
    (after .grant (asking inRun 0 5 .gate)).latchRelease 0 = true := by decide +kernel
theorem test_desk_lookup : (after .grant (asking inRun 1 5 .desk)).lif.shifting =
    some (.notice (.deskRead 1) (.desk { lookup := inRun.lookup 5, quote := .autoQuoteOff })) ∧
    (inRun.lookup 5).counts = ⟨1, 0, 0⟩ := by decide +kernel
theorem test_paid_rotation : ((after (.rotation 2) inRun).findPass 9).bind (·.usage) =
    some { firstUse := 10, days := [2], rides := 1, last := some ⟨867600, 2⟩ } ∧
    (after (.rotation 2) inRun).journal.records.map (·.body) = [.passage 2 9 true 1] := by decide +kernel
theorem test_forced_rotation : ((after (.rotation 0) inRun).lane 0).pattern = .alarm ∧
    (after (.rotation 0) inRun).lif.shifting = some (.notice (.laneAlarm 0) (.alarm 0 867600)) := by decide +kernel
theorem test_unlock_timer : (after (.unlockTimerExpiry 2) inRun).journal.records.map (·.body) =
    [.lapsed 2 9 .timeout] := by decide +kernel
theorem test_passback_expiry : (after .passbackExpiry { inRun with pbl := { inRun.pbl with interval := 100 } }).pbl.entries =
    [⟨9, .pending 2⟩] := by decide +kernel

/-- The four beam changes of one passage at lane 0, with a rotation item waiting for it. -/
theorem test_passage_matches_the_rotation :
    ((after (.beamChange 0 .b false) (inRun.setLane 0 { gateLane with
      beamB := true, detector := .inner, rotations := [⟨867599, 3⟩] })).lane 0).rotations = [] := by decide +kernel
theorem test_beam_a_blocks : ((after (.beamChange 0 .a true) inRun).lane 0).detector = .outer ∧
    ((after (.beamChange 0 .a true) inRun).lane 0).beamATimer = some 20 := by decide +kernel
theorem test_entry_item_runs_out : (after (.matchTimerExpiry 0 .entry 0)
    (inRun.setLane 0 { gateLane with entries := [⟨867599, 3⟩] })).journal.records.map (·.body) =
    [.rider 0 .under] := by decide +kernel
theorem test_beam_timer : ((after (.beamStuckTimerExpiry 0 .a)
    (inRun.setLane 0 { gateLane with beamATimer := some 20 })).lane 0).latches = ⟨false, true, false⟩ := by decide +kernel
theorem test_arm_timer : ((after (.armStuckTimerExpiry 0)
    (inRun.setLane 0 { gateLane with armTimer := some 10 })).lane 0).latches = ⟨false, false, true⟩ := by decide +kernel
theorem test_arm_rest : ((after (.armRestChange 0 false) inRun).lane 0).armTimer = some 10 := by decide +kernel
theorem test_display_ends : ((after (.displayTimeExpiry 0)
    (inRun.setLane 0 { gateLane with display := some .refusal })).lane 0).display = none := by decide +kernel
theorem test_alarm_ends : ((after (.alarmTimerExpiry 0)
    (inRun.setLane 0 { gateLane with alarmTimer := true, pattern := .alarm })).lane 0).pattern = .silence := by
  decide +kernel
theorem test_chirp_ends : ((after (.buzzerPatternEnd 0)
    (inRun.setLane 0 { gateLane with pattern := .chirp })).lane 0).pattern = .silence := by decide +kernel

theorem test_quote_of_a_free_slot : sent (.quote 1 5) inRun = some (.reply 0xB8 1 .accepted (.slotOpened 0)) ∧
    (after (.quote 1 5) inRun).rfc.queue = [3, 0] := by decide +kernel
theorem test_quote_refused : sent (.quote 1 10) inRun = some (.reply 0xB8 1 .notRefundable .nothing) ∧
    sent (.quote 1 9) inRun = some (.reply 0xB8 1 .pending .nothing) := by decide +kernel
theorem test_confirm_settles : ((after (.confirm 1 1 8) inRun).findPass 8).map (·.status) = some .refunded ∧
    (after (.confirm 1 1 8) inRun).tally.today.payoutTotal = 29200 := by decide +kernel
theorem test_confirm_of_a_used_pass_is_stale : sent (.confirm 1 1 8)
    (inRun.updatePass 8 fun e => { e with usage := some oneDay }) =
    some (.reply 0xB9 1 .stale (.slotDropped 1 .stale)) := by decide +kernel
theorem test_cancel_of_a_computing_slot : ((after (.cancel 1 2 12) inRun).slot 2).state = .cancelling ∧
    sent (.cancel 1 0 12) inRun = some (.reply 0xBA 1 .notFound .nothing) := by decide +kernel
theorem test_quote_query : sent (.quoteQuery 1 3) inRun =
    some (.reply 0xBB 1 .ok (.slotRecord 3 (inRun.slot 3))) := by decide +kernel
theorem test_slot_record_has_55_bytes : (slotRecordBytes 1 (inRun.slot 1)).length = 55 := by decide +kernel
theorem test_hold_expiry : ((after .holdExpiry
    { inRun with rcc := { inRun.rcc with clock := ⟨.running, 10, 3700⟩ } }).slot 1).lastEnding =
    some ⟨8, .expired⟩ := by decide +kernel
theorem test_completion_quotes_and_starts_the_next :
    ((after .computationCompletion inRun).slot 2).state.phase = .quoted ∧
    (after .computationCompletion inRun).rfc = ⟨some (Computation.start 3 snap), []⟩ := by decide +kernel

theorem test_status_clear : (after (.status 1 1)
    { inRun with pbl := { inRun.pbl with evictions := 7 } }).pbl.evictions = 0 := by decide +kernel
theorem test_tally_of_a_lane : sent (.tally 1 0 2) inRun = some (.reply 0xC1 1 .ok
    (.laneTally (some 0) 2 { LaneCounters.zero with admittedCount := 1 } (some ⟨1, 0, none, 0, none⟩))) := by
  decide +kernel
theorem test_tally_clear : (((after (.tallyClear 1) inRun).counters 2).admittedCount,
    ((after (.tallyClear 1) inRun).counters 0).admittedCount) = (1, 0) := by decide +kernel
theorem test_journal_fetch : sent (.journalFetch 1 8) (inRun.writeRecord (.lift .hold)) =
    some (.reply 0xC3 1 .ok (.records 0 [⟨0, 867600, .lift .hold⟩] 0 0)) := by decide +kernel
theorem test_notice_mask : (after (.noticeMask 1 7 0) inRun).notices.mask.clockExpired = true := by decide +kernel
theorem test_identify_bytes : (identifyBytes ⟨true, false⟩) =
    [0x0A, 1, 0x9A, 1, 2, 0, 63, 16, 0, 1, 0, 2, 0, 0, 64, 0, 4, 0, 4, 0, 8, 0, 2] := by decide +kernel
theorem test_bad_format : sent (.badFormatFrame 0x44 3 [1]) inRun = some (.reply 0xC4 3 .badFormat .nothing) := by
  decide +kernel
theorem test_frame_of_characters : ((InFrame.wire ⟨0x05, 7, []⟩).foldl (fun s c => s.receive c) inRun).lif.inbound =
    [⟨0x05, 7, []⟩] := by decide +kernel
theorem test_break : (after .lineBreak inRun).lif.flags = ⟨false, false, true, false, true⟩ ∧
    (after .framing inRun).lif.flags = ⟨false, false, true, false, false⟩ := by decide +kernel
theorem test_gap_timeout : (after .gapTimeout (after (.receiveCharacter 0xD5) inRun)).lif =
    { inRun.lif with flags := ⟨true, false, false, false, false⟩ } := by decide +kernel
theorem test_next_frame_is_shifted : (after .shiftingFrameDone (after (.identify 1)
    { inRun with lif := { inRun.lif with shifting := some (.notice .dayRolled (.clock inRun.rcc.clock)) } })).lif.shifting =
    some (.reply 0x85 1 .ok (.identity ⟨false, false⟩)) := by decide +kernel

/-! ## States and operands that meet the hypotheses of the statements, clause by clause, at the edges of their ranges -/

/-- In RUN with the lift open and no work in flight. -/
def quietRun : State := { inSetup with rcc := { inSetup.rcc with mode := .run, lift := .isOpen } }

/-- The state with the clock at a day and a second. -/
def atTime (s : State) (day second : Nat) : State := s.setClockTo .running day second

/-- The state with `n` replies waiting; eight leave no room for another. -/
def withReplies (n : Nat) (s : State) : State :=
  s.setLif { s.lif with replies := List.replicate n (replyFrame 0x01 0 .ok .nothing) }

/-- The state with a frame on the line and another behind it. -/
def lineBusy (s : State) : State :=
  s.setLif { s.lif with shifting := some (.notice .dayRolled (.clock s.rcc.clock))
                        holding := some (.notice .dayRolled (.clock s.rcc.clock)) }

/-- The state with frames in the inbound buffers. -/
def buffered (s : State) (fs : List InFrame) : State := s.setLif { s.lif with inbound := fs }

/-- A state the handler takes a request in, in the terms of the statements. -/
theorem taken {s : State} (h : s.takesNow = true) : s.takes := s.takesNow_iff.mp h

theorem test_taken_at_reset : State.reset.takes := taken (by decide +kernel)
theorem test_taken_in_setup : inSetup.takes := taken (by decide +kernel)
theorem test_taken_in_run : inRun.takes := taken (by decide +kernel)
theorem test_taken_in_quiet_run : quietRun.takes := taken (by decide +kernel)
theorem test_taken_with_seven_replies : (withReplies 7 inRun).takes := taken (by decide +kernel)
theorem test_not_taken_with_eight_replies : ¬ (withReplies 8 inRun).takes ∧ ¬ (buffered inRun [⟨5, 7, []⟩]).takes := by
  unfold State.takes; decide +kernel

/-- No hold is due at a stamp when every expiry stamp lies after it. -/
theorem no_hold_due {s : State} {n : Nat} (h : ∀ k, ((s.slot k).state.expiry?.all fun e => decide (n < e)) = true) :
    ∀ k i x r e, (s.slot k).state = .quoted i x r e → n < e := by
  intro k i x r e hs
  have := h k
  rw [hs] at this
  simpa [SlotState.expiry?] using this

theorem test_meets_StepRunsTheFrontCommand : (inRun.setPending [.grant]).pending = .grant :: [] := rfl

theorem test_meets_BufferedRequestsWaitAndAreTaken :
    (WellFormed (.identify 7) ∧ encodeRequest (.identify 7) = some ⟨5, 7, []⟩) ∧
    -- taken, joined as the second frame, discarded as the third
    (withReplies 7 inRun).takesNow = true ∧
    ((buffered inRun [⟨5, 7, []⟩]).takesNow = false ∧ (buffered inRun [⟨5, 7, []⟩]).lif.inbound.length < 2) ∧
    ((withReplies 8 inRun).takesNow = false ∧ (withReplies 8 inRun).lif.inbound.length < 2) ∧
    (2 ≤ (buffered inRun [⟨5, 7, []⟩, ⟨5, 8, []⟩]).lif.inbound.length) ∧
    -- the end of an event: no frame, a frame and no room, a frame and room
    inRun.lif.inbound = [] ∧
    (8 ≤ (lineBusy (withReplies 8 (buffered inRun [⟨5, 7, []⟩]))).pump.lif.replies.length) ∧
    ((lineBusy (withReplies 7 (buffered inRun [⟨5, 7, []⟩]))).pump.lif.replies.length +
      (lineBusy (withReplies 7 (buffered inRun [⟨5, 7, []⟩]))).pump.reserved < 8) ∧
    -- an empty queue of commands: an IDLE calculator, one with a step to make, one that has made them all
    (inRun.pending = [] ∧ quietRun.rfc.busy = none) ∧
    (inRun.rfc.busy.map (·.steps)) = some 0 ∧
    (({ inRun with rfc := { inRun.rfc with busy := some ⟨2, snap, 119, workAfter snap 119⟩ } } : State).rfc.busy.map
      (·.steps)) = some 119 ∧
    (({ inRun with rfc := { inRun.rfc with busy := some ⟨2, snap, 120, workAfter snap 120⟩ } } : State).rfc.busy.map
      (·.steps)) = some 120 := by decide +kernel

/-- The line in its eight conditions: something or nothing shifting, held, and to be drawn. -/
theorem test_meets_TransmitterOrder :
    ((lineBusy inRun).lif.shifting.isSome ∧ (lineBusy inRun).lif.holding.isSome) ∧
    ((after (.identify 1) inRun).lif.shifting.isSome ∧ (after (.identify 1) inRun).lif.holding = none ∧
      (withReplies 1 (after (.identify 1) inRun)).lif.replies ≠ [] ∧ (after (.identify 1) inRun).lif.replies = [] ∧
      ((after (.identify 1) inRun).raise .dayRolled).notices.pending.find?
        ((after (.identify 1) inRun).raise .dayRolled).notices.eligible = some .dayRolled ∧
      (after (.identify 1) inRun).notices.pending.find? (after (.identify 1) inRun).notices.eligible = none) ∧
    (inRun.lif.shifting = none ∧ inRun.lif.holding = none ∧ inRun.lif.replies = [] ∧
      (withReplies 1 inRun).lif.replies ≠ [] ∧
      (inRun.setLif { inRun.lif with holding := some (.notice .dayRolled (.clock inRun.rcc.clock)) }).lif.holding.isSome ∧
      (inRun.raise .dayRolled).notices.pending.find? (inRun.raise .dayRolled).notices.eligible = some .dayRolled ∧
      inRun.notices.pending.find? inRun.notices.eligible = none) ∧
    -- a masked kind is passed over
    (((after (.noticeMask 1 5 0) inRun).raise .dayRolled).raise .journalHigh).notices.pending.find?
      ((((after (.noticeMask 1 5 0) inRun).raise .dayRolled).raise .journalHigh).notices.eligible) = some .journalHigh := by
  decide +kernel

/-- A restart with an admission pending, slots of all states, a TEST waiting, and with the lift open and closed. -/
theorem test_meets_RestartEndsWorkInFlight : inRun.takesNow = true ∧ (asking inRun 0 5 (.test 9)).takesNow = true ∧
    inSetup.takesNow = true ∧
    (inRun.pendingPass 2 = some 9 ∧ inRun.pendingPass 0 = none ∧ inRun.rcc.lift ≠ .closed ∧ inSetup.rcc.lift = .closed ∧
      (inRun.slot 0).state.identity? = none ∧ (inRun.slot 1).state.identity? = some ⟨8, .line⟩ ∧
      (inRun.slot 2).state.identity? = some ⟨12, .desk 1⟩ ∧ (inRun.slot 3).state.identity? = some ⟨13, .line⟩ ∧
      (asking inRun 0 5 (.test 9)).busyReplies 0 = [.reply 0xB3 9 .busy .nothing] ∧
      (loading 3).xfer.condition = .isOpen ∧
      ((after (.cancel 1 2 12) inRun).slot 2).state = .cancelling) := by decide +kernel
theorem test_restart_answers_a_waiting_test_first :
    (after (.restart 1) (lineBusy (asking inRun 0 5 (.test 9)))).lif.replies =
      [.reply 0xB3 9 .busy .nothing, .reply 0x83 1 .ok .nothing] := by decide +kernel

theorem test_meets_ModeRequestsMoveTheMode : (State.reset.takesNow = true ∧ State.reset.rcc.clock.state ≠ .running) ∧
    (inRun.takesNow = true ∧ inRun.rcc.clock.state = .running ∧ inRun.rcc.mode = .run ∧ (inRun.pendingPass 2).isSome ∧
      (inRun.slot 1).state ≠ .free) ∧
    (inSetup.takesNow = true ∧ inSetup.rcc.clock.state = .running ∧ inSetup.rcc.mode = .setup) ∧
    (quietRun.takesNow = true ∧ quietRun.rcc.mode = .run ∧
      ∀ i, quietRun.pendingPass i = none ∧ (quietRun.slot i).state = .free) := by decide +kernel

theorem test_meets_SiteConfigAndCalendarMark : inSetup.takes ∧ inRun.takes ∧ inSetup.rcc.mode = .setup ∧
    inRun.rcc.mode = .run ∧
    SiteFieldsInRange ⟨0, 0, 4, 5, 5, 1, 30⟩ ∧ SiteFieldsInRange ⟨15, 1439, 64, 60, 60, 10, 600⟩ ∧
    ¬ SiteFieldsInRange ⟨16, 1439, 64, 60, 60, 10, 600⟩ ∧ ¬ SiteFieldsInRange ⟨15, 1440, 64, 60, 60, 10, 600⟩ ∧
    ¬ SiteFieldsInRange ⟨0, 0, 3, 5, 5, 1, 30⟩ ∧ ¬ SiteFieldsInRange ⟨0, 0, 65, 5, 5, 1, 30⟩ ∧
    ¬ SiteFieldsInRange ⟨0, 0, 4, 4, 5, 1, 30⟩ ∧ ¬ SiteFieldsInRange ⟨0, 0, 4, 61, 5, 1, 30⟩ ∧
    ¬ SiteFieldsInRange ⟨0, 0, 4, 5, 4, 1, 30⟩ ∧ ¬ SiteFieldsInRange ⟨0, 0, 4, 5, 61, 1, 30⟩ ∧
    ¬ SiteFieldsInRange ⟨0, 0, 4, 5, 5, 0, 30⟩ ∧ ¬ SiteFieldsInRange ⟨0, 0, 4, 5, 5, 11, 30⟩ ∧
    ¬ SiteFieldsInRange ⟨0, 0, 4, 5, 5, 1, 29⟩ ∧ ¬ SiteFieldsInRange ⟨0, 0, 4, 5, 5, 1, 601⟩ ∧
    (239 < (240 : Byte).toNat ∧ (239 : Byte).toNat ≤ 239 ∧ dayMarkOf 2 = some .closedAllDay ∧ dayMarkOf 3 = none) := by
  refine ⟨test_taken_in_setup, test_taken_in_run, ?_⟩
  and_intros <;> first | decide +kernel | (unfold SiteFieldsInRange; decide +kernel)

/-- SET_CLOCK out of range, backward, to the same day with the hold due and not due, to a later day, and in SETUP. -/
theorem test_meets_SetClockByMode : inRun.takes ∧ quietRun.takes ∧ inSetup.takes ∧
    (239 < (240 : Byte).toNat ∧ 86399 < (86400 : U24).toNat ∧ (239 : Byte).toNat ≤ 239 ∧ (86399 : U24).toNat ≤ 86399 ∧
      inRun.rcc.mode = .run ∧ (9 : Byte).toNat < inRun.rcc.clock.day ∧ (10 : Byte).toNat = inRun.rcc.clock.day ∧
      inRun.rcc.clock.day < (11 : Byte).toNat ∧ inSetup.rcc.mode = .setup ∧
      (10 : Byte).toNat * 86400 + (3699 : U24).toNat = 867699 ∧
      ¬ ((10 : Byte).toNat * 86400 + (3700 : U24).toNat < 867700) ∧
      (inRun.slot 1).state = .quoted ⟨8, .line⟩ snap (computeRefund snap) 867700) ∧
    (∀ k i x r e, (inRun.slot k).state = .quoted i x r e → 867699 < e) ∧
    (∀ k i x r e, (quietRun.slot k).state = .quoted i x r e → 11 * 86400 < e) :=
  ⟨test_taken_in_run, test_taken_in_quiet_run, test_taken_in_setup, by decide +kernel, no_hold_due (by decide +kernel),
    no_hold_due (by decide +kernel)⟩
theorem test_set_clock_drops_the_hold_it_makes_due :
    ((after (.setClock 1 10 3700) inRun).slot 1).lastEnding = some ⟨8, .expired⟩ ∧
    ((after (.setClock 1 10 3699) inRun).slot 1).lastEnding = none := by decide +kernel

theorem test_meets_LiftStatusChanges : inRun.takesNow = true ∧
    (liftStatusOf 3 = none ∧ liftStatusOf 0 = some inRun.rcc.lift ∧ liftStatusOf 1 = some .hold ∧
      LiftStatus.hold ≠ inRun.rcc.lift ∧ LiftStatus.hold ≠ .closed ∧ liftStatusOf 2 = some .closed ∧
      inRun.rcc.lift ≠ .closed) := by decide +kernel

/-- The seconds around the end of a day, the last day, and a hold that falls due at the advance. -/
theorem test_meets_SecondAdvanceAndDayEnd :
    (State.reset.rcc.clock.state ≠ .running ∧ (inRun.setClockTo .expired 239 86399).rcc.clock.state ≠ .running) ∧
    ((atTime inRun 10 86398).rcc.clock.state = .running ∧ (atTime inRun 10 86398).rcc.clock.second < 86399) ∧
    ((atTime quietRun 238 86399).rcc.clock.day < 239 ∧ (atTime quietRun 238 86399).rcc.clock.second = 86399) ∧
    ((atTime quietRun 239 86399).rcc.clock.day = 239 ∧ (atTime quietRun 239 86399).rcc.clock.second = 86399 ∧
      (atTime quietRun 239 86399).rcc.clock.state = .running) ∧
    ((atTime inRun 10 3699).stamp + 1 = 867700 ∧ (atTime inRun 10 3698).stamp + 1 < 867700) ∧
    (∀ k i x r e, ((atTime quietRun 239 86399).slot k).state = .quoted i x r e →
      (atTime quietRun 239 86399).stamp < e) ∧
    (∀ k i x r e, (inRun.slot k).state = .quoted i x r e → inRun.stamp + 1 < e) :=
  ⟨by decide +kernel, by decide +kernel, by decide +kernel, by decide +kernel, by decide +kernel,
    no_hold_due (by decide +kernel), no_hold_due (by decide +kernel)⟩
theorem test_second_advance_drops_the_hold_it_makes_due :
    ((after .secondAdvance (atTime inRun 10 3699)).slot 1).lastEnding = some ⟨8, .expired⟩ ∧
    ((after .secondAdvance (atTime inRun 10 3698)).slot 1).lastEnding = none := by decide +kernel
theorem test_season_end_writes_lapses_before_the_day :
    ((after .secondAdvance (atTime inRun 239 86399)).journal.records.map (·.body)).take 2 =
      [.lapsed 2 9 .seasonEnd, .dayRoll 239 0 0 0 0] := by decide +kernel

theorem test_meets_PassbackIntervalAndExpiry : inRun.takesNow = true ∧
    3600 < (3601 : U16).toNat ∧ (3600 : U16).toNat ≤ 3600 ∧
    (PassbackEntry.staysAt ⟨4, .committed 867500⟩ 867600 100 = false ∧
      PassbackEntry.staysAt ⟨4, .committed 867500⟩ 867600 101 = true) := by decide +kernel

theorem test_meets_ProductPutAndClear : inSetup.takes ∧ inRun.takes ∧ NamesProduct dayFields dayProduct ∧
    (∃ p, NamesProduct { dayFields with days := 14, window := 32, percentFee := 10000, deadlineDays := 60 } p) ∧
    NamesProduct { dayFields with kind := 1, days := 0, window := 240, policyPresent := 0 } seasonProduct ∧
    (¬ ∃ p, NamesProduct { dayFields with days := 15, window := 32 } p) ∧
    (legalCode 0 = false ∧ legalCode 1 = true ∧ legalCode 63 = true ∧ legalCode 64 = false ∧
      inSetup.rcc.mode = .setup ∧ inRun.rcc.mode = .run ∧ inSetup.productNamed 1 = true ∧
      (inSetup.productSlot 1).shape ≠ some (true, 9) ∧ (inSetup.productSlot 1).shape = some (true, 8) ∧
      inSetup.productNamed 63 = false) := by
  refine ⟨test_taken_in_setup, test_taken_in_run, (productOf_eq_some_iff _ _).mp (by decide +kernel),
    ⟨(productOf { dayFields with days := 14, window := 32, percentFee := 10000, deadlineDays := 60 }).get
      (by decide +kernel), (productOf_eq_some_iff _ _).mp (by simp)⟩,
    (productOf_eq_some_iff _ _).mp (by decide +kernel), ?_, by decide +kernel⟩
  rintro ⟨p, hp⟩
  have h := (productOf_eq_some_iff _ _).mpr hp
  have hn : productOf { dayFields with days := 15, window := 32 } = none := by decide +kernel
  exact absurd (hn.symm.trans h) (by simp)

/-- The record names an entry of that status. -/
theorem names {s : State} {r : PassRecord} {st : PassStatus} (h : s.recordStatus? r = some st) : s.namesPass r st :=
  (s.recordStatus?_eq_some_iff r st).mp h

/-- The record names no entry. -/
theorem namesNone {s : State} {r : PassRecord} (h : s.recordStatus? r = none) : ¬ ∃ st, s.namesPass r st :=
  (s.recordStatus?_eq_none_iff r).mp h

/-- A Pass Table of `n` entries from pass 100 on; 4,096 fill it. -/
def full (n : Nat) : State := quietRun.setPasses ((List.range n).map fun k => entryOf (100 + k) 1 .active)

theorem test_meets_PassPutAddsOrReplaces : inRun.takes ∧
    inRun.namesPass ⟨4294967294, 1, 239, 16777215, 3⟩ .refunded ∧ (¬ ∃ st, inRun.namesPass ⟨4294967295, 1, 0, 0, 0⟩ st) ∧
    (¬ ∃ st, inRun.namesPass ⟨1, 1, 240, 0, 0⟩ st) ∧ (¬ ∃ st, inRun.namesPass ⟨1, 1, 0, 0, 2⟩ st) ∧
    inRun.namesPass ⟨9, 1, 8, 0, 0⟩ .active ∧ inRun.namesPass ⟨8, 1, 8, 0, 0⟩ .active ∧
    inRun.namesPass ⟨5, 1, 8, 32999, 0⟩ .active ∧ (full 4096).namesPass ⟨5, 1, 8, 32999, 0⟩ .active ∧
    (full 4095).namesPass ⟨5, 1, 8, 32999, 0⟩ .active ∧
    SameAsRecord pass5 ⟨5, 1, 8, 32999, 0⟩ .active ∧ ¬ SameAsRecord pass5 ⟨5, 1, 8, 0, 0⟩ .active :=
  ⟨test_taken_in_run, names (by decide +kernel), namesNone (by decide +kernel), namesNone (by decide +kernel),
    namesNone (by decide +kernel), names (by decide +kernel), names (by decide +kernel), names (by decide +kernel),
    names (by decide +kernel), names (by decide +kernel), by unfold SameAsRecord; decide +kernel,
    by unfold SameAsRecord; decide +kernel⟩
theorem test_meets_PassPutAddsOrReplaces_entries :
    inRun.findPass 4294967294 = none ∧ (pass9.marker.isSome ∧ inRun.findPass 9 = some pass9) ∧
    inRun.findPass 8 = some (entryOf 8 1 (.refundHold 1)) ∧ (entryOf 8 1 (.refundHold 1)).isHeld = true ∧
    inRun.findPass 5 = some pass5 ∧ pass5.marker = none ∧ pass5.isHeld = false ∧
    ((full 4096).findPass 5 = none ∧ 4096 ≤ (full 4096).passes.length ∧ (full 4096).takesNow = true) ∧
    ((full 4095).findPass 5 = none ∧ (full 4095).passes.length < 4096) := by decide +kernel

theorem test_meets_PassBlockAndDelete : inRun.takesNow = true ∧
    (legalPass 0 = false ∧ legalPass 4294967295 = false ∧ legalPass 1 = true ∧ legalPass 4294967294 = true ∧
      inRun.findPass 1 = none ∧ inRun.findPass 5 = some pass5 ∧ pass5.status = .active ∧ pass5.marker = none ∧
      inRun.findPass 6 = some (entryOf 6 1 .blocked) ∧ inRun.findPass 7 = some (entryOf 7 1 .refunded) ∧
      inRun.findPass 8 = some (entryOf 8 1 (.refundHold 1)) ∧ (entryOf 8 1 (.refundHold 1)).isHeld = true ∧
      inRun.findPass 9 = some pass9 ∧ pass9.marker.isSome) := by decide +kernel

theorem test_meets_PassUnblockRestoresActive : inRun.takesNow = true ∧
    (legalPass 0 = false ∧ legalPass 4294967295 = false ∧ inRun.findPass 1 = none ∧
      inRun.findPass 6 = some (entryOf 6 1 .blocked) ∧ (entryOf 6 1 .blocked).status = .blocked ∧
      inRun.findPass 5 = some pass5 ∧ pass5.status ≠ .blocked) := by decide +kernel

theorem test_meets_UsageMergeAddsDays : inRun.takesNow = true ∧
    (([] : List Byte).length < 1 ∧ 16 < (List.replicate 17 (1 : Byte)).length ∧
      (List.replicate 16 (1 : Byte)).length ≤ 16 ∧ legalPass (4294967295 : U32).toNat = false ∧
      239 < (240 : Byte).toNat ∧ (∀ d ∈ ([8, 239] : List Byte), d.toNat ≤ 239) ∧
      inRun.findPass 1 = none ∧ inRun.findPass 5 = some pass5 ∧ inRun.product? pass5.product = some dayProduct ∧
      pass5.start ≤ (15 : Byte).toNat ∧ (15 : Byte).toNat < pass5.start + dayProduct.window ∧
      ¬ (16 : Byte).toNat < pass5.start + dayProduct.window ∧ ¬ pass5.start ≤ (7 : Byte).toNat ∧
      inRun.findPass 10 = some (entryOf 10 2 .active) ∧ inRun.product? 2 = some seasonProduct ∧
      inRun.findPass 11 = some (entryOf 11 3 .active) ∧ inRun.product? 3 = none) := by decide +kernel

theorem test_meets_TransferOpenAbortStatus : inSetup.takesNow = true ∧ (loading 3).takesNow = true ∧
    (transferModeOf 0 = some .load ∧ transferModeOf 1 = some .verify ∧ transferModeOf 2 = none ∧
      boolOf 1 = some true ∧ boolOf 2 = none ∧ (0 : U16).toNat < 1 ∧ 1 ≤ (1 : U16).toNat ∧ (4096 : U16).toNat ≤ 4096 ∧
      4096 < (4097 : U16).toNat ∧ inSetup.xfer.condition ≠ .isOpen ∧ (loading 3).xfer.condition = .isOpen) := by
  decide +kernel

/-- A record of pass 5. -/
def rec5 : PassRecord := ⟨5, 1, 8, 32999, 0⟩

/-- Chunks of too few and too many records, with no transfer open, one more than remain, one fewer, and as many as
remain, with and without PURGE, under LOAD and VERIFY. -/
theorem test_meets_TransferChunkHandled :
    (([] : List PassRecord).length < 1 ∧ 12 < (List.replicate 13 rec5).length ∧ (List.replicate 12 rec5).length ≤ 12) ∧
    (inSetup.takesNow = true ∧ inSetup.xfer.condition ≠ .isOpen) ∧
    ((loading 12).takesNow = true ∧ (loading 12).xfer.condition = .isOpen ∧
      (loading 11).xfer.header = some ⟨.load, true, 11, 11⟩ ∧ 11 < (List.replicate 12 rec5).length ∧
      (loading 12).xfer.header = some ⟨.load, true, 12, 12⟩ ∧ 12 = (List.replicate 12 rec5).length ∧
      (loading 13).xfer.header = some ⟨.load, true, 13, 13⟩ ∧ (List.replicate 12 rec5).length < 13) ∧
    (after (.xferOpen 1 0 0 1) inSetup).xfer.header = some ⟨.load, false, 1, 1⟩ ∧
    (after (.xferOpen 1 1 0 2) inSetup).xfer.header = some ⟨.verify, false, 2, 2⟩ ∧
    (after (.xferOpen 1 1 1 1) inSetup).xfer.header = some ⟨.verify, true, 1, 1⟩ ∧
    (State.handleRecords .load [rec5] (loading 1)).2 = [.unchanged] := by decide +kernel
theorem test_chunk_short_of_the_rest :
    (after (.xferChunk 1 [rec5]) (loading 2)).xfer.header = some ⟨.load, true, 2, 1⟩ ∧
    (after (.xferChunk 1 [rec5, rec5]) (loading 1)).lif.holding = some (.reply 0xA9 1 .badValue (.remaining (some 1))) := by
  decide +kernel

theorem test_meets_TransferRecordOutcomes :
    (¬ ∃ st, inRun.namesPass ⟨5, 3, 8, 0, 0⟩ st) ∧ inRun.namesPass ⟨1, 1, 8, 0, 0⟩ .active ∧
    inRun.namesPass ⟨9, 1, 8, 0, 0⟩ .active ∧ inRun.namesPass ⟨8, 1, 8, 0, 0⟩ .active ∧ inRun.namesPass rec5 .active ∧
    (inRun.findPass 1 = none ∧ inRun.findPass 9 = some pass9 ∧ pass9.marker.isSome ∧
      inRun.findPass 8 = some (entryOf 8 1 (.refundHold 1)) ∧ inRun.findPass 5 = some pass5 ∧ pass5.marker = none ∧
      pass5.isHeld = false ∧ legalPass (4294967295 : U32).toNat = false ∧ (full 4095).passes.length < 4096 ∧
      4096 ≤ (full 4096).passes.length ∧ (full 4096).findPass 5 = none) :=
  ⟨namesNone (by decide +kernel), names (by decide +kernel), names (by decide +kernel), names (by decide +kernel),
    names (by decide +kernel), by decide +kernel⟩

theorem test_meets_LaneConfigKeepsOrChangesRole : inSetup.takesNow = true ∧ inRun.takesNow = true ∧
    (inSetup.rcc.mode = .setup ∧ inRun.rcc.mode = .run ∧ fourOf 3 = some 3 ∧ fourOf 4 = none ∧ roleOf 2 = some .off ∧
      roleOf 3 = none ∧ roleOf 1 = some .desk ∧ boolOf 1 = some true ∧ boolOf 2 = none ∧ (1 : Byte).toNat < 2 ∧
      2 ≤ (2 : Byte).toNat ∧ (30 : Byte).toNat ≤ 30 ∧ 30 < (31 : Byte).toNat ∧ roleOf 0 ≠ some .desk ∧
      Role.desk ≠ (inSetup.lane 3).role ∧ Role.desk = (inSetup.lane 1).role ∧
      (inSetup.setLane 0 { gateLane with latches := ⟨false, false, true⟩ }).takesNow = true ∧
      (inSetup.lane 0).latches.any = false) := by decide +kernel

/-- A lane in each state, with each override and display. -/
theorem test_meets_LaneOutputSetsOneOverride : inRun.takesNow = true ∧
    (fourOf 3 = some 3 ∧ fourOf 4 = none ∧ laneOutputOf 5 = none ∧ laneOutputOf 0 = some .arm ∧
      laneOutputOf 4 = some .buzzer ∧
      armOverrideOf 3 = none ∧ armOverrideOf 2 = some .lock ∧ armOverrideOf 1 = some .free ∧ outputOverrideOf 3 = none ∧
      outputOverrideOf 2 = some .off ∧ (inRun.lane 3).role = .off ∧ (inRun.lane 1).role = .desk ∧
      (inRun.lane 2).role = .gate ∧ (inRun.lane 2).armOverride ≠ .lock ∧
      ({ gateLane with armOverride := .lock } : Lane).armOverride = .lock) ∧
    (inRun.lamps 0 = ⟨.dark, .lit, .dark⟩ ∧ inRun.lamps 2 = ⟨.lit, .dark, .dark⟩ ∧ inSetup.lamps 0 = ⟨.dark, .dark, .lit⟩ ∧
      (inRun.setClockTo .expired 239 86399).lamps 1 = ⟨.dark, .dark, .lit⟩ ∧ inRun.lamps 3 = ⟨.dark, .dark, .dark⟩ ∧
      (inRun.setLane 0 { gateLane with latches := ⟨true, false, false⟩ }).lamps 0 = ⟨.dark, .dark, .flashing⟩ ∧
      (inRun.setLane 0 { gateLane with display := some .refusal, greenOverride := .on }).lamps 0 = ⟨.lit, .dark, .lit⟩) ∧
    (inRun.latchRelease 2 = true ∧ inRun.latchRelease 0 = false ∧
      (inRun.setLane 0 { gateLane with armOverride := .free }).latchRelease 0 = true ∧
      (inRun.setLane 2 { gateLane with armOverride := .lock }).latchRelease 2 = false) ∧
    (inRun.buzzer 0 = .pattern .silence ∧
      (inRun.setLane 0 { gateLane with buzzerOverride := .on }).buzzer 0 = .continuous ∧
      (inRun.setLane 0 { gateLane with buzzerOverride := .off, pattern := .alarm }).buzzer 0 = .silent) := by
  decide +kernel

/-- Lane 0 of `inRun` with latches set, beam B blocked. -/
def latched (f : LatchSet) : State := inRun.setLane 0 { gateLane with latches := f, beamB := true }

theorem test_meets_LaneClearAndInject : inRun.takesNow = true ∧ (latched ⟨true, true, false⟩).takesNow = true ∧
    (fourOf 4 = none ∧ fourOf 0 = some 0 ∧ fourOf 3 = some 3) ∧
    -- a latch whose condition is present, one whose condition is absent, and none set
    ((latched ⟨false, true, false⟩).lane 0).latchesLeft = ⟨false, true, false⟩ ∧
    ((latched ⟨true, false, false⟩).lane 0).latchesLeft = LatchSet.empty ∧
    ((latched ⟨true, false, false⟩).lane 0).latches.any = true ∧ (inRun.lane 0).latches.any = false ∧
    (legalPass 0 = false ∧ legalPass 1 = true ∧ legalPass 4294967294 = true ∧ legalPass 4294967295 = false ∧
      inRun.laneState 0 = .ready ∧ inRun.laneState 2 ≠ .ready) := by decide +kernel
theorem test_lane_clear_of_an_absent_condition :
    sent (.laneClear 1 0) (latched ⟨true, false, false⟩) = some (.reply 0xB2 1 .ok (.latchedSet LatchSet.empty)) ∧
    (after (.laneClear 1 0) (latched ⟨true, false, false⟩)).journal.records.map (·.body) = [.faultCleared 0] := by
  decide +kernel

theorem test_meets_PollOutcomeReaderHealth : (inRun.lane 3).role = .off ∧ (inRun.lane 0).role ≠ .off ∧
    min 64 (({ gateLane with silentCount := 14 } : Lane).silentCount + 1) < inRun.rcc.site.readerLoss ∧
    inRun.rcc.site.readerLoss ≤ min 64 (({ gateLane with silentCount := 15 } : Lane).silentCount + 1) ∧
    min 64 (({ gateLane with silentCount := 64 } : Lane).silentCount + 1) = 64 := by decide +kernel

/-- Lane 0 of `inRun` in FAULT, under LOCK, and a state with the clock not RUNNING. -/
theorem test_meets_ReadsRefusedDiscardedOrSubmitted :
    (1 ≤ (4294967294 : U32).toNat ∧ (4294967294 : U32).toNat ≤ 4294967294) ∧ 4294967294 < (4294967295 : U32).toNat ∧
    1 ≤ (1 : U32).toNat ∧ ¬ 1 ≤ (0 : U32).toNat ∧
    (inRun.lane 0).role = .gate ∧ inRun.laneState 0 = .ready ∧ (inRun.lane 0).armOverride ≠ .lock ∧
    ({ gateLane with armOverride := .lock } : Lane).armOverride = .lock ∧
    inRun.laneState 2 = .unlocked ∧ inSetup.laneState 0 = .closed ∧ (asking inRun 0 5 .gate).laneState 0 = .waiting ∧
    (inRun.setLane 0 { gateLane with latches := ⟨true, false, false⟩ }).laneState 0 = .fault ∧
    (inRun.lane 1).role = .desk ∧ inRun.laneState 1 = .ready ∧ inRun.clockRunning = true ∧
    (inRun.setLane 1 { deskLane with latches := ⟨true, false, false⟩ }).laneState 1 = .fault ∧
    (asking inRun 1 5 .desk).laneState 1 = .waiting ∧ (inRun.setClockTo .expired 239 86399).clockRunning = false := by
  decide +kernel

theorem test_meets_RefusalEffects : ∃ u, u = inRun.refuse 0 .unknown (some 1) := ⟨_, rfl⟩

theorem test_meets_FaultLatchEffects : (inRun.lane 2).latches.has .armStuck = false ∧
    (inRun.lane 2).latches.any = false ∧ inRun.pendingPass 2 = some 9 ∧ inRun.pendingPass 0 = none ∧
    ((latched ⟨true, false, false⟩).lane 0).latches.has .readerLost = true ∧
    ((latched ⟨true, false, false⟩).lane 0).latches.has .beamStuck = false ∧
    ((latched ⟨true, false, false⟩).lane 0).latches.any = true := by decide +kernel

theorem test_meets_LaneTimersAndArmRest : (inRun.lane 0).armRest = true ∧ (inRun.lane 0).armRest ≠ false ∧
    (inRun.lane 0).armTimer = none ∧ ({ gateLane with armTimer := some 10 } : Lane).armTimer = some 10 ∧
    (inRun.lane 0).beamATimer = none ∧ ({ gateLane with beamATimer := some 20 } : Lane).beamATimer = some 20 ∧
    (inRun.lane 0).beamBTimer = none ∧ ({ gateLane with beamBTimer := some 20 } : Lane).beamBTimer = some 20 ∧
    (inRun.lane 0).alarmTimer = false ∧ ({ gateLane with alarmTimer := true } : Lane).alarmTimer = true := by
  decide +kernel

/-- Every check passed, and each of the first twelve failed, days and minutes at their edges. -/
theorem test_meets_DecisionByThirteenChecks :
    inRun.decisionOn 5 = .admitted ∧ inRun.decisionOn 1 = .refusedWith .unknown ∧
    inRun.decisionOn 11 = .refusedWith .noProduct ∧ inRun.decisionOn 6 = .refusedWith .blocked ∧
    inRun.decisionOn 7 = .refusedWith .refunded ∧ inRun.decisionOn 8 = .refusedWith .held ∧
    inRun.decisionOn 9 = .refusedWith .inLane ∧ (atTime inRun 7 0).decisionOn 5 = .refusedWith .notYet ∧
    (atTime inRun 8 0).decisionOn 5 = .admitted ∧ (atTime inRun 15 0).decisionOn 5 = .admitted ∧
    (atTime inRun 16 0).decisionOn 5 = .refusedWith .expired ∧ inSetup.decisionOn 5 = .refusedWith .setupMode ∧
    State.reset.decisionOn 5 = .refusedWith .noClock := by decide +kernel
/-- The product of pass 5 with other hours; the wall minute of `inRun` is 240. -/
def withHours (openMinute closeMinute : Nat) : State :=
  inRun.setTariff (inRun.tariff.set 0
    ⟨some { dayProduct with openMinute := openMinute, closeMinute := closeMinute }, none⟩)

theorem test_meets_DecisionByThirteenChecks_rest :
    (inRun.updatePass 5 fun e => { e with usage := some { oneDay with days := [0, 1, 3] } }).decisionOn 5 =
      .refusedWith .daysUsedUp ∧
    (inRun.updatePass 5 fun e => { e with usage := some { oneDay with days := [0, 1, 2] } }).decisionOn 5 = .admitted ∧
    (inRun.setPbl { inRun.pbl with entries := [⟨5, .committed 0⟩] }).decisionOn 5 = .refusedWith .passback ∧
    (inRun.setRcc { inRun.rcc with lift := .hold }).decisionOn 5 = .refusedWith .liftHold ∧
    (inRun.setRcc { inRun.rcc with lift := .closed }).decisionOn 5 = .refusedWith .liftClosed ∧
    (inRun.setRcc { inRun.rcc with site := { inRun.rcc.site with liftNumber := 1 } }).decisionOn 5 =
      .refusedWith .notThisLift ∧
    inRun.wallMinute = 240 ∧ (withHours 0 240).decisionOn 5 = .refusedWith .outOfHours ∧
    (withHours 240 241).decisionOn 5 = .admitted ∧ (withHours 241 1440).decisionOn 5 = .refusedWith .outOfHours := by
  decide +kernel

/-- `inRun` with requests waiting at lanes 0 and 3, and the pointer at a lane. -/
def waitingAt (pointer : LaneId) : State :=
  inRun.setAe { waiting := ⟨some ⟨5, .gate⟩, none, none, some ⟨6, .gate⟩⟩, pointer := pointer }

/-- No request waiting; the pointer at the waiting lane, and one, two and three lanes before it, over the end of the
order. -/
theorem test_meets_GrantInRotatingOrder : (∀ l, inRun.ae.waiting.get l = none) ∧
    (waitingAt 0).ae.waiting.get ((waitingAt 0).ae.pointer + 0) = some ⟨5, .gate⟩ ∧
    ((waitingAt 1).ae.waiting.get ((waitingAt 1).ae.pointer + 2) = some ⟨6, .gate⟩ ∧
      ∀ j : Fin 4, j.val < 2 → (waitingAt 1).ae.waiting.get ((waitingAt 1).ae.pointer + j) = none) ∧
    ((asking inRun 0 5 .gate).setAe { (asking inRun 0 5 .gate).ae with pointer := 1 }).ae.waiting.get (1 + 3) =
      some ⟨5, .gate⟩ ∧
    (∀ j : Fin 4, j.val < 3 → (asking inRun 0 5 .gate).ae.waiting.get (1 + j) = none) ∧
    ((waitingAt 3).grantedLane = some 3 ∧ (after .grant (waitingAt 3)).ae.pointer = 0 ∧
      (after .grant (waitingAt 1)).ae.pointer = 0 ∧ (after .grant (waitingAt 0)).ae.pointer = 1) := by decide +kernel

/-- The Passback List with `n` COMMITTED entries, the pending one among them; 256 fill it. -/
def passbackOf (n : Nat) : State := (asking inRun 0 5 .gate).setPbl
  { inRun.pbl with entries := ⟨9, .pending 2⟩ :: (List.range (n - 1)).map fun k => ⟨100 + k, .committed 867600⟩ }

theorem test_meets_GateAndTestGrants : (asking inRun 0 5 .gate).grantedLane = some 0 ∧
    (asking inRun 0 5 .gate).ae.waiting.get 0 = some ⟨5, .gate⟩ ∧
    (asking inRun 0 5 .gate).decisionOn 5 = .admitted ∧ (asking inRun 0 6 .gate).decisionOn 6 = .refusedWith .blocked ∧
    (inRun.findPass 5).isSome ∧
    ((passbackOf 255).pbl.entries.length < 256 ∧ (passbackOf 255).decisionOn 5 = .admitted) ∧
    (256 ≤ (passbackOf 256).pbl.entries.length ∧ (passbackOf 256).decisionOn 5 = .admitted) ∧
    (asking inRun 0 5 (.test 9)).grantedLane = some 0 ∧
    (asking inRun 0 5 (.test 9)).ae.waiting.get 0 = some ⟨5, .test 9⟩ ∧
    ((asking inRun 0 5 (.test 9)).leaveSet 0).laneState 0 ≠ .fault ∧
    ((asking (latched ⟨true, false, false⟩) 0 5 (.test 9)).leaveSet 0).laneState 0 = .fault := by decide +kernel

/-- Lane 1 of a state with auto-quote on and pass `p` waiting there. -/
def deskAsking (s : State) (p : Nat) : State := asking (s.setLane 1 { deskLane with autoQuote := true }) 1 p .desk

theorem test_meets_DeskGrantServesTheLookup : (asking inRun 1 5 .desk).grantedLane = some 1 ∧
    (asking inRun 1 5 .desk).ae.waiting.get 1 = some ⟨5, .desk⟩ ∧
    inRun.findPass 1 = none ∧ inRun.findPass 5 = some pass5 ∧
    (asking inRun 1 5 .desk).rcc.clock.state = .running ∧
    ((asking inRun 1 5 .desk).setClockTo .expired 239 86399).rcc.clock.state ≠ .running ∧
    ((asking inRun 1 5 .desk).leaveSet 1).laneState 1 ≠ .fault ∧
    ((asking (inRun.setLane 1 { deskLane with latches := ⟨true, false, false⟩ }) 1 5 .desk).leaveSet 1).laneState 1 =
      .fault ∧
    ((asking inRun 1 5 .desk).lane 1).autoQuote = false ∧ ((deskAsking inRun 5).lane 1).autoQuote = true ∧
    (deskAsking inSetup 5).rcc.mode = .setup ∧ (deskAsking inRun 5).rcc.mode = .run ∧
    (deskAsking inRun 6).quoteChecks 6 = .fails .blocked ∧
    ((deskAsking inRun 5).quoteChecks 5 = .slotFree 0 ∧ (deskAsking inRun 5).rfc.busy.isSome) ∧
    ((deskAsking quietRun 5).quoteChecks 5 = .slotFree 0 ∧ (deskAsking quietRun 5).rfc = ⟨none, []⟩ ∧
      (quietRun.refundTerms pass5).isSome) := by decide +kernel

theorem test_meets_RotationCommitsTheAdmission : (inRun.lane 2).role = .gate ∧ inRun.pendingPass 2 = some 9 ∧
    inRun.findPass 9 = some pass9 ∧ pass9.marker = some { lane := 2, day := 10 } ∧ (inRun.lane 2).entries = [] ∧
    ({ gateLane with entries := [⟨867599, 3⟩] } : Lane).entries = ⟨867599, 3⟩ :: [] ∧
    (List.replicate 3 (⟨0, 3⟩ : MatchItem)).length < 4 ∧ ¬ (List.replicate 4 (⟨0, 3⟩ : MatchItem)).length < 4 := by
  decide +kernel

theorem test_meets_RotationWithNonePending : (inRun.lane 1).role ≠ .gate ∧ (inRun.lane 0).role = .gate ∧
    inRun.pendingPass 0 = none ∧ (inRun.lane 0).armOverride ≠ .free ∧ (inRun.lane 0).entries = [] ∧
    ({ gateLane with armOverride := .free } : Lane).armOverride = .free ∧
    ({ gateLane with buzzerOverride := .off, pattern := .alarm } : Lane).soundAlarm.pattern = .silence ∧
    ({ gateLane with buzzerOverride := .on } : Lane).soundAlarm.pattern = .silence ∧
    gateLane.soundAlarm.pattern = .alarm := by decide +kernel

theorem test_meets_LapseEndsTheAdmission : inRun.pendingPass 0 = none ∧ inRun.pendingPass 2 = some 9 ∧
    (inRun.lane 0).unlockTimer = none ∧ (inRun.lane 2).unlockTimer = some 8 ∧ inRun.laneState 2 = .unlocked ∧
    inRun.laneState 0 ≠ .unlocked := by decide +kernel

/-- Lane 0 of `inRun` about to see an entry, with `n` entry items held. -/
def entering (n : Nat) : Lane :=
  { gateLane with detector := .inner, beamB := true, entries := List.replicate n ⟨0, 3⟩ }

theorem test_meets_BeamsAndMatchTimers : (inRun.lane 0).beam .a = false ∧ (inRun.lane 0).beam .a ≠ true ∧
    (inRun.lane 1).role ≠ .gate ∧ (inRun.lane 0).role = .gate ∧ (inRun.lane 0).latches.beamStuck = false ∧
    (inRun.lane 0).detector ≠ .inner ∧
    ((entering 3).beam .b ≠ false ∧ (entering 3).detector = .inner ∧ (entering 3).rotations = [] ∧
      (entering 3).entries.length < 4 ∧ 4 ≤ (entering 4).entries.length) ∧
    ({ entering 0 with rotations := [⟨0, 3⟩] } : Lane).rotations = ⟨0, 3⟩ :: [] ∧
    (3 : Fin 4).val < (entering 4).entries.length ∧ (entering 3).entries.length ≤ (3 : Fin 4).val := by decide +kernel

theorem test_meets_TallyReportsOnePart : inRun.takesNow = true ∧
    (1 < (2 : Byte).toNat ∧ 4 < (5 : Byte).toNat ∧ (0 : Byte).toNat = 0 ∧ (1 : Byte).toNat = 1 ∧
      (0 : Byte).toNat = (0 : LaneId).val ∧ (3 : Byte).toNat = (3 : LaneId).val ∧ (4 : Byte).toNat = 4) := by
  decide +kernel

theorem test_meets_TallyClearPresetsAdmitted : inRun.takesNow = true ∧ (inRun.pendingPass 2).isSome ∧
    inRun.pendingPass 0 = none := by decide +kernel

theorem test_meets_DividerAndMultiplierExact : 0 < 12 ∧ 16777215 < 2 ^ 24 ∧ 167772150000 < 2 ^ 40 ∧ 28 < 2 ^ 5 ∧
    10000 < 2 ^ 14 := by decide

theorem test_meets_RefundResultsAndTheirBounds : 1 ≤ snap.days ∧ snap.days ≤ 14 ∧ snap.price ≤ 16777215 ∧
    snap.rounding ∈ roundingUnits ∧ 100 ∈ roundingUnits ∧ snap.percentFee ≤ 10000 ∧
    (computeRefund { snap with price := 16777215, days := 14, fixedFee := 0, percentFee := 0, rounding := 1 }).payout =
      16777215 ∧
    (computeRefund { snap with price := 16777215, days := 1, percentFee := 10000 }).net = 0 ∧
    -- used units equal to the purchased ones, and one more
    (computeRefund { snap with fullDays := 3 }).flags.unitsClamped = false ∧
    (computeRefund { snap with fullDays := 3, stormDays := 1 }).flags.unitsClamped = true := by decide +kernel

theorem test_meets_QuoteChecksAndAcceptance : inRun.takesNow = true ∧ inSetup.takesNow = true ∧
    quietRun.takesNow = true ∧
    (inRun.rcc.mode = .run ∧ inSetup.rcc.mode = .setup ∧ legalPass 0 = false ∧ inRun.findPass 1 = none ∧
      inRun.refundTerms (entryOf 10 2 .active) = none ∧ inRun.findPass 10 = some (entryOf 10 2 .active) ∧
      (inRun.refundTerms pass5).isSome ∧ inRun.findPass 6 = some (entryOf 6 1 .blocked) ∧
      inRun.findPass 7 = some (entryOf 7 1 .refunded) ∧ (entryOf 8 1 (.refundHold 1)).isHeld = true ∧
      pass9.status = .active ∧ pass9.marker.isSome ∧ pass5.status = .active ∧ pass5.marker = none) ∧
    ((quietRun.rfc.busy = none ∧ quietRun.rfc.queue = []) ∧ inRun.rfc.busy.isSome ∧
      (inRun.slot 0).state = .free ∧ (∀ i : SlotId, i.val < 0 → (inRun.slot i).state ≠ .free) ∧
      (∀ i, ((after (.quote 1 5) inRun).slot i).state ≠ .free) ∧
      (atTime inRun 45 0).today ≤ 8 + 8 - 1 + 30 ∧ 8 + 8 - 1 + 30 < (atTime inRun 46 0).today) := by decide +kernel
theorem test_day_counts_by_mark :
    (inSetup.setRcc { inSetup.rcc with calendar := (inSetup.rcc.calendar.set 8 .closedEarly).set 10 .closedAllDay }).dayCounts
      { pass5 with usage := some { oneDay with days := [0, 1, 2, 3] } } = ⟨2, 1, 1⟩ := by decide +kernel

theorem test_meets_ConfirmSettlesOrRefuses : inRun.takesNow = true ∧
    (fourOf 3 = some 3 ∧ fourOf 4 = none ∧ legalPass 8 = true ∧ legalPass 0 = false ∧ (inRun.slot 0).state = .free ∧
      ((after (.cancel 1 2 12) inRun).slot 2).state = .cancelling ∧
      (inRun.slot 1).state = .quoted ⟨8, .line⟩ snap (computeRefund snap) 867700 ∧
      (inRun.slot 3).state.identity? = some ⟨13, .line⟩ ∧ (inRun.slot 3).state.phase ≠ .quoted ∧
      0 < (computeRefund snap).payout ∧ inRun.findPass 8 = some (entryOf 8 1 (.refundHold 1)) ∧
      inRun.dayCounts (entryOf 8 1 (.refundHold 1)) = ⟨0, 0, 0⟩ ∧
      inRun.dayCounts { entryOf 8 1 (.refundHold 1) with usage := some oneDay } ≠ ⟨0, 0, 0⟩ ∧
      (atTime inRun 45 0).today ≤ snap.start + snap.window - 1 + snap.deadlineDays ∧
      snap.start + snap.window - 1 + snap.deadlineDays < (atTime inRun 46 0).today ∧
      inRun.journal.settlementCount < 64 ∧ (computeRefund { snap with fullDays := 4 }).payout = 0) := by decide +kernel

theorem test_meets_QuotesEndUnsettled : inRun.takesNow = true ∧
    ((inRun.slot 1).state.identity? = some ⟨8, .line⟩ ∧ (inRun.slot 2).state.phase = .computing ∧
      (inRun.slot 1).state = .quoted ⟨8, .line⟩ snap (computeRefund snap) 867700 ∧
      867700 ≤ (atTime inRun 10 3700).stamp ∧ (atTime inRun 10 3699).stamp < 867700 ∧ (inRun.slot 0).state = .free ∧
      fourOf 4 = none ∧ legalPass 0 = false ∧ (8 : Nat) ≠ (9 : U32).toNat) := by decide +kernel

theorem test_meets_CompletionQuotesTheSlot : quietRun.rfc.busy = none ∧
    inRun.rfc.busy = some ⟨2, snap, 0, Working.start⟩ ∧ Working.start = workAfter snap 0 ∧
    (inRun.slot 2).state = .computing ⟨12, .desk 1⟩ snap ∧ (2 : SlotId) ∉ inRun.rfc.queue ∧ inRun.rfc.queue = 3 :: [] ∧
    (inRun.slot 3).state = .queued ⟨13, .line⟩ ∧ inRun.takeSnapshot 13 = some snap ∧
    (after (.quote 1 5) quietRun).rfc.queue = [] ∧ (after (.quote 1 5) quietRun).rfc.busy.isSome ∧
    ((after (.cancel 1 2 12) inRun).slot 2).state = .cancelling := by decide +kernel

theorem test_meets_QueriesChangeNothing : inRun.takes ∧ PassesOrdered inRun.passes ∧
    ((∀ e ∈ inRun.passes, e.pass < 14) ∧ 1 < (2 : Byte).toNat ∧ legalPass 0 = false ∧ inRun.findPass 1 = none ∧
      inRun.findPass 5 = some pass5 ∧ pass5 ∈ inRun.passes ∧ fourOf 4 = none ∧ fourOf 3 = some 3 ∧
      (∀ x ∈ inRun.passes, 1 ≤ x.pass → pass5.pass ≤ x.pass)) :=
  ⟨test_taken_in_run, by unfold PassesOrdered; decide +kernel, by decide +kernel⟩

theorem test_meets_StatusAndNoticeMask : inRun.takesNow = true ∧
    (1 < (2 : Byte).toNat ∧ (0 : Byte).toNat = 0 ∧ (1 : Byte).toNat = 1 ∧ noticeKindOf 0 = some .laneFault ∧
      noticeKindOf 7 = some .clockExpired ∧ 7 < (8 : Byte).toNat ∧ maskSettingOf 1 = some false ∧
      maskSettingOf 0 = some true) := by decide +kernel

/-- A Journal of `n` RIDER records behind `k` SETTLEMENT records. -/
def journalOf (k n : Nat) : Journal :=
  { records := List.replicate k ⟨0, 0, .settlement (settlementOf 1 ⟨8, .line⟩ (computeRefund snap))⟩ ++
      List.replicate n ⟨1, 0, .rider 0 .free⟩
    nextSeq := 65535, gap := 65535 }

/-- The Journal with 511 and 512 records, 383 and 384, 47 and 48 settlements. -/
theorem test_meets_JournalWritesAndNoticeRaises :
    (journalOf 1 510).records.length < 512 ∧ 512 ≤ (journalOf 1 511).records.length ∧
    (∀ x ∈ (journalOf 1 511).records.take 1, x.isSettlement = true) ∧
    ((journalOf 1 511).records[1]?.map (·.isSettlement)) = some false ∧
    ((journalOf 0 383).isHigh = false ∧ (journalOf 0 384).isHigh = true) ∧
    ((journalOf 47 0).isHigh = false ∧ (journalOf 48 0).isHigh = true) ∧
    ((∀ y ∈ inRun.notices.pending, y.key ≠ .journalHigh) ∧
      (inRun.raise .dayRolled).notices.pending = [] ++ .dayRolled :: []) := by decide +kernel
/-- The 512th record joins; the next one takes the place of the oldest ROUTINE record, behind the settlement. -/
theorem test_journal_makes_room_for_a_record :
    ((journalOf 1 510).write 7 (.lift .hold)).records.length = 512 ∧
    ((journalOf 1 510).write 7 (.lift .hold)).gap = 65535 ∧ ((journalOf 1 510).write 7 (.lift .hold)).nextSeq = 0 ∧
    ((journalOf 1 511).write 7 (.lift .hold)).records.length = 512 ∧
    ((journalOf 1 511).write 7 (.lift .hold)).settlementCount = 1 ∧
    ((journalOf 1 511).write 7 (.lift .hold)).records.getLast? = some ⟨65535, 7, .lift .hold⟩ := by decide +kernel
/-- The write that makes 384 records raises JOURNAL_HIGH, the one before it does not; the same of 48 settlements. -/
theorem test_journal_high_at_its_limits :
    ((inRun.setJournal (journalOf 0 382)).writeRecord (.lift .hold)).notices.pending = [] ∧
    ((inRun.setJournal (journalOf 0 383)).writeRecord (.lift .hold)).notices.pending = [.journalHigh] ∧
    ((inRun.setJournal (journalOf 47 0)).writeRecord (.lift .hold)).notices.pending = [] ∧
    ((inRun.setJournal (journalOf 48 0)).writeRecord (.lift .hold)).notices.pending = [.journalHigh] := by decide +kernel

/-- A FAULT record that brings the journal to 384 raises JOURNAL_HIGH before LANE_FAULT. -/
theorem test_fault_record_raises_journal_high_first :
    (((latched ⟨false, false, false⟩).setJournal (journalOf 0 383)).latchFault 0 .armStuck).notices.pending =
      [.journalHigh, .laneFault 0] ∧
    (((latched ⟨false, false, false⟩).setJournal (journalOf 0 382)).latchFault 0 .armStuck).notices.pending =
      [.laneFault 0] := by decide +kernel

theorem test_meets_JournalFetchTakesTheOldest : inRun.takesNow = true ∧
    ((0 : Byte).toNat < 1 ∧ 8 < (9 : Byte).toNat ∧ 1 ≤ (1 : Byte).toNat ∧ (8 : Byte).toNat ≤ 8) ∧
    -- four SETTLEMENT records fit, a fifth does not; eight RIDER records do
    (selectCount 8 113 (journalOf 5 0).records = 4 ∧ selectCount 8 113 (journalOf 0 9).records = 8) := by decide +kernel

/-- The characters of a frame whose check fails, LEN to CHECK, and of one that holds a start byte. -/
theorem test_meets_BadFormatAndLineConditions : inRun.takesNow = true ∧
    (isBadFormat ⟨0x45, 1, []⟩ = true ∧ isBadFormat ⟨0x05, 1, [0]⟩ = true ∧ inRun.lif.receiver.gapTimer = false ∧
      (after (.receiveCharacter 0xD5) inRun).lif.receiver.gapTimer = true) := by decide +kernel

/-- The edges of two rows of Table 10.2. -/
theorem test_lengths_of_table_10_2 : isBadFormat ⟨0x25, 1, List.replicate 4 0⟩ = true ∧
    isBadFormat ⟨0x25, 1, List.replicate 5 0⟩ = false ∧ isBadFormat ⟨0x25, 1, List.replicate 20 0⟩ = false ∧
    isBadFormat ⟨0x25, 1, List.replicate 21 0⟩ = true ∧ isBadFormat ⟨0x29, 1, []⟩ = true ∧
    isBadFormat ⟨0x29, 1, List.replicate 15 0⟩ = true ∧ isBadFormat ⟨0x29, 1, List.replicate 120 0⟩ = false := by
  decide +kernel

/-- `inRun` with the receiver in a state, holding characters. -/
def receiving (st : ReceiverState) (chars : List Byte) : State := inRun.setReceiver ⟨st, chars, true⟩

theorem test_meets_ReceiverAssemblesFrames : inRun.lif.receiver = ⟨.hunt, [], false⟩ ∧ (0xD4 : Byte) ≠ 0xD5 ∧
    (after (.receiveCharacter 0xD5) inRun).lif.receiver = ⟨.length, [], true⟩ ∧ (120 : Byte).toNat ≤ 120 ∧
    120 < (121 : Byte).toNat ∧ (List.replicate 120 (0 : Byte)).length ≤ 120 ∧
    ((receiving .tag [0, 5]).receive 7).lif.receiver.state = .checkHigh ∧
    ((receiving .tag [1, 5]).receive 7).lif.receiver.state = .payload ∧
    ((receiving .payload [2, 5, 7]).receive 0).lif.receiver.state = .payload ∧
    ((receiving .payload [1, 5, 7]).receive 0).lif.receiver.state = .checkHigh ∧
    checkGood [0, 5, 7, 0, 0] = false := by decide +kernel
/-- A failed check whose characters hold a start byte: the flag is set, and a partial frame begins there. -/
theorem test_failed_check_is_examined_again :
    ((receiving .checkLow [0, 0xD5, 3, 0]).receive 0).lif.flags.checkError = true ∧
    ((receiving .checkLow [0, 0xD5, 3, 0]).receive 0).lif.receiver = ⟨.payload, [3, 0, 0], true⟩ := by decide +kernel
theorem test_gap_timeout_examines_again :
    (after .gapTimeout (receiving .payload [9, 0xD5, 3, 0])).lif.receiver = ⟨.tag, [3, 0], true⟩ := by decide +kernel

theorem test_meets_RequestFramesDecodeBack : WellFormed (.identify 7) ∧ encodeRequest (.identify 7) = some ⟨5, 7, []⟩ ∧
    (∀ t a b, Instr.identify 7 ≠ .tally t a b) ∧ encodeRequest (.tally 1 1 4) = some ⟨0x41, 1, [tallyByte 1 4]⟩ ∧
    encodeRequest (.tally 1 2 0) = some ⟨0x41, 1, [tallyByte 2 0]⟩ :=
  ⟨by decide, by decide, fun _ _ _ h => (nomatch h), rfl, rfl⟩

/-! ## The handler and the calculator -/

/-- A frame that waits for room is taken once the transmitter has drawn a reply. -/
theorem test_buffered_frame_is_taken_at_the_end_of_an_event :
    (after .shiftingFrameDone (lineBusy (withReplies 8 (buffered inRun [⟨2, 7, []⟩])))).lif.inbound = [] ∧
    (after .shiftingFrameDone (lineBusy (withReplies 8 (buffered inRun [⟨2, 7, []⟩])))).lif.replies.getLast? =
      some (.reply 0x82 7 .busy .nothing) := by decide +kernel
/-- Two equal frames are two requests; a third finds both buffers full. -/
theorem test_equal_frames_wait_one_behind_the_other :
    (after (.identify 7) (after (.identify 7) (lineBusy (withReplies 8 inRun)))).lif.inbound =
      [⟨5, 7, []⟩, ⟨5, 7, []⟩] ∧
    (after (.identify 7) (after (.identify 7) (after (.identify 7) (lineBusy (withReplies 8 inRun))))).lif.flags.overrun =
      true := by decide +kernel

/-- The working quantities of section 7.4.1 at the ends of stages 1, 2, 3, 4 and 7. -/
theorem test_working_quantities_by_stage : ((workAfter case1 4).hUsed, (workAfter case1 28).q, (workAfter case1 28).r,
    (workAfter case1 36).gross, (workAfter case1 90).percentFee, (workAfter case1 120).payout) =
    (5, 2749, 11, 19249, 1924, 16800) := by decide +kernel
/-- An empty queue of commands: the calculator makes a step, and an IDLE one makes none. -/
theorem test_calculator_steps_on_an_empty_queue :
    (match step inRun with | .next t => t.rfc.busy | _ => none) = some ⟨2, snap, 1, workAfter snap 1⟩ ∧
    (match step quietRun with | .next t => t.rfc.busy | _ => none) = none := by decide +kernel
/-- A computation with some of its steps made completes as one with none. -/
theorem test_results_whichever_step_is_reached :
    Computation.results ⟨2, case1, 57, workAfter case1 57⟩ = computeRefund case1 := by decide +kernel

/-! ## A state with work in flight that has every kept property, and a step from it -/

/-- `inRun` with a rotation at lane 2 to be taken next. -/
def next : State := inRun.setPending [.rotation 2]

theorem test_next_steps : ∃ t, step next = .next t := ⟨_, rfl⟩

theorem test_meets_ClockKeptByEveryStep : next.ClockKept := by
  unfold State.ClockKept ClockBlock.Kept
  decide +kernel

theorem test_meets_JournalAndNoticesKeptByEveryStep : next.JournalKept ∧ next.NoticesKept := by
  unfold State.JournalKept State.NoticesKept
  decide +kernel

theorem test_meets_LineAndCountingKeptByEveryStep : next.LineKept ∧ next.HandlerKept ∧ next.CountingKept := by
  unfold State.LineKept State.HandlerKept State.CountingKept Lane.CountingKept
  decide +kernel

theorem test_meets_TallyBalancesKeptByEveryStep : next.RidersBalanced ∧ next.AdmittedBalanced := by
  unfold State.RidersBalanced State.AdmittedBalanced TallySet.ridersBelowCeiling LaneCounters.admittedBelowCeiling
  decide +kernel

/-- Every product of `next` has a window. -/
theorem test_windows_of_next : next.WindowsKept := by
  intro code p hp
  have h : ∀ i : Fin 63, ∀ q ∈ (next.tariff[i]).record, 1 ≤ q.window := by decide +kernel
  unfold State.product? State.productSlot at hp
  by_cases hc : code - 1 < 63
  · rw [Vector.getElem?_eq_getElem hc] at hp
    exact h ⟨code - 1, hc⟩ p hp
  · rw [Vector.getElem?_eq_none (by omega)] at hp
    cases hp

/-- What R22 and R29 ask of an entry that has no usage part or that of `oneDay`, and a marker only on day 10. -/
theorem usageKept_of {e : PassEntry} {shape : Option (Bool × Nat)} (hs : e.start = 8)
    (hu : e.usage = none ∨ (e.usage = some oneDay ∧ shape = some (true, 8)))
    (hm : e.marker = none ∨ (e.marker = some { lane := 2, day := 10 } ∧ shape = some (true, 8))) :
    e.UsageKept shape := by
  refine ⟨?_, ?_⟩
  · intro u hu'
    rcases hu with hn | ⟨hn, _⟩
    · rw [hn] at hu'; cases hu'
    · rw [hn] at hu'; cases hu'
      unfold Usage.Ordered; decide
  · intro isDays w hsh
    refine ⟨?_, ?_⟩
    · intro u hu'
      rcases hu with hn | ⟨hn, hk⟩
      · rw [hn] at hu'; cases hu'
      · rw [hn] at hu'; cases hu'
        rw [hk] at hsh; cases hsh
        unfold Usage.Within; decide
    · intro m hm'
      rcases hm with hn | ⟨hn, hk⟩
      · rw [hn] at hm'; cases hm'
      · rw [hn] at hm'; cases hm'
        rw [hk] at hsh; cases hsh
        rw [hs]; decide

theorem test_meets_PassTableKeptByEveryStep : next.OffsetsKept := by
  refine ⟨?_, test_windows_of_next, ?_⟩
  · unfold State.TableKept PassesOrdered PassEntry.FieldsKept
    decide +kernel
  · intro e he
    have h : ∀ e ∈ next.passes, e.start = 8 ∧
        (e.usage = none ∨ (e.usage = some oneDay ∧ (next.productSlot e.product).shape = some (true, 8))) ∧
        (e.marker = none ∨
          (e.marker = some { lane := 2, day := 10 } ∧ (next.productSlot e.product).shape = some (true, 8))) := by
      decide +kernel
    exact usageKept_of (h e he).1 (h e he).2.1 (h e he).2.2

/-- The one admission pending in `next` is pass 9's at lane 2. -/
theorem test_pending_of_next (p : Nat) (l : LaneId) : next.pendingAt p l ↔ p = 9 ∧ l = 2 := by
  change { pass := p, phase := .pending l : PassbackEntry } ∈
    [{ pass := 4, phase := .committed 867500 }, { pass := 9, phase := .pending 2 : PassbackEntry }] ↔ _
  simp

/-- The one admission marker in `next` is pass 9's at lane 2. -/
theorem test_marked_of_next (p : Nat) (l : LaneId) : next.markedAt p l ↔ p = 9 ∧ l = 2 := by
  constructor
  · rintro ⟨e, he, rfl, m, hm, rfl⟩
    have h : ∀ e ∈ next.passes, e.marker = none ∨ (e.pass = 9 ∧ e.marker = some { lane := 2, day := 10 }) := by
      decide +kernel
    rcases h e he with hn | ⟨hp, hn⟩
    · rw [hn] at hm; cases hm
    · rw [hn] at hm; cases hm
      exact ⟨hp, rfl⟩
  · rintro ⟨rfl, rfl⟩
    exact ⟨pass9, by decide +kernel, rfl, _, rfl, rfl⟩

theorem test_meets_AdmissionsKeptByEveryStep : next.AdmissionsKept := by
  refine ⟨by unfold PassesOrdered; decide +kernel, by decide +kernel, by decide +kernel, ?_, ?_, ?_, ?_, by decide +kernel⟩
  · intro p l
    rw [test_pending_of_next, test_marked_of_next]
  · intro p q l hp hq
    rw [test_pending_of_next] at hp hq
    rw [hp.1, hq.1]
  · intro p l hp
    rw [test_pending_of_next] at hp
    rw [hp.2]
    unfold State.UnlockedAt
    decide +kernel
  · intro l r hr
    have h : ∀ l, next.ae.waiting.get l = none := by decide +kernel
    rw [h l] at hr; cases hr

theorem test_work_kept_of_next : next.WorkKept := by
  intro c hc
  have h : next.rfc.busy = some (Computation.start 2 snap) := by decide +kernel
  rw [h] at hc; cases hc
  exact ⟨Nat.zero_le _, rfl⟩

/-- The slots of `next`: free, quoted for pass 8, computing for pass 12, queued for pass 13. -/
theorem test_quotes_kept_of_next : next.QuotesKept := by
  refine ⟨by unfold PassesOrdered; decide +kernel, ⟨?_, ?_⟩, ⟨by decide +kernel, by decide +kernel, ?_, ?_, by decide +kernel⟩,
    ⟨fun h => absurd h (by decide +kernel), by decide +kernel⟩⟩
  · intro slot i hi
    have h : ∀ k, ∀ i ∈ (next.slot k).state.identity?, ∃ e ∈ next.passes, e.pass = i.pass ∧ e.status = .refundHold k := by
      decide +kernel
    exact h slot i hi
  · intro e he slot hs
    have h : ∀ k, ∀ e ∈ next.passes, e.status = .refundHold k → ((next.slot k).state.identity?.map (·.pass)) = some e.pass := by
      decide +kernel
    simpa using h slot e he hs
  · intro c hc
    have h : next.rfc.busy = some (Computation.start 2 snap) := by decide +kernel
    rw [h] at hc; cases hc
    exact .inl ⟨{ pass := 12, source := .desk 1 }, by decide +kernel⟩
  · intro slot hs
    have h : ∀ k, (next.slot k).state.phase = .computing ∨ (next.slot k).state.phase = .cancelling → k = 2 := by
      decide +kernel
    rw [h slot hs]
    exact ⟨Computation.start 2 snap, by decide +kernel, rfl⟩

theorem test_meets_QuotesKeptByEveryStep : next.QuotesKept ∧ next.WorkKept :=
  ⟨test_quotes_kept_of_next, test_work_kept_of_next⟩

end Sys2Proof.Tests
end

section
/-!
PROOFS. The entry-wise requests of chapter 2: the common checks of section 2.6, the change of one pass's status, and
PASS_UNBLOCK.
-/

namespace Sys2Proof.Machine

/-! ## The common checks of section 2.6 -/

/-- An illegal pass number is refused before the table is searched. -/
theorem State.withEntry_of_illegal (s : State) (k : RequestKind) (tag : Byte) {pass : Nat} (act : PassEntry → State)
    (h : legalPass pass = false) : s.withEntry k tag pass act = s.answerCode k tag .badValue := by
  simp [State.withEntry, h]

theorem State.withEntry_of_absent {s : State} (k : RequestKind) (tag : Byte) {pass : Nat} (act : PassEntry → State)
    (hl : legalPass pass = true) (hf : s.findPass pass = none) :
    s.withEntry k tag pass act = s.answerCode k tag .notFound := by
  simp [State.withEntry, hl, hf]

/-- Past the checks the request acts on the entry found. -/
theorem State.withEntry_of_found {s : State} (k : RequestKind) (tag : Byte) {pass : Nat} {e : PassEntry}
    (act : PassEntry → State) (hl : legalPass pass = true) (hf : s.findPass pass = some e) :
    s.withEntry k tag pass act = act e := by
  simp [State.withEntry, hl, hf]

/-! ## A change of status -/

/-- The pass named is found with the new status, every other pass as before. -/
theorem State.findPass_setStatus (s : State) (p q : Nat) (st : PassStatus) :
    (s.setStatus p st).findPass q =
      if q = p then (s.findPass q).map fun e => { e with status := st } else s.findPass q :=
  s.findPass_updatePass p q _ fun _ => rfl

@[simp] theorem State.findPass_answerCode (s : State) (k : RequestKind) (tag : Byte) (st : StatusCode) (p : Nat) :
    (s.answerCode k tag st).findPass p = s.findPass p :=
  State.findPass_congr (by simp) p

/-- Only the Pass Table changes with a status. -/
theorem State.setStatus_keepsAllBut (s : State) (p : Nat) (st : PassStatus) :
    s.keepsAllBut (s.setStatus p st) [.passes] := by
  rw [State.keepsAllBut_iff]
  simp

/-- What a request does that changes the status of a pass it found, and answers. -/
theorem State.setStatus_answerCode_spec {s : State} (k : RequestKind) (tag : Byte) (code : StatusCode) {p : Nat}
    {e : PassEntry} (st : PassStatus) (hf : s.findPass p = some e) :
    ((s.setStatus p st).answerCode k tag code).findPass p = some { e with status := st } ∧
      (∀ q, q ≠ p → ((s.setStatus p st).answerCode k tag code).findPass q = s.findPass q) ∧
      s.repliesWith ((s.setStatus p st).answerCode k tag code) k tag code .nothing ∧
      s.keepsAllBut ((s.setStatus p st).answerCode k tag code) [.lif, .passes] := by
  refine ⟨?_, ?_, ?_, ?_⟩
  · simp [State.findPass_setStatus, hf]
  · intro q hq
    simp [State.findPass_setStatus, hq]
  · simp [State.repliesWith]
  · have hset : s.keepsAllBut (s.setStatus p st) [.lif, .passes] :=
      State.keepsAllBut_mono (s.setStatus_keepsAllBut p st) (by simp)
    have hanswer := State.keepsAllBut_mono (cs := [.lif, .passes])
      ((s.setStatus p st).onlyAnswers_answerCode k tag code).2 (by simp)
    exact State.keepsAllBut_trans hset hanswer

/-! ## PASS_UNBLOCK (R37) -/

theorem exec_passUnblock (tag : Byte) (pass : U32) (s : State) :
    exec (.passUnblock tag pass) s = handle (.passUnblock tag pass) s := rfl

/-- A BLOCKED entry goes to ACTIVE. -/
theorem State.passUnblockRequest_of_blocked {s : State} (tag : Byte) {pass : Nat} {e : PassEntry}
    (hl : legalPass pass = true) (hf : s.findPass pass = some e) (hb : e.status = .blocked) :
    s.passUnblockRequest tag pass = (s.setStatus pass .active).answerCode .passUnblock tag .ok := by
  rw [State.passUnblockRequest, State.withEntry_of_found _ _ _ hl hf, hb]

/-- An entry in any other status is refused. -/
theorem State.passUnblockRequest_of_not_blocked {s : State} (tag : Byte) {pass : Nat} {e : PassEntry}
    (hl : legalPass pass = true) (hf : s.findPass pass = some e) (hb : e.status ≠ .blocked) :
    s.passUnblockRequest tag pass = s.answerCode .passUnblock tag .badValue := by
  rw [State.passUnblockRequest, State.withEntry_of_found _ _ _ hl hf]
  cases hs : e.status with
  | blocked => exact absurd hs hb
  | active | refundHold _ | refunded => rfl

/-- Settles O17: the request is refused by the common checks, or acts by the status of the entry found. -/
theorem passUnblockRestoresActive : Obligations.PassUnblockRestoresActive := by
  intro tag pass s htakes
  refine ⟨s.passUnblockRequest tag pass.toNat, asks_of_handle (exec_passUnblock tag pass s) htakes, ?_, ?_, ?_⟩
  · intro hillegal
    rw [State.passUnblockRequest, State.withEntry_of_illegal _ _ _ _ hillegal]
    exact s.onlyAnswers_answerCode _ _ _
  · intro hlegal habsent
    rw [State.passUnblockRequest, State.withEntry_of_absent _ _ _ hlegal habsent]
    exact s.onlyAnswers_answerCode _ _ _
  · intro e hlegal hfound
    constructor
    · intro hblocked
      rw [State.passUnblockRequest_of_blocked tag hlegal hfound hblocked]
      exact State.setStatus_answerCode_spec _ _ _ _ hfound
    · intro hother
      rw [State.passUnblockRequest_of_not_blocked tag hlegal hfound hother]
      exact s.onlyAnswers_answerCode _ _ _

end Sys2Proof.Machine
end

section
/-!
PROOFS. TALLY_CLEAR (R125): what a cleared set holds, and what the request leaves of the tally.
-/

namespace Sys2Proof.Machine

/-! ## The cleared set (R125, R126) -/

@[simp] theorem State.clearedSet_day (s : State) (day : Option Nat) : (s.clearedSet day).day = day := rfl

/-- Of a lane's counters only the admitted count can differ from 0: it is the number of admissions pending there. -/
@[simp] theorem State.clearedSet_lane (s : State) (day : Option Nat) (l : LaneId) :
    (s.clearedSet day).lanes.get l = { LaneCounters.zero with admittedCount := s.pendingCount l } :=
  Quad.get_tabulate _ l

/-- No counter of the whole lift is preset. -/
theorem State.clearedSet_lift_zero (s : State) (day : Option Nat) :
    (s.clearedSet day).riders = 0 ∧ (s.clearedSet day).newDays = 0 ∧ (s.clearedSet day).refundsSettled = 0 ∧
      (s.clearedSet day).payoutTotal = 0 := ⟨rfl, rfl, rfl, rfl⟩

theorem State.clearedSet_hour_zero (s : State) (day : Option Nat) {h : Nat} (hh : h < 24) :
    (s.clearedSet day).hours[h]? = some 0 := by
  simp [State.clearedSet, TallySet.zero, hh]

/-! ## TALLY_CLEAR (R125) -/

theorem exec_tallyClear (tag : Byte) (s : State) : exec (.tallyClear tag) s = handle (.tallyClear tag) s := rfl

/-- Today's set is the cleared one of the same day; the previous day's set stays. -/
theorem State.tallyClearRequest_tally (s : State) (tag : Byte) :
    (s.tallyClearRequest tag).tally = { s.tally with today := s.clearedSet s.tally.today.day } := by
  simp [State.tallyClearRequest]

theorem State.tallyClearRequest_repliesWith (s : State) (tag : Byte) :
    s.repliesWith (s.tallyClearRequest tag) .tallyClear tag .ok .nothing := by
  simp [State.repliesWith, State.tallyClearRequest]

theorem State.tallyClearRequest_keepsAllBut (s : State) (tag : Byte) :
    s.keepsAllBut (s.tallyClearRequest tag) [.lif, .tally] := by
  rw [State.keepsAllBut_iff]
  simp [State.tallyClearRequest]

/-- Settles O39: the owner replaces today's set by the cleared set of its day, and the counters are read from there. -/
theorem tallyClearPresetsAdmitted : Obligations.TallyClearPresetsAdmitted := by
  intro tag s htakes
  have htally := s.tallyClearRequest_tally tag
  have htoday : (s.tallyClearRequest tag).tally.today = s.clearedSet s.tally.today.day := by rw [htally]
  obtain ⟨hriders, hdays, hsettled, hpayout⟩ := s.clearedSet_lift_zero s.tally.today.day
  refine ⟨s.tallyClearRequest tag, asks_of_handle (exec_tallyClear tag s) htakes, by rw [htally], ?_⟩
  rw [htoday]
  refine ⟨s.clearedSet_day _, ?lanes, hriders, hdays, hsettled, hpayout, fun h hh => s.clearedSet_hour_zero _ hh,
    s.tallyClearRequest_repliesWith tag, s.tallyClearRequest_keepsAllBut tag⟩
  case lanes =>
    intro l
    rw [State.clearedSet_lane]
    exact ⟨rfl, rfl⟩

end Sys2Proof.Machine
end

section
/-!
PROOFS. The few facts about lists that core Lean does not state; the files of the package import no library.
-/

namespace Sys2Proof.Machine

variable {α β : Type}

theorem filter_const_true (l : List α) : (l.filter fun _ => true) = l := List.filter_eq_self.mpr fun _ _ => rfl

theorem nodup_concat {l : List α} {x : α} (h : l.Nodup) (hx : x ∉ l) : (l ++ [x]).Nodup :=
  List.nodup_append.mpr ⟨h, List.pairwise_singleton _ x, fun _ ha _ hb heq => hx (List.mem_singleton.mp hb ▸ heq ▸ ha)⟩

theorem nodup_of_map {f : α → β} {l : List α} (h : (l.map f).Nodup) : l.Nodup :=
  List.Pairwise.of_map f (fun _ _ hne heq => hne (congrArg f heq)) h

theorem nodup_map_of_inj_on {f : α → β} {l : List α} (h : l.Nodup) (hinj : ∀ a ∈ l, ∀ b ∈ l, f a = f b → a = b) :
    (l.map f).Nodup :=
  List.pairwise_map.mpr (h.imp_of_mem fun ha hb hne heq => hne (hinj _ ha _ hb heq))

theorem eq_of_nodup_map {f : α → β} {l : List α} (h : (l.map f).Nodup) {a b : α} (ha : a ∈ l) (hb : b ∈ l)
    (hf : f a = f b) : a = b := by
  induction l with
  | nil => cases ha
  | cons x xs ih =>
    obtain ⟨hx, hxs⟩ := List.nodup_cons.mp h
    have hnew : ∀ y ∈ xs, f y ≠ f x := fun y hy heq => hx (heq ▸ List.mem_map_of_mem hy)
    obtain rfl | ha' := List.mem_cons.mp ha
    · obtain rfl | hb' := List.mem_cons.mp hb
      · rfl
      · exact absurd hf.symm (hnew b hb')
    · obtain rfl | hb' := List.mem_cons.mp hb
      · exact absurd hf (hnew a ha')
      · exact ih hxs ha' hb'

theorem filterMap_congr_mem {f g : α → Option β} {l : List α} (h : ∀ x ∈ l, f x = g x) :
    l.filterMap f = l.filterMap g := by
  induction l with
  | nil => rfl
  | cons x xs ih =>
    rw [List.filterMap_cons, List.filterMap_cons, h x List.mem_cons_self,
      ih fun y hy => h y (List.mem_cons_of_mem _ hy)]

theorem flatMap_congr_mem {f g : α → List β} {l : List α} (h : ∀ x ∈ l, f x = g x) : l.flatMap f = l.flatMap g := by
  rw [List.flatMap_def, List.flatMap_def, List.map_congr_left h]

end Sys2Proof.Machine
end

section
/-!
PROOFS. The machine: a step runs the front command, every command answers, and the shape of the invariant proofs that
follow: a property is kept by every step if the owners, the events, the transmitter and the calculator keep it.
-/

namespace Sys2Proof.Machine

/-! ## What the remaining events and requests leave as it was -/

@[simp] theorem State.pollOutcome_frame (s : State) (l : LaneId) (o : PollOutcome) :
    (s.pollOutcome l o).rcc = s.rcc ∧ (s.pollOutcome l o).tariff = s.tariff ∧ (s.pollOutcome l o).xfer = s.xfer ∧
    (s.pollOutcome l o).rfc = s.rfc ∧ (s.pollOutcome l o).quotes = s.quotes ∧
    (s.pollOutcome l o).pending = s.pending := by
  unfold State.pollOutcome; split <;> simp

@[simp] theorem State.rotation_frame (s : State) (l : LaneId) :
    (s.rotation l).lif = s.lif ∧ (s.rotation l).rcc = s.rcc ∧ (s.rotation l).tariff = s.tariff ∧
    (s.rotation l).xfer = s.xfer ∧ (s.rotation l).ae = s.ae ∧ (s.rotation l).rfc = s.rfc ∧
    (s.rotation l).quotes = s.quotes ∧ (s.rotation l).pending = s.pending := by
  unfold State.rotation; split <;> simp

@[simp] theorem State.armRestChange_frame (s : State) (l : LaneId) (present : Bool) :
    (s.armRestChange l present).lif = s.lif ∧ (s.armRestChange l present).rcc = s.rcc ∧
    (s.armRestChange l present).tariff = s.tariff ∧ (s.armRestChange l present).passes = s.passes ∧
    (s.armRestChange l present).xfer = s.xfer ∧ (s.armRestChange l present).ae = s.ae ∧
    (s.armRestChange l present).pbl = s.pbl ∧ (s.armRestChange l present).tally = s.tally ∧
    (s.armRestChange l present).rfc = s.rfc ∧ (s.armRestChange l present).quotes = s.quotes ∧
    (s.armRestChange l present).journal = s.journal ∧ (s.armRestChange l present).notices = s.notices ∧
    (s.armRestChange l present).pending = s.pending := by
  unfold State.armRestChange; split <;> simp

@[simp] theorem State.unlockExpiry_frame (s : State) (l : LaneId) :
    (s.unlockExpiry l).lif = s.lif ∧ (s.unlockExpiry l).rcc = s.rcc ∧ (s.unlockExpiry l).tariff = s.tariff ∧
    (s.unlockExpiry l).xfer = s.xfer ∧ (s.unlockExpiry l).ae = s.ae ∧ (s.unlockExpiry l).rfc = s.rfc ∧
    (s.unlockExpiry l).quotes = s.quotes ∧ (s.unlockExpiry l).pending = s.pending := by
  unfold State.unlockExpiry; split <;> simp

@[simp] theorem State.displayExpiry_frame (s : State) (l : LaneId) :
    (s.displayExpiry l).lif = s.lif ∧ (s.displayExpiry l).rcc = s.rcc ∧ (s.displayExpiry l).tariff = s.tariff ∧
    (s.displayExpiry l).passes = s.passes ∧ (s.displayExpiry l).xfer = s.xfer ∧ (s.displayExpiry l).ae = s.ae ∧
    (s.displayExpiry l).pbl = s.pbl ∧ (s.displayExpiry l).tally = s.tally ∧ (s.displayExpiry l).rfc = s.rfc ∧
    (s.displayExpiry l).quotes = s.quotes ∧ (s.displayExpiry l).journal = s.journal ∧
    (s.displayExpiry l).notices = s.notices ∧ (s.displayExpiry l).pending = s.pending := by
  simp [State.displayExpiry]

@[simp] theorem State.alarmExpiry_frame (s : State) (l : LaneId) :
    (s.alarmExpiry l).lif = s.lif ∧ (s.alarmExpiry l).rcc = s.rcc ∧ (s.alarmExpiry l).tariff = s.tariff ∧
    (s.alarmExpiry l).passes = s.passes ∧ (s.alarmExpiry l).xfer = s.xfer ∧ (s.alarmExpiry l).ae = s.ae ∧
    (s.alarmExpiry l).pbl = s.pbl ∧ (s.alarmExpiry l).tally = s.tally ∧ (s.alarmExpiry l).rfc = s.rfc ∧
    (s.alarmExpiry l).quotes = s.quotes ∧ (s.alarmExpiry l).journal = s.journal ∧
    (s.alarmExpiry l).notices = s.notices ∧ (s.alarmExpiry l).pending = s.pending := by
  unfold State.alarmExpiry; split <;> simp

@[simp] theorem State.gapTimeout_frame (s : State) :
    (s.gapTimeout).rcc = s.rcc ∧ (s.gapTimeout).tariff = s.tariff ∧ (s.gapTimeout).passes = s.passes ∧
    (s.gapTimeout).xfer = s.xfer ∧ (s.gapTimeout).lanes = s.lanes ∧ (s.gapTimeout).ae = s.ae ∧
    (s.gapTimeout).pbl = s.pbl ∧ (s.gapTimeout).tally = s.tally ∧ (s.gapTimeout).rfc = s.rfc ∧
    (s.gapTimeout).quotes = s.quotes ∧ (s.gapTimeout).journal = s.journal ∧ (s.gapTimeout).notices = s.notices ∧
    (s.gapTimeout).pending = s.pending := by
  unfold State.gapTimeout; split <;> simp

@[simp] theorem State.framingError_frame (s : State) :
    (s.framingError).rcc = s.rcc ∧ (s.framingError).tariff = s.tariff ∧ (s.framingError).passes = s.passes ∧
    (s.framingError).xfer = s.xfer ∧ (s.framingError).lanes = s.lanes ∧ (s.framingError).ae = s.ae ∧
    (s.framingError).pbl = s.pbl ∧ (s.framingError).tally = s.tally ∧ (s.framingError).rfc = s.rfc ∧
    (s.framingError).quotes = s.quotes ∧ (s.framingError).journal = s.journal ∧ (s.framingError).notices = s.notices ∧
    (s.framingError).pending = s.pending := by
  simp [State.framingError]

@[simp] theorem State.lineBreak_frame (s : State) :
    (s.lineBreak).rcc = s.rcc ∧ (s.lineBreak).tariff = s.tariff ∧ (s.lineBreak).passes = s.passes ∧
    (s.lineBreak).xfer = s.xfer ∧ (s.lineBreak).lanes = s.lanes ∧ (s.lineBreak).ae = s.ae ∧
    (s.lineBreak).pbl = s.pbl ∧ (s.lineBreak).tally = s.tally ∧ (s.lineBreak).rfc = s.rfc ∧
    (s.lineBreak).quotes = s.quotes ∧ (s.lineBreak).journal = s.journal ∧ (s.lineBreak).notices = s.notices ∧
    (s.lineBreak).pending = s.pending := by
  simp [State.lineBreak]

@[simp] theorem State.shiftingDone_frame (s : State) :
    (s.shiftingDone).rcc = s.rcc ∧ (s.shiftingDone).tariff = s.tariff ∧ (s.shiftingDone).passes = s.passes ∧
    (s.shiftingDone).xfer = s.xfer ∧ (s.shiftingDone).lanes = s.lanes ∧ (s.shiftingDone).ae = s.ae ∧
    (s.shiftingDone).pbl = s.pbl ∧ (s.shiftingDone).tally = s.tally ∧ (s.shiftingDone).rfc = s.rfc ∧
    (s.shiftingDone).quotes = s.quotes ∧ (s.shiftingDone).journal = s.journal ∧ (s.shiftingDone).notices = s.notices ∧
    (s.shiftingDone).pending = s.pending := by
  simp [State.shiftingDone]

@[simp] theorem State.identifyRequest_frame (s : State) (tag : Byte) :
    (s.identifyRequest tag).rcc = s.rcc ∧ (s.identifyRequest tag).tariff = s.tariff ∧
    (s.identifyRequest tag).passes = s.passes ∧ (s.identifyRequest tag).xfer = s.xfer ∧
    (s.identifyRequest tag).lanes = s.lanes ∧ (s.identifyRequest tag).ae = s.ae ∧
    (s.identifyRequest tag).pbl = s.pbl ∧ (s.identifyRequest tag).tally = s.tally ∧
    (s.identifyRequest tag).rfc = s.rfc ∧ (s.identifyRequest tag).quotes = s.quotes ∧
    (s.identifyRequest tag).journal = s.journal ∧ (s.identifyRequest tag).notices = s.notices ∧
    (s.identifyRequest tag).pending = s.pending := by
  simp [State.identifyRequest]

@[simp] theorem State.xferStatusRequest_frame (s : State) (tag : Byte) :
    (s.xferStatusRequest tag).rcc = s.rcc ∧ (s.xferStatusRequest tag).tariff = s.tariff ∧
    (s.xferStatusRequest tag).passes = s.passes ∧ (s.xferStatusRequest tag).xfer = s.xfer ∧
    (s.xferStatusRequest tag).lanes = s.lanes ∧ (s.xferStatusRequest tag).ae = s.ae ∧
    (s.xferStatusRequest tag).pbl = s.pbl ∧ (s.xferStatusRequest tag).tally = s.tally ∧
    (s.xferStatusRequest tag).rfc = s.rfc ∧ (s.xferStatusRequest tag).quotes = s.quotes ∧
    (s.xferStatusRequest tag).journal = s.journal ∧ (s.xferStatusRequest tag).notices = s.notices ∧
    (s.xferStatusRequest tag).pending = s.pending := by
  simp [State.xferStatusRequest]

@[simp] theorem State.tallyClearRequest_frame (s : State) (tag : Byte) :
    (s.tallyClearRequest tag).rcc = s.rcc ∧ (s.tallyClearRequest tag).tariff = s.tariff ∧
    (s.tallyClearRequest tag).passes = s.passes ∧ (s.tallyClearRequest tag).xfer = s.xfer ∧
    (s.tallyClearRequest tag).lanes = s.lanes ∧ (s.tallyClearRequest tag).ae = s.ae ∧
    (s.tallyClearRequest tag).pbl = s.pbl ∧ (s.tallyClearRequest tag).rfc = s.rfc ∧
    (s.tallyClearRequest tag).quotes = s.quotes ∧ (s.tallyClearRequest tag).journal = s.journal ∧
    (s.tallyClearRequest tag).notices = s.notices ∧ (s.tallyClearRequest tag).pending = s.pending := by
  simp [State.tallyClearRequest]

@[simp] theorem State.calculatorStep_frame (s : State) :
    (s.calculatorStep).lif = s.lif ∧ (s.calculatorStep).rcc = s.rcc ∧ (s.calculatorStep).tariff = s.tariff ∧
    (s.calculatorStep).passes = s.passes ∧ (s.calculatorStep).xfer = s.xfer ∧ (s.calculatorStep).lanes = s.lanes ∧
    (s.calculatorStep).ae = s.ae ∧ (s.calculatorStep).pbl = s.pbl ∧ (s.calculatorStep).tally = s.tally ∧
    (s.calculatorStep).quotes = s.quotes ∧ (s.calculatorStep).journal = s.journal ∧
    (s.calculatorStep).notices = s.notices ∧ (s.calculatorStep).pending = s.pending := by
  unfold State.calculatorStep; split <;> simp

/-! ## The three ways a command ends -/

/-- What an event of the part does before the line settles; a request is the handler's and does nothing here. -/
def State.happens (s : State) : Instr → State
  | .coldReset rate1 rate0 => s.coldReset rate1 rate0
  | .receiveCharacter c => s.receive c
  | .gapTimeout => s.gapTimeout
  | .framing => s.framingError
  | .lineBreak => s.lineBreak
  | .shiftingFrameDone => s.shiftingDone
  | .secondAdvance => s.advanceSecond
  | .passbackExpiry => s.expirePassback
  | .holdExpiry => s.expireHolds
  | .pollOutcome l o => s.pollOutcome l o
  | .grant => s.grant
  | .rotation l => s.rotation l
  | .armRestChange l present => s.armRestChange l present
  | .beamChange l beam blocked => s.beamChange l beam blocked
  | .unlockTimerExpiry l => s.unlockExpiry l
  | .beamStuckTimerExpiry l beam => s.beamStuckExpiry l beam
  | .armStuckTimerExpiry l => s.armStuckExpiry l
  | .displayTimeExpiry l => s.displayExpiry l
  | .alarmTimerExpiry l => s.alarmExpiry l
  | .buzzerPatternEnd l => s.setLane l (s.lane l).endShort
  | .matchTimerExpiry l list index => s.matchExpiry l list index.val
  | .computationCompletion => s.completeComputation
  | _ => s

/-- A command is handed to the handler, or is a frame that only joins the buffers, or is an event. -/
theorem exec_cases (i : Instr) (s : State) :
    exec i s = handle i s ∨ exec i s = .next (s.joinRequest i).settled ∨ exec i s = .next (s.happens i).settled := by
  cases i
  case badFormatFrame kind tag payload =>
    by_cases h : isBadFormat { kind := kind, tag := tag, payload := payload } = true
    · left
      simp [exec, execBadFormatFrame, h]
    · right; left
      simp [exec, execBadFormatFrame, h, finish]
  all_goals first
    | exact .inl rfl
    | exact .inr (.inr rfl)

/-- Settles O1: the queue is not empty, so the second arm of `step` is taken. -/
theorem stepRunsTheFrontCommand : Obligations.StepRunsTheFrontCommand := by
  intro c rest s h
  simp [step, h]

/-- An event leaves the queue of commands. -/
@[simp] theorem State.happens_pending (s : State) (i : Instr) : (s.happens i).pending = s.pending := by
  cases i
  case coldReset => rfl
  all_goals simp [State.happens]

/-- Settles O2: each of the three ends answers, and keeps the queue. -/
theorem everyCommandAnswersNext : Obligations.EveryCommandAnswersNext := by
  intro c s
  obtain h | h | h := exec_cases c s
  · rw [h]
    exact handle_next c s
  · exact ⟨_, h, by simp⟩
  · exact ⟨_, h, by simp⟩

/-! ## The shape of an invariant's proof -/

/-- The transmitter keeps what a change of the line and the drawing of a notice keep. -/
theorem kept_pump {P : State → Prop} (hlif : ∀ s x, P s → P (s.setLif x))
    (hdraw : ∀ s, P s → P (s.setNotices { s.notices with pending := s.notices.pending.eraseP s.notices.eligible }))
    (s : State) (hs : P s) : P s.pump := by
  have hfill : ∀ u : State, P u → P u.fillHolding := by
    intro u hu
    unfold State.fillHolding
    (repeat' split)
    · exact hu
    · exact hlif _ _ hu
    · exact hdraw _ (hlif _ _ hu)
    · exact hu
  have hstart : ∀ u : State, P u → P u.startShifting := by
    intro u hu
    unfold State.startShifting
    split
    · exact hu
    · exact hlif _ _ hu
  exact hfill _ (hstart _ (hfill _ hs))

/-- A property that neither the queue nor the line matters to is kept by every step, if the drawing of a notice, the
owners, the events and the calculator's step keep it. -/
theorem keptByStep_of_parts {P : State → Prop} (hpend : ∀ s x, P s → P (s.setPending x))
    (hlif : ∀ s x, P s → P (s.setLif x))
    (hdraw : ∀ s, P s → P (s.setNotices { s.notices with pending := s.notices.pending.eraseP s.notices.eligible }))
    (howner : ∀ i s, P s → P (s.owner i)) (hevent : ∀ i s, P s → P (s.happens i))
    (hcalc : ∀ s, P s → P s.calculatorStep) : KeptByStep P := by
  have hpump := kept_pump hlif hdraw
  refine keptByStep_of_exec hpend ?_ fun s hs => kept_settled hlif hpump howner (hcalc s hs)
  intro i s t hs ht
  obtain h | h | h := exec_cases i s <;> rw [h] at ht
  · exact kept_handle i hlif hpump howner hs ht
  · cases ht
    refine kept_settled hlif hpump howner ?_
    unfold State.joinRequest State.joinInbound
    (repeat' split)
    · exact hlif _ _ hs
    · exact hlif _ _ hs
    · exact hs
  · cases ht
    exact kept_settled hlif hpump howner (hevent i s hs)

end Sys2Proof.Machine
end

section
/-!
PROOFS. The Resort Clock and Calendar: what the operations that change it make of it, and that every step keeps the clock,
the mode and the site configuration in range.
-/

namespace Sys2Proof.Machine

/-! ## What becomes of the clock block -/

@[simp] theorem State.setClockTo_rcc (s : State) (c : ClockState) (d n : Nat) :
    (s.setClockTo c d n).rcc = { s.rcc with clock := { state := c, day := d, second := n } } := rfl

@[simp] theorem State.changeMode_rcc (s : State) (m : Mode) (c : ModeCause) :
    (s.changeMode m c).rcc = { s.rcc with mode := m } := by
  simp [State.changeMode]

@[simp] theorem State.changeLift_rcc (s : State) (v : LiftStatus) :
    (s.changeLift v).rcc = { s.rcc with lift := v } := by
  unfold State.changeLift
  dsimp only
  split <;> simp

@[simp] theorem State.restartLift_rcc (s : State) : s.restartLift.rcc = { s.rcc with lift := .closed } := by
  unfold State.restartLift
  split
  · rename_i h
    rw [← h]
  · simp

@[simp] theorem State.warmRestart_rcc (s : State) :
    s.warmRestart.rcc = { s.rcc with mode := .setup, lift := .closed } := by
  simp [State.warmRestart, fourInOrder]

@[simp] theorem State.rollOver_rcc (s : State) :
    s.rollOver.rcc = { s.rcc with clock := { s.rcc.clock with day := s.rcc.clock.day + 1, second := 0 } } := by
  simp [State.rollOver, State.today]

@[simp] theorem State.endSeason_rcc (s : State) :
    s.endSeason.rcc = { s.rcc with clock := { state := .expired, day := 239, second := 86399 } } := by
  simp [State.endSeason]

@[simp] theorem State.setClockInSetup_rcc (s : State) (d n : Nat) :
    (s.setClockInSetup d n).rcc = { s.rcc with clock := { state := .running, day := d, second := n } } := by
  simp [State.setClockInSetup]

@[simp] theorem State.setClockInRun_rcc (s : State) (d n : Nat) :
    (s.setClockInRun d n).rcc = { s.rcc with clock := { state := .running, day := d, second := n } } := by
  unfold State.setClockInRun
  dsimp only
  split <;> simp

/-! ## What keeps the clock block in range -/

/-- The property reads the clock block only. -/
theorem State.ClockKept.congr {s u : State} (hs : s.ClockKept) (h : u.rcc = s.rcc) : u.ClockKept := by
  rw [State.ClockKept, h]
  exact hs

/-- A running clock in range is kept, in either mode. -/
theorem ClockBlock.Kept.run_at {c d : ClockBlock} {day second : Nat} (h : c.Kept) (hday : day ≤ 239)
    (hsecond : second ≤ 86399) (hclock : d.clock = { state := .running, day := day, second := second })
    (hsite : d.site = c.site) : d.Kept := by
  obtain ⟨-, -, -, -, hrest⟩ := h
  rw [ClockBlock.Kept, hclock, hsite]
  exact ⟨hday, hsecond, by simp, by simp, hrest⟩

/-- The lift status and the calendar are not ranged over. -/
theorem ClockBlock.Kept.of_fields {c d : ClockBlock} (h : c.Kept) (hclock : d.clock = c.clock) (hmode : d.mode = c.mode)
    (hsite : d.site = c.site) : d.Kept := by
  rw [ClockBlock.Kept, hclock, hmode, hsite]
  exact h

/-- A warm restart, and any move to SETUP, keeps the ranges. -/
theorem ClockBlock.Kept.to_setup {c d : ClockBlock} (h : c.Kept) (hclock : d.clock = c.clock) (hmode : d.mode = .setup)
    (hsite : d.site = c.site) : d.Kept := by
  obtain ⟨hday, hsecond, hunset, hrest⟩ := h
  rw [ClockBlock.Kept, hclock, hmode, hsite]
  exact ⟨hday, hsecond, fun hu => ⟨(hunset hu).1, (hunset hu).2.1, rfl⟩, hrest⟩

/-- The move to RUN needs a clock that is not UNSET. -/
theorem ClockBlock.Kept.to_run {c d : ClockBlock} (h : c.Kept) (hclock : d.clock = c.clock)
    (hset : c.clock.state ≠ .unset) (hsite : d.site = c.site) : d.Kept := by
  obtain ⟨hday, hsecond, -, hrest⟩ := h
  rw [ClockBlock.Kept, hclock, hsite]
  exact ⟨hday, hsecond, fun hu => absurd hu hset, hrest⟩

/-- A site configuration read from fields in their ranges is kept (R8). -/
theorem ClockBlock.Kept.with_site {c d : ClockBlock} {f : SiteFields} (h : c.Kept) (hf : siteOf f = some d.site)
    (hclock : d.clock = c.clock) (hmode : d.mode = c.mode) : d.Kept := by
  obtain ⟨⟨h1, h2, ⟨h3, h4⟩, ⟨h5, h6⟩, ⟨h7, h8⟩, ⟨h9, h10⟩, ⟨h11, h12⟩⟩, heq⟩ := (siteOf_eq_some_iff f d.site).mp hf
  obtain ⟨hday, hsecond, hunset, hexpired, -⟩ := h
  rw [ClockBlock.Kept, hclock, hmode, heq]
  exact ⟨hday, hsecond, hunset, hexpired, h1, h2, h3, h4, h5, h6, h7, h8, h9, h10, h11, h12⟩

theorem State.ClockKept.runRequest {s : State} (hs : s.ClockKept) (tag : Byte) : (s.runRequest tag).ClockKept := by
  unfold State.runRequest
  (repeat' split)
  · exact hs.congr (by simp)
  · exact hs.congr (by simp)
  · rename_i hrun _
    refine ClockBlock.Kept.to_run hs (by simp) ?_ (by simp)
    intro hunset
    simp [State.clockRunning, hunset] at hrun

theorem State.ClockKept.setupRequest {s : State} (hs : s.ClockKept) (tag : Byte) : (s.setupRequest tag).ClockKept := by
  unfold State.setupRequest
  (repeat' split)
  · exact hs.congr (by simp)
  · exact hs.congr (by simp)
  · exact ClockBlock.Kept.to_setup hs (by simp) (by simp) (by simp)

theorem State.ClockKept.siteConfigRequest {s : State} (hs : s.ClockKept) (tag : Byte) (f : SiteFields) :
    (s.siteConfigRequest tag f).ClockKept := by
  unfold State.siteConfigRequest
  (repeat' split)
  · exact hs.congr (by simp)
  · exact hs.congr (by simp)
  · rename_i hsite
    exact ClockBlock.Kept.with_site hs (by simpa using hsite) (by simp) (by simp)

theorem State.ClockKept.setClockRequest {s : State} (hs : s.ClockKept) (tag : Byte) (day second : Nat) :
    (s.setClockRequest tag day second).ClockKept := by
  unfold State.setClockRequest
  split
  · exact hs.congr (by simp)
  · (repeat' split)
    · exact ClockBlock.Kept.run_at (day := day) (second := second) hs (by omega) (by omega) (by simp) (by simp)
    · exact hs.congr (by simp)
    · exact ClockBlock.Kept.run_at (day := day) (second := second) hs (by omega) (by omega) (by simp) (by simp)

theorem State.ClockKept.advanceSecond {s : State} (hs : s.ClockKept) : s.advanceSecond.ClockKept := by
  obtain ⟨hday, hsecond, -, -, hsite⟩ := id hs
  unfold State.advanceSecond
  split
  · exact hs
  · exact hs
  · rename_i hrunning
    dsimp only
    (repeat' split)
    · exact ClockBlock.Kept.run_at (day := s.rcc.clock.day) (second := s.rcc.clock.second + 1) hs (by omega) (by omega)
        (by simp) (by simp)
    · exact ClockBlock.Kept.run_at (day := s.rcc.clock.day + 1) (second := 0) hs (by omega) (by omega)
        (by simp [hrunning]) (by simp)
    · rw [State.ClockKept, State.stampMoved_frame s.endSeason |>.2.1, State.endSeason_rcc]
      exact ⟨by simp, by simp, by simp, by simp, hsite⟩

theorem State.ClockKept.owner (i : Instr) {s : State} (hs : s.ClockKept) : (s.owner i).ClockKept := by
  cases i
  case restart tag =>
    exact ClockBlock.Kept.to_setup hs (by simp [State.owner, State.restartRequest])
      (by simp [State.owner, State.restartRequest]) (by simp [State.owner, State.restartRequest])
  case run tag => exact hs.runRequest tag
  case setup tag => exact hs.setupRequest tag
  case siteConfig tag f => exact hs.siteConfigRequest tag f
  case setClock tag day second => exact hs.setClockRequest tag _ _
  case liftStatus tag value =>
    simp only [State.owner, State.liftStatusRequest]
    (repeat' split)
    · exact hs.congr (by simp)
    · exact hs.congr (by simp)
    · exact ClockBlock.Kept.of_fields hs (by simp) (by simp) (by simp)
  case calendarMark tag day mark =>
    simp only [State.owner, State.calendarMarkRequest]
    (repeat' split)
    · exact hs.congr (by simp)
    · exact hs.congr (by simp)
    · exact ClockBlock.Kept.of_fields hs (by simp) (by simp) (by simp)
  all_goals exact hs.congr (by simp [State.owner])

theorem State.ClockKept.happens (i : Instr) {s : State} (hs : s.ClockKept) : (s.happens i).ClockKept := by
  cases i
  case coldReset =>
    simp only [State.happens, State.coldReset, State.ClockKept, State.setPending_rcc, State.cold, ClockBlock.Kept,
      ClockBlock.cold]
    decide
  case secondAdvance => exact hs.advanceSecond
  all_goals exact hs.congr (by simp [State.happens])

/-- Settles O53: only the requests and events of chapter 1 touch the clock block, and each keeps it in range. -/
theorem clockKeptByEveryStep : Obligations.ClockKeptByEveryStep :=
  keptByStep_of_parts (fun _ _ hs => hs) (fun _ _ hs => hs) (fun _ hs => hs) (fun i _ hs => State.ClockKept.owner i hs)
    (fun i _ hs => State.ClockKept.happens i hs) fun _ hs => hs.congr (by simp)

end Sys2Proof.Machine
end

section
/-!
PROOFS. What a step can do to the state: `Effect` names each single change once, with what the change presupposes, and
every step is a sequence of them. An invariant's proof then needs one case for each kind of change.
-/

namespace Sys2Proof.Machine

/-! ## The changes -/

/-- A change of a lane that keeps its role and timer and brings neither a LOCK, nor a fault, nor a breach of R116. -/
structure Lane.Eases (x y : Lane) : Prop where
  role : y.role = x.role
  lock : y.armOverride = .lock → x.armOverride = .lock
  fault : y.latches.any = true → x.latches.any = true
  timer : y.unlockTimer = x.unlockTimer
  counting : x.CountingKept → y.CountingKept

/-- Any change that leaves role, override, latches, timer, detector and lists. -/
theorem Lane.Eases.of_fields {x y : Lane} (hrole : y.role = x.role := by rfl)
    (harm : y.armOverride = x.armOverride := by rfl) (hlatch : y.latches = x.latches := by rfl)
    (htimer : y.unlockTimer = x.unlockTimer := by rfl) (hdet : y.detector = x.detector := by rfl)
    (hrot : y.rotations = x.rotations := by rfl) (hent : y.entries = x.entries := by rfl) : x.Eases y where
  role := hrole
  lock h := harm ▸ h
  fault h := hlatch ▸ h
  timer := htimer
  counting h := by
    rw [Lane.CountingKept, hrole, hlatch, hdet, hrot, hent]
    exact h

/-- A change of a lane's counters that R112 and R121 do not speak of. -/
structure LaneCounters.SameBalances (c d : LaneCounters) : Prop where
  admitted : d.admittedCount = c.admittedCount := by rfl
  paid : d.paid = c.paid := by rfl
  lapsed : d.lapsed = c.lapsed := by rfl
  free : d.free = c.free := by rfl
  forced : d.forced = c.forced := by rfl
  under : d.under = c.under := by rfl

/-- One change of the state, with what holds whenever a step makes it. -/
inductive Effect : State → State → Prop where
  | line {s} (x : LineInterface) : Effect s (s.setLif x)
  | queue {s} (x : List Instr) : Effect s (s.setPending x)
  | notices {s} (n : NoticeLatch) (h : n.pending.Sublist s.notices.pending) : Effect s (s.setNotices n)
  | raise {s} (x : PendingNotice) : Effect s (s.raise x)
  | record {s} (b : RecordBody) (h : ∀ x, b ≠ .settlement x) : Effect s (s.writeRecord b)
  | fetch {s} (k : Nat) : Effect s (s.setJournal (s.journal.fetched k))
  | clock {s} (r : ClockBlock) (hmode : r.mode = .setup → s.rcc.mode = .setup ∨ ∀ k, (s.slot k).state = .free)
      (hclosed : (s.setRcc r).closedCondition = true → s.closedCondition = true ∨ ∀ l, s.pendingPass l = none) :
      Effect s (s.setRcc r)
  | shut {s} (r : ClockBlock) (reason : LapseReason) (hmode : r.mode = s.rcc.mode) :
      Effect s ((s.setRcc r).lapseAll reason)
  | shutLift {s} (r : ClockBlock) (v : LiftStatus) (reason : LapseReason) (hmode : r.mode = s.rcc.mode) :
      Effect s (((s.setRcc r).writeRecord (.lift v)).lapseAll reason)
  | putProduct {s} (code : Nat) (f : ProductFields) (p : Product) (hmode : s.rcc.mode = .setup)
      (hcode : legalCode code = true) (hp : productOf f = some p) (hshape : s.changesShape code p = false) :
      Effect s (s.setProductSlot code { record := some p, kept := none })
  | clearProduct {s} (code : Nat) (hmode : s.rcc.mode = .setup) (hcode : legalCode code = true) :
      Effect s (s.setProductSlot code { record := none, kept := (s.productSlot code).shape })
  | addPass {s} (r : PassRecord) (st : PassStatus) (hr : s.recordStatus? r = some st)
      (hfind : s.findPass r.pass.toNat = none) (hroom : s.passes.length < 4096) : Effect s (s.addPass r st)
  | rewritePass {s} (r : PassRecord) (st : PassStatus) (e : PassEntry) (hr : s.recordStatus? r = some st)
      (hfind : s.findPass r.pass.toNat = some e) (hmarker : e.marker = none) (hheld : e.isHeld = false) :
      Effect s (s.rewritePass r st)
  | markPass {s} (p : Nat) : Effect s (s.markPass p)
  | clearMarks {s} : Effect s (s.setPasses (clearMarks s.passes))
  | setStatus {s} (p : Nat) (st : PassStatus) (e : PassEntry) (hst : st = .active ∨ st = .blocked)
      (hfind : s.findPass p = some e) (hheld : e.isHeld = false) : Effect s (s.setStatus p st)
  | removePass {s} (p : Nat) (e : PassEntry) (hfind : s.findPass p = some e) (hmarker : e.marker = none)
      (hheld : e.isHeld = false) : Effect s (s.setPasses (removeEntry p s.passes))
  | sweep {s} : Effect s (s.setPasses (s.passes.filter fun e => e.transferMark || e.isProtected))
  | merge {s} (e : PassEntry) (days : List Nat) (hfind : s.findPass e.pass = some e) :
      Effect s (s.updatePass e.pass fun x => { x with usage := (s.mergeDays e days).usage })
  | transfer {s} (x : Transfer) : Effect s (s.setXfer x)
  | lane {s} (l : LaneId) (x : Lane) (h : (s.lane l).Eases x) : Effect s (s.setLane l x)
  | role {s} (l : LaneId) (x : Lane) (hmode : s.rcc.mode = .setup) (hwait : s.ae.waiting.get l = none)
      (hcount : x.CountingKept) : Effect s (s.setLane l x)
  | fault {s} (l : LaneId) (f : FaultLatch) (x : LatchSet) (h : (s.lane l).latches.any = false) :
      Effect s (((s.setLane l ((s.lane l).latch f)).writeRecord (.fault l x)).enterFault l)
  | lock {s} (l : LaneId) :
      Effect s (((s.setLane l { s.lane l with armOverride := .lock }).lapse l .locked).withdraw l)
  | withdraw {s} (l : LaneId) : Effect s (s.withdraw l)
  | pointer {s} (p : LaneId) : Effect s (s.setAe { s.ae with pointer := p })
  | submit {s} (l : LaneId) (p : Nat) (k : RequestClass) (hready : s.laneState l = .ready)
      (hgate : k = .gate → (s.lane l).role = .gate ∧ (s.lane l).armOverride ≠ .lock) : Effect s (s.submit l p k)
  | leaveSet {s} (l : LaneId) : Effect s (s.leaveSet l)
  | passback {s} (b : PassbackList) (f : PassbackEntry → Bool) (hb : b.entries = s.pbl.entries.filter f)
      (hf : ∀ e, e.isCommitted = false → f e = true) : Effect s (s.setPbl b)
  | lapse {s} (l : LaneId) (reason : LapseReason) : Effect s (s.lapse l reason)
  | admission {s} (l : LaneId) (p : Nat) (hwait : s.ae.waiting.get l = some { pass := p, kind := .gate })
      (hd : s.decisionOn p = .admitted) : Effect s ((s.leaveSet l).admitPass l p)
  | count {s} (l : LaneId) (f : LaneCounters → LaneCounters) (h : ∀ c : LaneCounters, c.SameBalances (f c)) :
      Effect s (s.countLane l f)
  | rider {s} (l : LaneId) (cat : RiderCategory) (h : cat ≠ .paid) : Effect s (s.countRider l cat)
  | commit {s} (l : LaneId) (e : PassEntry) (m : AdmissionMarker) (hrole : (s.lane l).role = .gate)
      (h : s.pendingEntry l = some (e, m)) :
      Effect s (((s.commitEntry l e m).handRotation l .paid).setLane l
        { ((s.commitEntry l e m).handRotation l .paid).lane l with unlockTimer := none })
  | tally {s} (t : Tally) (hlanes : t.today.lanes = s.tally.today.lanes) (hriders : t.today.riders = s.tally.today.riders)
      (hhours : t.today.hours = s.tally.today.hours) : Effect s (s.setTally t)
  | clearTally {s} (day : Option Nat) : Effect s (s.setToday (s.clearedSet day))
  | accept {s} (k : SlotId) (p : Nat) (src : QuoteSource) (hmode : s.rcc.mode = .run)
      (h : s.quoteChecks p = .slotFree k) : Effect s (s.acceptQuote k p src)
  | drop {s} (k : SlotId) (reason : DropReason) : Effect s (s.dropQuote k reason)
  | restartQuotes {s} :
      Effect s ((fourInOrder.foldl (fun s k => s.restartSlot k) s).setRfc { busy := none, queue := [] })
  | settle {s} (k : SlotId) (items : Settlement) (i : QuoteIdentity) (snap : Snapshot) (r : Results) (expiry : Nat)
      (h : (s.slot k).state = .quoted i snap r expiry) (hpass : items.pass = i.pass)
      (hroom : s.journal.settlementCount < 64) : Effect s (s.settle k items)
  | complete {s} : Effect s s.completeComputation
  | calculate {s} : Effect s s.calculatorStep
  | cold {s} (rate1 rate0 : Bool) : Effect s (s.coldReset rate1 rate0)

/-- A sequence of changes. -/
inductive Effects : State → State → Prop where
  | none (s : State) : Effects s s
  | also {s t u : State} (h : Effects s t) (k : Effect t u) : Effects s u

theorem Effects.trans {s t u : State} (h : Effects s t) (k : Effects t u) : Effects s u := by
  induction k with
  | none => exact h
  | also _ hstep ih => exact ih.also hstep

/-- One change. -/
theorem Effect.only {s t : State} (h : Effect s t) : Effects s t := (Effects.none s).also h

/-- What every change keeps, a sequence of them keeps. -/
theorem Effects.keep {P : State → Prop} (hP : ∀ s u, P s → Effect s u → P u) {s u : State} (hs : P s) (h : Effects s u) :
    P u := by
  induction h with
  | none => exact hs
  | also _ hstep ih => exact hP _ _ ih hstep

/-- One change after another over the four lanes or slots. -/
theorem Effects.four {f : State → Fin 4 → State} (hf : ∀ s i, Effects s (f s i)) (s : State) :
    Effects s (fourInOrder.foldl f s) :=
  (((hf s 0).trans (hf _ 1)).trans (hf _ 2)).trans (hf _ 3)

/-! ## The line -/

/-- A state that differs in its line only. -/
theorem State.eq_setLif {s u : State} (h : s.keepsAllBut u [.lif]) : u = s.setLif u.lif := by
  obtain ⟨lif, rcc, tariff, passes, xfer, lanes, ae, pbl, tally, rfc, quotes, journal, notices, pending⟩ := s
  cases u
  simpa [State.keepsAllBut_iff, State.setLif] using h

theorem Effects.of_line {s u : State} (h : s.keepsAllBut u [.lif]) : Effects s u := by
  rw [State.eq_setLif h]
  exact (Effect.line _).only

theorem Effects.answer {s u : State} (h : Effects s u) (k : RequestKind) (tag : Byte) (st : StatusCode) (d : ReplyData) :
    Effects s (u.answer k tag st d) :=
  h.also (.line _)

theorem Effects.answerCode {s u : State} (h : Effects s u) (k : RequestKind) (tag : Byte) (st : StatusCode) :
    Effects s (u.answerCode k tag st) :=
  h.also (.line _)

/-- A request that is answered only. -/
theorem Effects.refused (s : State) (k : RequestKind) (tag : Byte) (st : StatusCode) : Effects s (s.answerCode k tag st) :=
  (Effects.none s).answerCode k tag st

/-- The same, with data in the reply. -/
theorem Effects.reported (s : State) (k : RequestKind) (tag : Byte) (st : StatusCode) (d : ReplyData) :
    Effects s (s.answer k tag st d) :=
  (Effects.none s).answer k tag st d

/-! ## Lanes -/

theorem Effect.sound (s : State) (l : LaneId) (p : BuzzerPattern) : Effect s (s.setLane l ((s.lane l).soundShort p)) := by
  rw [Lane.soundShort_eq]
  exact .lane l _ .of_fields

theorem effects_startDisplay (s : State) (l : LaneId) (d : DisplayShow) : Effects s (s.startDisplay l d) := by
  unfold State.startDisplay
  split
  · exact .none s
  · exact (Effect.lane l _ .of_fields).only

theorem effects_refuse (s : State) (l : LaneId) (c : RefusalCause) (p : Option Nat) : Effects s (s.refuse l c p) :=
  (((effects_startDisplay s l .refusal).also (.sound _ l .doubleTone)).also (.record (.refusal l c p) (by simp))).also
    (.count l (fun x => x.addRefusal c) fun _ => {})

/-- BEAM_STUCK takes the detector to IDLE, so a latch keeps what R113, R115 and R116 say. -/
theorem Lane.CountingKept.latch {x : Lane} (h : x.CountingKept) (f : FaultLatch) : (x.latch f).CountingKept := by
  obtain ⟨hrot, hent, hone, hrole, hstuck⟩ := h
  refine ⟨hrot, hent, hone, ?_, ?_⟩
  · intro hr
    obtain ⟨h1, h2, h3⟩ := hrole hr
    exact ⟨h1, h2, by cases f <;> simp [Lane.latch, h3]⟩
  · intro hl
    cases f <;> simp_all [Lane.latch, LatchSet.add]

theorem effects_latchFault (s : State) (l : LaneId) (f : FaultLatch) : Effects s (s.latchFault l f) := by
  unfold State.latchFault
  split
  · exact .none s
  · dsimp only
    split
    · rename_i hin
      refine (((Effect.lane l ((s.lane l).latch f) ?_).only).also (.record _ (by simp))).also (.raise _)
      exact ⟨rfl, id, fun _ => hin, rfl, fun h => h.latch f⟩
    · rename_i hin
      exact ((Effect.fault l f _ (by simpa using hin)).only).also (.raise _)

theorem effects_setArm (s : State) (l : LaneId) (v : ArmOverride) : Effects s (s.setArm l v) := by
  unfold State.setArm
  split
  · exact .none s
  · dsimp only
    split
    · rename_i hv
      subst hv
      exact (Effect.lock l).only
    · rename_i hv
      exact (Effect.lane l _ (by exact ⟨rfl, fun h => absurd h hv, id, rfl, id⟩)).only

theorem effects_outputEffect {s u : State} {l : LaneId} {o : LaneOutput} {v : Byte} (h : s.outputEffect l o v = some u) :
    Effects s u := by
  cases o
  case arm =>
    simp only [State.outputEffect] at h
    split at h
    · obtain ⟨w, -, rfl⟩ := Option.map_eq_some_iff.mp h
      exact effects_setArm s l w
    · exact absurd h (by simp)
  all_goals
    simp only [State.outputEffect] at h
    split at h
    · exact absurd h (by simp)
    · obtain ⟨w, -, rfl⟩ := Option.map_eq_some_iff.mp h
      exact (Effect.lane l _ .of_fields).only

theorem effects_laneOutput (s : State) (tag lane output value : Byte) :
    Effects s (s.laneOutputRequest tag lane output value) := by
  unfold State.laneOutputRequest
  split
  · split
    · rename_i h
      exact (effects_outputEffect h).answerCode ..
    · exact .refused ..
  · exact .refused ..

theorem Lane.countingKept_afresh (x : Lane) (site : SiteConfig) (f : LaneFields) : (x.afresh site f).CountingKept :=
  ⟨by simp [Lane.afresh], by simp [Lane.afresh], .inl rfl, fun _ => ⟨rfl, rfl, rfl⟩, fun _ => rfl⟩

theorem effects_configureLane (s : State) (f : LaneFields) (hmode : s.rcc.mode = .setup) :
    Effects s (s.configureLane f) := by
  unfold State.configureLane
  split
  · exact (Effect.lane f.lane _ .of_fields).only
  · have hafresh : Effects s ((s.withdraw f.lane).setLane f.lane
        (((s.withdraw f.lane).lane f.lane).afresh (s.withdraw f.lane).rcc.site f)) :=
      (Effect.withdraw f.lane).only.also
        (.role f.lane _ (by simpa using hmode) (by simp [(s.withdraw_spec f.lane).1]) (Lane.countingKept_afresh ..))
    simp only [State.changeRole]
    split
    · exact hafresh.also (.record _ (by simp))
    · exact hafresh

theorem effects_laneConfig (s : State) (tag lane role timeout autoQuote : Byte) :
    Effects s (s.laneConfigRequest tag lane role timeout autoQuote) := by
  unfold State.laneConfigRequest
  split
  · exact .refused ..
  · rename_i hmode
    split
    · exact .refused ..
    · exact (effects_configureLane s _ hmode).answerCode ..

theorem Lane.eases_latchesLeft (x : Lane) : x.Eases { x with latches := x.latchesLeft } where
  role := rfl
  lock := id
  fault h := by
    simp only [Lane.latchesLeft, LatchSet.any, Bool.or_eq_true, Bool.and_eq_true] at h ⊢
    rcases h with (⟨h, -⟩ | ⟨h, -⟩) | ⟨h, -⟩
    · exact .inl (.inl h)
    · exact .inl (.inr h)
    · exact .inr h
  timer := rfl
  counting := by
    rintro ⟨hrot, hent, hone, hrole, hstuck⟩
    refine ⟨hrot, hent, hone, hrole, fun h => hstuck ?_⟩
    simp only [Lane.latchesLeft, Bool.and_eq_true] at h
    exact h.1

theorem effects_laneClear (s : State) (tag lane : Byte) : Effects s (s.laneClearRequest tag lane) := by
  unfold State.laneClearRequest
  split
  · exact .refused ..
  · rename_i l _
    have hlane := (Effect.lane l _ (Lane.eases_latchesLeft (s.lane l))).only
    simp only [State.clearLane]
    (repeat' split)
    · exact hlane.answer ..
    · exact (hlane.also (.record _ (by simp))).answer ..
    · exact hlane.answer ..

theorem effects_laneInject (s : State) (tag lane : Byte) (p : Nat) : Effects s (s.laneInjectRequest tag lane p) := by
  unfold State.laneInjectRequest
  (repeat' split)
  · exact .refused ..
  · exact .refused ..
  · rename_i h
    exact (Effect.submit _ _ _ h (by simp)).only
  · exact .refused ..

/-! ## Reads -/

theorem effects_readyRead (s : State) (l : LaneId) (k : RequestClass) (p : Option Nat) (hready : s.laneState l = .ready)
    (hgate : k = .gate → (s.lane l).role = .gate ∧ (s.lane l).armOverride ≠ .lock) : Effects s (s.readyRead l k p) := by
  cases p
  · exact effects_refuse ..
  · exact (Effect.submit l _ k hready hgate).only

theorem effects_read (s : State) (l : LaneId) (p : Option Nat) : Effects s (s.read l p) := by
  unfold State.read
  split
  · rename_i hrole
    unfold State.gateRead
    (repeat' split)
    · exact effects_refuse ..
    · exact effects_refuse ..
    · exact effects_refuse ..
    · rename_i harm _ hready
      exact effects_readyRead s l .gate p hready fun _ => ⟨hrole, harm⟩
    all_goals exact (Effect.sound s l .chirp).only
  · unfold State.deskRead
    (repeat' split)
    · exact effects_refuse ..
    · exact effects_refuse ..
    · rename_i hready
      exact effects_readyRead s l .desk p hready (by simp)
    · exact (Effect.sound s l .chirp).only
  · exact .none s

theorem effects_pollHealthy (s : State) (l : LaneId) : Effects s (s.pollHealthy l) := by
  rw [State.pollHealthy, Lane.healthy_eq]
  exact (Effect.lane l _ .of_fields).only

theorem effects_pollOutcome (s : State) (l : LaneId) (o : PollOutcome) : Effects s (s.pollOutcome l o) := by
  unfold State.pollOutcome
  split
  · exact .none s
  · cases o with
    | silent =>
      have hsilent : Effects s (s.setLane l (s.lane l).silent) :=
        (Effect.lane l _ .of_fields).only
      simp only [State.poll, State.pollSilent]
      split
      · exact (hsilent.also (.lane l _ .of_fields)).trans (effects_latchFault ..)
      · exact hsilent
    | idle => exact effects_pollHealthy s l
    | badRead => exact (effects_pollHealthy s l).trans (effects_read ..)
    | read p => exact (effects_pollHealthy s l).trans (effects_read ..)

/-! ## Riders -/

theorem effects_underRider (s : State) (l : LaneId) : Effects s (s.underRider l) :=
  (Effect.rider l .under (by simp)).only.also (.record _ (by simp))

/-- R119: what makes room leaves at most three items. -/
theorem length_makeRoom {items : List MatchItem} (h : items.length ≤ 4) : (makeRoom items).length ≤ 3 := by
  unfold makeRoom
  split
  · rename_i hlt
    simp only [Config.matchItems] at hlt
    omega
  · simp
    omega

theorem Lane.eases_takeRotation {x : Lane} (h : x.role = .gate) (item : MatchItem) : x.Eases (x.takeRotation item) := by
  cases hent : x.entries with
  | nil =>
    refine ⟨by simp [Lane.takeRotation, hent], by simp [Lane.takeRotation, hent], by simp [Lane.takeRotation, hent],
      by simp [Lane.takeRotation, hent], ?_⟩
    rintro ⟨hrot, -, -, -, hstuck⟩
    have hroom := length_makeRoom hrot
    refine ⟨?_, ?_, ?_, ?_, ?_⟩
    · have hlen : (x.takeRotation item).rotations.length = (makeRoom x.rotations).length + 1 := by
        simp [Lane.takeRotation, hent]
      exact hlen ▸ Nat.succ_le_succ hroom
    · simp [Lane.takeRotation, hent]
    · simp [Lane.takeRotation, hent]
    · simp [Lane.takeRotation, hent, h]
    · simpa [Lane.takeRotation, hent] using hstuck
  | cons y rest =>
    refine ⟨by simp [Lane.takeRotation, hent], by simp [Lane.takeRotation, hent], by simp [Lane.takeRotation, hent],
      by simp [Lane.takeRotation, hent], ?_⟩
    rintro ⟨hrot, hlen, hone, -, hstuck⟩
    simp only [hent, List.length_cons] at hlen
    refine ⟨?_, ?_, ?_, ?_, ?_⟩
    · simpa [Lane.takeRotation, hent] using hrot
    · simp only [Lane.takeRotation, hent]
      omega
    · simp only [Lane.takeRotation, hent]
      exact .inl (hone.resolve_right (by simp [hent]))
    · simp [Lane.takeRotation, hent, h]
    · simpa [Lane.takeRotation, hent] using hstuck

theorem Lane.eases_takeEntry {x : Lane} (h : x.role = .gate) (item : MatchItem) : x.Eases (x.takeEntry item) := by
  cases hrot : x.rotations with
  | nil =>
    refine ⟨by simp [Lane.takeEntry, hrot], by simp [Lane.takeEntry, hrot], by simp [Lane.takeEntry, hrot],
      by simp [Lane.takeEntry, hrot], ?_⟩
    rintro ⟨-, hent, -, -, hstuck⟩
    have hroom := length_makeRoom hent
    refine ⟨?_, ?_, ?_, ?_, ?_⟩
    · simp [Lane.takeEntry, hrot]
    · have hlen : (x.takeEntry item).entries.length = (makeRoom x.entries).length + 1 := by
        simp [Lane.takeEntry, hrot]
      exact hlen ▸ Nat.succ_le_succ hroom
    · simp [Lane.takeEntry, hrot]
    · simp [Lane.takeEntry, hrot, h]
    · simpa [Lane.takeEntry, hrot] using hstuck
  | cons y rest =>
    refine ⟨by simp [Lane.takeEntry, hrot], by simp [Lane.takeEntry, hrot], by simp [Lane.takeEntry, hrot],
      by simp [Lane.takeEntry, hrot], ?_⟩
    rintro ⟨hlen, hent, hone, -, hstuck⟩
    simp only [hrot, List.length_cons] at hlen
    refine ⟨?_, ?_, ?_, ?_, ?_⟩
    · simp only [Lane.takeEntry, hrot]
      omega
    · simpa [Lane.takeEntry, hrot] using hent
    · simp only [Lane.takeEntry, hrot]
      exact .inr (hone.resolve_left (by simp [hrot]))
    · simp [Lane.takeEntry, hrot, h]
    · simpa [Lane.takeEntry, hrot] using hstuck

theorem effects_handRotation {s : State} {l : LaneId} {cat : RiderCategory} (hcat : cat ≠ .paid)
    (hrole : (s.lane l).role = .gate) : Effects s (s.handRotation l cat) := by
  refine (Effect.rider l cat hcat).only.also (.lane l _ (Lane.eases_takeRotation ?_ _))
  rw [State.lane_congr (s := s) (by simp)]
  exact hrole

theorem effects_rotation (s : State) (l : LaneId) : Effects s (s.rotation l) := by
  unfold State.rotation
  split
  · rename_i hrole
    unfold State.rotate
    (repeat' split)
    · unfold State.paidRotation
      split
      · exact .none s
      · rename_i h
        refine (Effect.commit l _ _ hrole h).only.also (.passback _ _ rfl ?_)
        intro e he
        cases hphase : e.phase <;> simp_all [State.passbackDue, PassbackEntry.isCommitted]
    · exact (effects_handRotation (by simp) hrole).also (.record _ (by simp))
    · refine (((effects_handRotation (by simp) hrole).also (.lane l _ ?_)).also (.raise _)).also
        (.record _ (by simp))
      exact .of_fields
  · exact .none s

theorem effects_beamChange (s : State) (l : LaneId) (beam : Beam) (blocked : Bool) :
    Effects s (s.beamChange l beam blocked) := by
  have hset : ∀ x : Lane, x.Eases (x.setBeam beam blocked) := fun x => by
    cases beam <;> exact .of_fields
  unfold State.beamChange
  (repeat' split)
  · exact .none s
  · rename_i hrole
    have hmoved : (s.lane l).Eases { (s.lane l).beamMoved beam blocked s.rcc.site.beamStuck with
        detector := ((s.lane l).detect beam blocked).1 } := by
      have hfields : ∀ (x : Lane) (d : DetectorState), (x.latches.beamStuck = true → d = .idle) → x.role = .gate →
          x.Eases { x.beamMoved beam blocked s.rcc.site.beamStuck with detector := d } := by
        intro x d hd hx
        cases beam <;> refine ⟨rfl, id, id, rfl, ?_⟩ <;> rintro ⟨h1, h2, h3, -, -⟩ <;>
          exact ⟨h1, h2, h3, fun h => absurd hx h, hd⟩
      refine hfields _ _ ?_ hrole
      intro h
      simp [Lane.detect, h]
    simp only [State.gateBeamChange]
    split
    · simp only [State.handEntry]
      have htake := ((Effect.lane l _ hmoved).only).also
        (.lane l _ (Lane.eases_takeEntry (by simpa using hmoved.role.trans hrole)
          (s.setLane l { (s.lane l).beamMoved beam blocked s.rcc.site.beamStuck with
            detector := ((s.lane l).detect beam blocked).1 }).newItem))
      split
      · exact htake.trans (effects_underRider _ l)
      · exact htake
    · exact (Effect.lane l _ hmoved).only
  · exact (Effect.lane l _ (hset _)).only

theorem effects_matchExpiry (s : State) (l : LaneId) (list : MatchList) (index : Nat) :
    Effects s (s.matchExpiry l list index) := by
  cases list with
  | rotation =>
    refine (Effect.lane l { s.lane l with rotations := (s.lane l).rotations.eraseIdx index } ⟨rfl, id, id, rfl, ?_⟩).only
    rintro ⟨h1, h2, h3, h4, h5⟩
    refine ⟨Nat.le_trans (List.length_eraseIdx_le ..) h1, h2, ?_, ?_, h5⟩
    · exact h3.imp (fun h => by simp [h]) id
    · intro hr
      obtain ⟨ha, hb, hc⟩ := h4 hr
      exact ⟨by simp [ha], hb, hc⟩
  | entry =>
    simp only [State.matchExpiry]
    split
    · refine (Effect.lane l { s.lane l with entries := (s.lane l).entries.eraseIdx index }
        ⟨rfl, id, id, rfl, ?_⟩).only.trans (effects_underRider ..)
      rintro ⟨h1, h2, h3, h4, h5⟩
      refine ⟨h1, Nat.le_trans (List.length_eraseIdx_le ..) h2, ?_, ?_, h5⟩
      · exact h3.imp id fun h => by simp [h]
      · intro hr
        obtain ⟨ha, hb, hc⟩ := h4 hr
        exact ⟨ha, by simp [hb], hc⟩
    · exact .none s

/-! ## Timers -/

theorem effects_armRestChange (s : State) (l : LaneId) (present : Bool) : Effects s (s.armRestChange l present) := by
  unfold State.armRestChange
  split
  · exact .none s
  · exact (Effect.lane l _ .of_fields).only

theorem effects_unlockExpiry (s : State) (l : LaneId) : Effects s (s.unlockExpiry l) := by
  unfold State.unlockExpiry
  split
  · exact (Effect.lapse l .timeout).only
  · exact .none s

theorem effects_beamStuckExpiry (s : State) (l : LaneId) (beam : Beam) : Effects s (s.beamStuckExpiry l beam) := by
  unfold State.beamStuckExpiry
  split
  · exact .none s
  · refine (Effect.lane l _ ?_).only.trans (effects_latchFault ..)
    cases beam <;> exact .of_fields

theorem effects_armStuckExpiry (s : State) (l : LaneId) : Effects s (s.armStuckExpiry l) := by
  unfold State.armStuckExpiry
  split
  · exact .none s
  · exact (Effect.lane l _ .of_fields).only.trans (effects_latchFault ..)

theorem effects_alarmExpiry (s : State) (l : LaneId) : Effects s (s.alarmExpiry l) := by
  unfold State.alarmExpiry
  split
  · exact (Effect.lane l _ .of_fields).only
  · exact .none s

theorem effects_endShort (s : State) (l : LaneId) : Effects s (s.setLane l (s.lane l).endShort) := by
  refine (Effect.lane l _ ?_).only
  unfold Lane.endShort
  split <;> exact .of_fields

/-! ## Quotes -/

theorem effects_expirePassback (s : State) : Effects s s.expirePassback := by
  refine (Effect.passback _ _ rfl ?_).only
  intro e he
  cases hphase : e.phase <;> simp_all [State.passbackDue, PassbackEntry.isCommitted]

theorem effects_clearCommitted (s : State) : Effects s s.clearCommitted :=
  (Effect.passback _ _ rfl fun e he => by simp [he]).only

theorem effects_expireHolds (s : State) : Effects s s.expireHolds := by
  refine Effects.four (fun u k => ?_) s
  unfold State.expireHold
  split
  · exact (Effect.drop k .expired).only
  · exact .none u

theorem effects_stampMoved (s : State) : Effects s s.stampMoved :=
  (effects_expirePassback s).trans (effects_expireHolds _)

theorem effects_quote (s : State) (tag : Byte) (p : Nat) : Effects s (s.quoteRequest tag p) := by
  unfold State.quoteRequest
  (repeat' split)
  · exact .refused ..
  · exact .refused ..
  · exact .refused ..
  · rename_i hmode _ _ _ h
    exact (Effect.accept _ _ _ hmode h).only.answer ..

theorem effects_confirm (s : State) (tag slot : Byte) (p : Nat) : Effects s (s.confirmRequest tag slot p) := by
  unfold State.confirmRequest
  (repeat' split)
  · exact .refused ..
  · exact .refused ..
  · unfold State.confirmSlot
    split
    · exact .refused ..
    · exact .refused ..
    · split <;> exact .refused ..
    · split <;> exact .refused ..
    · rename_i hslot
      split
      · unfold State.confirmQuoted
        (repeat' split)
        · exact .refused ..
        · exact (Effect.drop _ _).only.answer ..
        · exact (Effect.drop _ _).only.answer ..
        · exact .refused ..
        · rename_i hroom
          exact (Effect.settle _ _ _ _ _ _ hslot rfl (by simpa [Config.settlementCapacity] using hroom)).only.answer ..
      · exact .refused ..

theorem effects_cancel (s : State) (tag slot : Byte) (p : Nat) : Effects s (s.cancelRequest tag slot p) := by
  unfold State.cancelRequest
  (repeat' split)
  · exact .refused ..
  · exact .refused ..
  · unfold State.cancelSlot
    (repeat' split)
    · exact .refused ..
    · exact (Effect.drop _ _).only.answerCode ..
    · exact .refused ..

/-! ## The grant -/

theorem effects_gateDecision {s : State} {l : LaneId} {p : Nat}
    (hwait : s.ae.waiting.get l = some { pass := p, kind := .gate }) : Effects s ((s.leaveSet l).gateDecision l p) := by
  unfold State.gateDecision
  split
  · rename_i h
    exact (Effect.admission l p hwait h).only
  · exact (Effect.leaveSet l).only.trans (effects_refuse ..)

theorem effects_testDecision (s : State) (l : LaneId) (p : Nat) (tag : Byte) : Effects s (s.testDecision l p tag) :=
  (((effects_startDisplay s l _).also (.record (.test l p _) (by simp))).also (.count l _ fun _ => {})).answer ..

theorem effects_autoQuote (s : State) (l : LaneId) (p : Nat) : Effects s (s.autoQuote l p).1 := by
  unfold State.autoQuote
  (repeat' split)
  · exact .none s
  · exact .none s
  · exact .none s
  · rename_i hmode _ _ h
    refine (Effect.accept _ _ _ ?_ h).only
    cases hm : s.rcc.mode <;> simp_all

theorem effects_deskDecision (s : State) (l : LaneId) (p : Nat) : Effects s (s.deskDecision l p) := by
  unfold State.deskDecision
  split
  · exact effects_refuse ..
  · exact (((Effect.count l _ fun _ => {}).only.trans (effects_autoQuote _ l _)).also
      (.raise _)).trans (effects_startDisplay ..)

theorem effects_grant (s : State) : Effects s s.grant := by
  unfold State.grant
  split
  · exact .none s
  · split
    · exact .none s
    · rename_i l _ _ r hwait
      obtain ⟨p, k⟩ := r
      cases k with
      | gate => exact effects_gateDecision hwait
      | desk => exact (Effect.leaveSet l).only.trans (effects_deskDecision ..)
      | test tag => exact (Effect.leaveSet l).only.trans (effects_testDecision ..)

/-! ## The tables -/

theorem effects_productPut (s : State) (tag : Byte) (code : Nat) (f : ProductFields) :
    Effects s (s.productPutRequest tag code f) := by
  unfold State.productPutRequest
  (repeat' split)
  · exact .refused ..
  · exact .refused ..
  · exact .refused ..
  · exact .refused ..
  · rename_i hmode hcode _ p hp hshape
    exact (Effect.putProduct code f p hmode (by simpa using hcode) hp (by simpa using hshape)).only.answerCode ..

theorem effects_productClear (s : State) (tag : Byte) (code : Nat) : Effects s (s.productClearRequest tag code) := by
  unfold State.productClearRequest
  (repeat' split)
  · exact .refused ..
  · exact .refused ..
  · rename_i hmode hcode
    exact (Effect.clearProduct code hmode (by simpa using hcode)).only.answerCode ..

theorem effects_passPut (s : State) (tag : Byte) (r : PassRecord) : Effects s (s.passPutRequest tag r) := by
  unfold State.passPutRequest
  (repeat' split)
  · exact .refused ..
  · exact .refused ..
  · exact .refused ..
  · rename_i st hr _ e hfind hmarker hheld
    exact (Effect.rewritePass r st e hr hfind (by simpa using hmarker) (by simpa using hheld)).only.answer ..
  · exact .refused ..
  · rename_i st hr _ hfind hroom
    exact (Effect.addPass r st hr hfind (by simpa [Config.passCapacity] using hroom)).only.answer ..

/-- A request for one entry is answered only, unless the entry is there. -/
theorem effects_withEntry {s : State} {k : RequestKind} {tag : Byte} {p : Nat} {act : PassEntry → State}
    (h : ∀ e, s.findPass p = some e → Effects s (act e)) : Effects s (s.withEntry k tag p act) := by
  unfold State.withEntry
  (repeat' split)
  · exact .refused ..
  · exact .refused ..
  · rename_i e hfind
    exact h e hfind

theorem effects_passBlock (s : State) (tag : Byte) (p : Nat) : Effects s (s.passBlockRequest tag p) := by
  refine effects_withEntry fun e hfind => ?_
  cases hst : e.status
  case active =>
    exact (Effect.setStatus p .blocked e (.inr rfl) hfind (by simp [PassEntry.isHeld, hst])).only.answerCode ..
  all_goals exact .refused ..

theorem effects_passUnblock (s : State) (tag : Byte) (p : Nat) : Effects s (s.passUnblockRequest tag p) := by
  refine effects_withEntry fun e hfind => ?_
  cases hst : e.status
  case blocked =>
    exact (Effect.setStatus p .active e (.inl rfl) hfind (by simp [PassEntry.isHeld, hst])).only.answerCode ..
  all_goals exact .refused ..

theorem effects_passDelete (s : State) (tag : Byte) (p : Nat) : Effects s (s.passDeleteRequest tag p) := by
  refine effects_withEntry fun e hfind => ?_
  (repeat' split)
  · exact .refused ..
  · exact .refused ..
  · rename_i hmarker hheld
    exact (Effect.removePass p e hfind (by simpa using hmarker) (by simpa using hheld)).only.answer ..

theorem effects_usageMerge (s : State) (tag : Byte) (p : Nat) (days : List Byte) :
    Effects s (s.usageMergeRequest tag p days) := by
  unfold State.usageMergeRequest
  (repeat' split)
  · exact .refused ..
  · exact .refused ..
  · exact .refused ..
  · exact .refused ..
  · rename_i e hfind
    have hpass := State.pass_of_findPass hfind
    exact (Effect.merge e _ (by rw [hpass, hfind])).only.answer ..

/-! ## The transfer -/

theorem effects_xferOpen (s : State) (tag mode purge : Byte) (count : Nat) :
    Effects s (s.xferOpenRequest tag mode purge count) := by
  unfold State.xferOpenRequest
  (repeat' split)
  · exact .refused ..
  · exact .refused ..
  · refine Effects.answer ?_ ..
    simp only [State.openTransfer]
    split
    · exact (Effect.transfer _).only.also .clearMarks
    · exact (Effect.transfer _).only
  · exact .refused ..

theorem effects_loadEffect (s : State) (r : PassRecord) : Effects s (s.loadEffect r (s.loadOutcome r)) := by
  cases hr : s.recordStatus? r with
  | none =>
    simp only [State.loadEffect, hr]
    exact .none s
  | some st =>
    cases hfind : s.findPass r.pass.toNat with
    | none =>
      by_cases hroom : s.passes.length < 4096
      · have ho : s.loadOutcome r = .added := by
          simp [State.loadOutcome, hr, hfind, Config.passCapacity, Nat.not_le.mpr hroom]
        simp only [State.loadEffect, hr, ho]
        exact (Effect.addPass r st hr hfind hroom).only
      · have ho : s.loadOutcome r = .rejectedFull := by
          simp [State.loadOutcome, hr, hfind, Config.passCapacity, Nat.not_lt.mp hroom]
        simp only [State.loadEffect, hr, ho]
        exact .none s
    | some e =>
      by_cases hmarker : e.marker = none
      · by_cases hheld : e.isHeld = true
        · have ho : s.loadOutcome r = .skippedHeld := by simp [State.loadOutcome, hr, hfind, hmarker, hheld]
          simp only [State.loadEffect, hr, ho]
          exact .none s
        · by_cases hd : e.differs r st = true
          · have ho : s.loadOutcome r = .replaced := by simp [State.loadOutcome, hr, hfind, hmarker, hheld, hd]
            simp only [State.loadEffect, hr, ho]
            exact (Effect.rewritePass r st e hr hfind hmarker (by simpa using hheld)).only
          · have ho : s.loadOutcome r = .unchanged := by simp [State.loadOutcome, hr, hfind, hmarker, hheld, hd]
            simp only [State.loadEffect, hr, ho]
            exact .none s
      · have ho : s.loadOutcome r = .skippedPending := by
          simp [State.loadOutcome, hr, hfind, Option.isSome_iff_ne_none, hmarker]
        simp only [State.loadEffect, hr, ho]
        exact .none s

theorem effects_recordStep (s : State) (m : TransferMode) (r : PassRecord) : Effects s (s.recordStep m r) := by
  cases m with
  | load => exact ((effects_loadEffect s r).also (.markPass _)).also (.transfer _)
  | verify =>
    simp only [State.recordStep, State.verifyStep, State.verifyMark]
    split
    · exact (Effect.transfer _).only
    · exact (Effect.markPass _).only.also (.transfer _)

theorem effects_handleRecords (m : TransferMode) (rs : List PassRecord) (s : State) :
    Effects s (State.handleRecords m rs s).1 := by
  induction rs generalizing s with
  | nil => exact .none s
  | cons r rs ih => exact (effects_recordStep s m r).trans (ih _)

theorem effects_completeTransfer (s : State) (h : TransferHeader) : Effects s (s.completeTransfer h) := by
  simp only [State.completeTransfer]
  refine Effects.also ?_ (.transfer _)
  split
  · cases hm : h.mode
    · exact Effect.sweep.only.also (.transfer _)
    · exact (Effect.transfer _).only
  · exact .none s

theorem effects_takeChunk (s : State) (tag : Byte) (h : TransferHeader) (records : List PassRecord) :
    Effects s (s.takeChunk tag h records) := by
  have hrecords := (effects_handleRecords h.mode records s).also (.transfer
    { (State.handleRecords h.mode records s).1.xfer with
      header := some { h with remaining := h.remaining - records.length } })
  simp only [State.takeChunk]
  split
  · exact (hrecords.trans (effects_completeTransfer _ h)).answer ..
  · exact hrecords.answer ..

theorem effects_xferChunk (s : State) (tag : Byte) (records : List PassRecord) :
    Effects s (s.xferChunkRequest tag records) := by
  unfold State.xferChunkRequest
  (repeat' split)
  · exact .refused ..
  · exact .reported ..
  · exact .reported ..
  · exact effects_takeChunk ..
  · exact .reported ..

theorem effects_xferAbort (s : State) (tag : Byte) : Effects s (s.xferAbortRequest tag) := by
  unfold State.xferAbortRequest
  split
  · exact (Effect.transfer _).only.answer ..
  · exact .refused ..

/-! ## The clock and the modes -/

/-- A running clock moved within the same mode and lift status closes no lane that was not closed. -/
theorem Effect.move (s : State) (day second : Nat) : Effect s (s.setClockTo .running day second) := by
  refine .clock _ (fun h => .inl h) fun h => .inl ?_
  simp_all [State.closedCondition, State.clockRunning]

theorem effects_moveTally (s : State) (finished : Nat) : Effects s (s.moveTally finished) := by
  simp only [State.moveTally]
  exact ((Effect.tally { s.tally with previous := s.tally.today } rfl rfl rfl).only.also
    (.record (.dayRoll ..) (by simp))).also (.clearTally _)

theorem effects_announceDay (s : State) (finished : Nat) : Effects s (s.announceDay finished) :=
  ((effects_clearCommitted s).trans (effects_moveTally ..)).also (.raise .dayRolled)

theorem effects_setClockInSetup (s : State) (day second : Nat) : Effects s (s.setClockInSetup day second) := by
  simp only [State.setClockInSetup, State.setToday]
  exact (((Effect.move s day second).only.trans (effects_clearCommitted _)).also
    (.tally _ (by rfl) (by rfl) (by rfl))).trans (effects_stampMoved _)

theorem effects_setClock (s : State) (tag : Byte) (day second : Nat) : Effects s (s.setClockRequest tag day second) := by
  unfold State.setClockRequest
  split
  · exact .refused ..
  · split
    · exact (effects_setClockInSetup ..).answerCode ..
    · split
      · exact .refused ..
      · refine Effects.answerCode ?_ ..
        simp only [State.setClockInRun]
        refine Effects.trans ?_ (effects_stampMoved _)
        split
        · exact (Effect.move s day second).only.trans (effects_announceDay ..)
        · exact (Effect.move s day second).only

theorem effects_endSeason (s : State) : Effects s s.endSeason := by
  simp only [State.endSeason, State.setClockTo]
  exact ((Effect.shut _ .seasonEnd (by rfl)).only.trans (effects_announceDay _ 239)).also (.raise .clockExpired)

theorem effects_advanceSecond (s : State) : Effects s s.advanceSecond := by
  unfold State.advanceSecond
  split
  · exact .none s
  · exact .none s
  · rename_i hrunning
    refine Effects.trans ?_ (effects_stampMoved _)
    (repeat' split)
    · exact (Effect.move ..).only
    · simp only [State.rollOver, hrunning]
      exact (Effect.move ..).only.trans (effects_announceDay ..)
    · exact effects_endSeason s

theorem effects_siteConfig (s : State) (tag : Byte) (f : SiteFields) : Effects s (s.siteConfigRequest tag f) := by
  unfold State.siteConfigRequest
  (repeat' split)
  · exact .refused ..
  · exact .refused ..
  · refine Effects.answerCode (Effect.only (.clock _ ?_ ?_)) ..
    · exact fun h => .inl h
    · exact fun h => .inl h

theorem effects_calendarMark (s : State) (tag : Byte) (day : Nat) (mark : Byte) :
    Effects s (s.calendarMarkRequest tag day mark) := by
  unfold State.calendarMarkRequest
  (repeat' split)
  · exact .refused ..
  · exact .refused ..
  · refine Effects.answerCode (Effect.only (.clock _ ?_ ?_)) ..
    · exact fun h => .inl h
    · exact fun h => .inl h

theorem effects_liftStatus (s : State) (tag value : Byte) : Effects s (s.liftStatusRequest tag value) := by
  unfold State.liftStatusRequest
  (repeat' split)
  · exact .refused ..
  · exact .refused ..
  · rename_i v _ _
    refine Effects.answerCode ?_ ..
    simp only [State.changeLift]
    split
    · exact (Effect.shutLift _ v .liftClosed (by rfl)).only
    · rename_i hv
      refine (Effect.clock { s.rcc with lift := v } (fun h => .inl h) fun h => .inl ?_).only.also (.record _ (by simp))
      simp only [State.closedCondition, State.clockRunning, State.setRcc_rcc, Bool.or_eq_true, beq_iff_eq, hv,
        or_false] at h ⊢
      exact h.imp_left .inl

/-- R15: the move to RUN closes no lane. -/
theorem effects_run (s : State) (tag : Byte) : Effects s (s.runRequest tag) := by
  unfold State.runRequest
  (repeat' split)
  · exact .refused ..
  · exact .refused ..
  · rename_i hmode
    have hsetup : s.rcc.mode = .setup := by cases h : s.rcc.mode <;> simp_all
    exact ((Effect.clock { s.rcc with mode := .run } (by simp) fun _ =>
      .inl (by simp [State.closedCondition, hsetup])).only.also (.record _ (by simp))).answerCode ..

/-- R16: with no work in flight no admission is pending and every slot is FREE. -/
theorem State.workInFlight_eq_false_iff (s : State) :
    s.workInFlight = false ↔ ∀ i, s.pendingPass i = none ∧ (s.slot i).state = .free := by
  have hall : ∀ i : Fin 4, i ∈ fourInOrder := by decide
  constructor
  · intro h i
    simp only [State.workInFlight, List.any_eq_false] at h
    simpa using h i (hall i)
  · intro h
    simp [State.workInFlight, h]

theorem effects_setup (s : State) (tag : Byte) : Effects s (s.setupRequest tag) := by
  unfold State.setupRequest
  (repeat' split)
  · exact .refused ..
  · exact .refused ..
  · rename_i hwork
    have hfree := (s.workInFlight_eq_false_iff).mp (by simpa using hwork)
    exact ((Effect.clock { s.rcc with mode := .setup } (fun _ => .inr fun k => (hfree k).2) fun _ =>
      .inr fun l => (hfree l).1).only.also (.record _ (by simp))).answerCode ..

/-! ## The warm restart -/

/-- A slot after its restart is FREE, and the other slots are as they were (R17, step 3). -/
theorem State.slot_restartSlot (s : State) (k j : SlotId) :
    ((s.restartSlot k).slot j).state = if j = k then .free else (s.slot j).state := by
  have hdrop : ∀ p, ((s.dropTo k p .restart .free).slot j).state = if j = k then .free else (s.slot j).state := by
    intro p
    rw [State.slot, (s.dropTo_spec k p .restart .free).2.2.1, Quad.get_set]
    split <;> rfl
  unfold State.restartSlot
  split
  · exact hdrop _
  · exact hdrop _
  · exact hdrop _
  · rw [State.slot, State.setSlot, State.setQuotes_quotes, Quad.get_set]
    split <;> rfl
  · rename_i h
    split
    · rename_i hj
      rw [hj, h]
    · rfl

theorem State.slot_restartQuotes (s : State) (j : SlotId) :
    ((fourInOrder.foldl (fun s k => s.restartSlot k) s).slot j).state = .free := by
  simp only [fourInOrder, List.foldl, State.slot_restartSlot]
  match j with
  | 0 => rfl
  | 1 => rfl
  | 2 => rfl
  | 3 => rfl

/-- The four lanes changed alike, one after another. -/
theorem State.setLanes_map (s : State) (f : Lane → Lane) :
    s.setLanes (s.lanes.map f) = fourInOrder.foldl (fun s l => s.setLane l (f (s.lane l))) s := rfl

theorem Lane.eases_restart (x : Lane) : x.Eases x.restart where
  role := rfl
  lock h := by simp [Lane.restart] at h
  fault := id
  timer := rfl
  counting _ := ⟨by simp [Lane.restart], by simp [Lane.restart], .inl rfl, fun _ => ⟨rfl, rfl, rfl⟩, fun _ => rfl⟩

/-- With no admission pending and every slot FREE, the lift closes and the mode goes to SETUP. -/
theorem effects_restartClock {s : State} (hpending : ∀ l, s.pendingPass l = none)
    (hfree : ∀ k, (s.slot k).state = .free) : Effects s (s.restartLift.changeMode .setup .restart) := by
  have hlift : Effects s s.restartLift := by
    unfold State.restartLift
    split
    · exact .none s
    · exact (Effect.clock { s.rcc with lift := .closed } (fun h => .inl h) fun _ => .inr hpending).only.also
        (.record (.lift .closed) (by simp))
  refine (hlift.also (.clock { s.restartLift.rcc with mode := .setup } (fun _ => .inr fun k => ?_) fun _ =>
    .inr fun l => ?_)).also (.record _ (by simp))
  · rw [State.slot_congr (s := s) (by simp), hfree k]
  · rw [State.pendingPass_congr (s := s) (by simp), hpending l]

theorem effects_withdrawAll (s : State) : Effects s s.withdrawAll :=
  Effects.four (fun _ l => (Effect.withdraw l).only) s

theorem effects_lapseAll (s : State) (reason : LapseReason) : Effects s (s.lapseAll reason) :=
  Effects.four (fun _ l => (Effect.lapse l reason).only) s

/-- R17, steps 1 and 2: the notices, the waiting requests and the pending admissions end. -/
def State.restartAdmissions (s : State) : State :=
  (s.setNotices { s.notices with pending := [] }).withdrawAll.lapseAll .restart

/-- R17, step 3: the slots are freed and the calculator is IDLE. -/
def State.restartSlots (s : State) : State :=
  (fourInOrder.foldl (fun s k => s.restartSlot k) s).setRfc { busy := none, queue := [] }

/-- R17, step 4: the lift, the mode and the transfer. -/
def State.restartModes (s : State) : State :=
  let s := s.restartLift.changeMode .setup .restart
  s.setXfer s.xfer.restart

/-- Table 4.9: the lanes. -/
def State.restartLanes (s : State) : State := s.setLanes (s.lanes.map Lane.restart)

/-- A warm restart in its parts. -/
theorem State.warmRestart_eq (s : State) :
    s.warmRestart = (s.restartAdmissions.setAe
      { s.restartAdmissions.ae with pointer := 0 }).restartSlots.restartModes.restartLanes := rfl

theorem effects_restartLanes (s : State) : Effects s s.restartLanes := by
  rw [State.restartLanes, State.setLanes_map]
  exact Effects.four (fun _ l => (Effect.lane l _ (Lane.eases_restart _)).only) s

theorem effects_restartAdmissions (s : State) : Effects s s.restartAdmissions :=
  ((Effect.notices _ (List.nil_sublist _)).only.trans (effects_withdrawAll _)).trans (effects_lapseAll _ .restart)

theorem State.pendingPass_restartAdmissions (s : State) (l : LaneId) : s.restartAdmissions.pendingPass l = none :=
  State.pendingPass_lapseAll _ l .restart

theorem effects_restartModes {s : State} (hpending : ∀ l, s.pendingPass l = none)
    (hfree : ∀ k, (s.slot k).state = .free) : Effects s s.restartModes := by
  simp only [State.restartModes]
  exact (effects_restartClock hpending hfree).also (.transfer _)

theorem State.slot_restartSlots (s : State) (k : SlotId) : (s.restartSlots.slot k).state = .free :=
  s.slot_restartQuotes k

theorem State.pendingPass_restartSlots (s : State) (l : LaneId) : s.restartSlots.pendingPass l = s.pendingPass l :=
  State.pendingPass_congr (by simp [State.restartSlots, fourInOrder]) l

theorem effects_warmRestart (s : State) : Effects s s.warmRestart := by
  rw [State.warmRestart_eq]
  have hadmissions := effects_restartAdmissions s
  have hpending := s.pendingPass_restartAdmissions
  generalize s.restartAdmissions = u at hadmissions hpending
  have hslots : Effects s (u.setAe { u.ae with pointer := 0 }).restartSlots :=
    (hadmissions.also (.pointer 0)).also .restartQuotes
  have hnone : ∀ l, (u.setAe { u.ae with pointer := 0 }).restartSlots.pendingPass l = none := fun l =>
    ((State.pendingPass_restartSlots _ l).trans (State.pendingPass_congr (by simp) l)).trans (hpending l)
  exact (hslots.trans (effects_restartModes hnone (State.slot_restartSlots _))).trans (effects_restartLanes _)

/-! ## The remaining requests -/

theorem effects_passbackSet (s : State) (tag : Byte) (interval : Nat) :
    Effects s (s.passbackSetRequest tag interval) := by
  unfold State.passbackSetRequest
  split
  · exact .refused ..
  · exact ((Effect.passback _ (fun _ => true) (by exact (filter_const_true _).symm) fun _ _ => rfl).only.trans
      (effects_expirePassback _)).answerCode ..

theorem effects_status (s : State) (tag option : Byte) : Effects s (s.statusRequest tag option) := by
  unfold State.statusRequest
  split
  · exact .refused ..
  · refine Effects.answer ?_ ..
    split
    · exact (Effect.line _).only.also (.passback _ (fun _ => true) (by exact (filter_const_true _).symm) fun _ _ => rfl)
    · exact .none s

theorem effects_journalFetch (s : State) (tag : Byte) (asked : Nat) : Effects s (s.journalFetchRequest tag asked) := by
  unfold State.journalFetchRequest
  split
  · exact .refused ..
  · exact (Effect.fetch _).only.answer ..

theorem effects_noticeMask (s : State) (tag kind setting : Byte) :
    Effects s (s.noticeMaskRequest tag kind setting) := by
  unfold State.noticeMaskRequest
  split
  · rename_i k masked _ _
    exact (Effect.notices { s.notices with mask := s.notices.mask.set k masked } (List.Sublist.refl _)).only.answer ..
  · exact .refused ..

/-! ## Every step is a sequence of changes -/

/-- What the owner of a request does. -/
theorem effects_owner (i : Instr) (s : State) : Effects s (s.owner i) := by
  cases i
  case restart tag => exact (effects_warmRestart s).answerCode ..
  case run => exact effects_run ..
  case setup => exact effects_setup ..
  case siteConfig => exact effects_siteConfig ..
  case identify => exact .reported ..
  case setClock => exact effects_setClock ..
  case liftStatus => exact effects_liftStatus ..
  case calendarMark => exact effects_calendarMark ..
  case passbackSet => exact effects_passbackSet ..
  case productPut => exact effects_productPut ..
  case productClear => exact effects_productClear ..
  case passPut => exact effects_passPut ..
  case passBlock => exact effects_passBlock ..
  case passUnblock => exact effects_passUnblock ..
  case passDelete => exact effects_passDelete ..
  case usageMerge => exact effects_usageMerge ..
  case xferOpen => exact effects_xferOpen ..
  case xferChunk => exact effects_xferChunk ..
  case xferAbort => exact effects_xferAbort ..
  case xferStatus => exact .reported ..
  case laneConfig => exact effects_laneConfig ..
  case laneOutput => exact effects_laneOutput ..
  case laneClear => exact effects_laneClear ..
  case laneInject => exact effects_laneInject ..
  case quote => exact effects_quote ..
  case confirm => exact effects_confirm ..
  case cancel => exact effects_cancel ..
  case status => exact effects_status ..
  case tallyClear => exact (Effect.clearTally _).only.answerCode ..
  case journalFetch => exact effects_journalFetch ..
  case noticeMask => exact effects_noticeMask ..
  all_goals exact .of_line ((s.keepsAllBut_iff _ _).mpr (by simp [State.owner]))

/-- What an event does. -/
theorem effects_happens (i : Instr) (s : State) : Effects s (s.happens i) := by
  cases i
  case coldReset => exact (Effect.cold ..).only
  case secondAdvance => exact effects_advanceSecond s
  case passbackExpiry => exact effects_expirePassback s
  case holdExpiry => exact effects_expireHolds s
  case pollOutcome => exact effects_pollOutcome ..
  case grant => exact effects_grant s
  case rotation => exact effects_rotation ..
  case armRestChange => exact effects_armRestChange ..
  case beamChange => exact effects_beamChange ..
  case unlockTimerExpiry => exact effects_unlockExpiry ..
  case beamStuckTimerExpiry => exact effects_beamStuckExpiry ..
  case armStuckTimerExpiry => exact effects_armStuckExpiry ..
  case displayTimeExpiry l => exact (Effect.lane l _ .of_fields).only
  case alarmTimerExpiry => exact effects_alarmExpiry ..
  case buzzerPatternEnd => exact effects_endShort ..
  case matchTimerExpiry => exact effects_matchExpiry ..
  case computationCompletion => exact Effect.complete.only
  all_goals exact .of_line ((s.keepsAllBut_iff _ _).mpr (by simp [State.happens]))

/-- A property every change keeps, every step keeps. -/
theorem keptByStep_of_effects {P : State → Prop} (hP : ∀ s u, P s → Effect s u → P u) : KeptByStep P :=
  keptByStep_of_parts (fun _ x hs => hP _ _ hs (.queue x)) (fun _ x hs => hP _ _ hs (.line x))
    (fun _ hs => hP _ _ hs (.notices _ List.eraseP_sublist)) (fun i s hs => (effects_owner i s).keep hP hs)
    (fun i s hs => (effects_happens i s).keep hP hs) fun _ hs => hP _ _ hs .calculate

end Sys2Proof.Machine
end

section
/-!
PROOFS. The bounds of the Journal and of the Notice Latch (R162, R170).
-/

namespace Sys2Proof.Machine

/-! ## Properties of the records and notices -/

/-- A property of the journal and the pending notices that routine records and raises keep. -/
structure KeptByRecords (P : State → Prop) : Prop where
  congr : ∀ {s u : State}, P s → u.journal = s.journal → u.notices = s.notices → P u
  routine : ∀ {s : State} {b : RecordBody}, P s → (∀ x, b ≠ .settlement x) → P (s.writeRecord b)
  raise : ∀ {s : State} (x : PendingNotice), P s → P (s.raise x)

section Records

variable {P : State → Prop} (hP : KeptByRecords P)

include hP

theorem KeptByRecords.setLane {s : State} (hs : P s) (l : LaneId) (x : Lane) : P (s.setLane l x) := hP.congr hs rfl rfl

theorem KeptByRecords.setRcc {s : State} (hs : P s) (r : ClockBlock) : P (s.setRcc r) := hP.congr hs rfl rfl

theorem KeptByRecords.withdraw {s : State} (hs : P s) (l : LaneId) : P (s.withdraw l) :=
  hP.congr hs (by simp) (by simp)

theorem KeptByRecords.countPaid {s : State} (hs : P s) (l : LaneId) (isNew : Bool) : P (s.countPaid l isNew) :=
  hP.congr hs (by simp) (by simp)

theorem KeptByRecords.lapse {s : State} (hs : P s) (l : LaneId) (r : LapseReason) : P (s.lapse l r) := by
  unfold State.lapse
  split
  · exact hs
  · exact hP.setLane (hP.routine (hP.congr hs (by simp) (by simp)) (b := .lapsed l _ r) (by simp)) l _

theorem KeptByRecords.lapseAll {s : State} (hs : P s) (r : LapseReason) : P (s.lapseAll r) :=
  hP.lapse (hP.lapse (hP.lapse (hP.lapse hs 0 r) 1 r) 2 r) 3 r

theorem KeptByRecords.enterFault {s : State} (hs : P s) (l : LaneId) : P (s.enterFault l) :=
  hP.withdraw (hP.lapse (hP.setLane hs l _) l .fault) l

theorem KeptByRecords.commitEntry {s : State} (hs : P s) (l : LaneId) (e : PassEntry) (m : AdmissionMarker) :
    P (s.commitEntry l e m) := by
  unfold State.commitEntry
  exact hP.countPaid (hP.routine (hP.congr hs (by simp) (by simp)) (by simp)) l _

theorem KeptByRecords.dropTo {s : State} (hs : P s) (k : SlotId) (p : Nat) (r : DropReason) (next : SlotState) :
    P (s.dropTo k p r next) := by
  simp only [State.dropTo]
  exact hP.raise _ (hP.routine (b := .quoteDropped p k r) (hP.congr hs (by simp) (by simp)) (by simp))

theorem KeptByRecords.dropQuote {s : State} (hs : P s) (k : SlotId) (r : DropReason) : P (s.dropQuote k r) := by
  unfold State.dropQuote
  split
  · exact hP.dropTo hs ..
  · exact hP.dropTo hs ..
  · exact hP.dropTo hs ..
  · exact hs
  · exact hs

theorem KeptByRecords.restartSlot {s : State} (hs : P s) (k : SlotId) : P (s.restartSlot k) := by
  unfold State.restartSlot
  split
  · exact hP.dropTo hs ..
  · exact hP.dropTo hs ..
  · exact hP.dropTo hs ..
  · exact hP.congr hs rfl rfl
  · exact hs

theorem KeptByRecords.handOver {s : State} (hs : P s) (c : Computation) : P (s.handOver c) := by
  unfold State.handOver
  split
  · exact hP.raise _ (hP.congr hs rfl rfl)
  · exact hP.congr hs rfl rfl
  · exact hs
  · exact hs
  · exact hs

theorem KeptByRecords.complete {s : State} (hs : P s) : P s.completeComputation := by
  unfold State.completeComputation
  split
  · exact hs
  · rename_i c _
    have hover := hP.handOver hs c
    generalize s.handOver c = u at hover
    exact hP.congr hover (by simp) (by simp)

/-- Such a property is kept by every change, if those that remove notices or records, write a settlement or reset the
part keep it. -/
theorem KeptByRecords.effect
    (hnotices : ∀ s n, P s → n.pending.Sublist s.notices.pending → P (s.setNotices n))
    (hfetch : ∀ s k, P s → P (s.setJournal (s.journal.fetched k)))
    (hsettle : ∀ s x, P s → s.journal.settlementCount < 64 → P (s.writeRecord (.settlement x)))
    (hcold : ∀ s rate1 rate0, P (State.coldReset s rate1 rate0)) {s u : State} (hs : P s) (h : Effect s u) : P u := by
  cases h
  case notices n hn => exact hnotices s n hs hn
  case raise x => exact hP.raise x hs
  case record b hb => exact hP.routine hs hb
  case fetch k => exact hfetch s k hs
  case shut r reason _ => exact hP.lapseAll (hP.setRcc hs r) reason
  case shutLift r v reason _ => exact hP.lapseAll (hP.routine (hP.setRcc hs r) (by simp)) reason
  case fault l f x _ => exact hP.enterFault (hP.routine (hP.setLane hs l _) (by simp)) l
  case lock l => exact hP.withdraw (hP.lapse (hP.setLane hs l _) l _) l
  case lapse l reason => exact hP.lapse hs l reason
  case commit l e m _ _ =>
    have hcommit := hP.commitEntry hs l e m
    generalize s.commitEntry l e m = v at hcommit
    exact hP.setLane (hP.congr hcommit (by simp) (by simp)) l _
  case drop k reason => exact hP.dropQuote hs k reason
  case restartQuotes =>
    exact hP.congr (hP.restartSlot (hP.restartSlot (hP.restartSlot (hP.restartSlot hs 0) 1) 2) 3) rfl rfl
  case settle k items i snap r expiry _ _ hroom =>
    have hwrite := hsettle (s.updatePass items.pass fun e => { e with status := .refunded }) items
      (hP.congr hs (by simp) (by simp)) (by simpa using hroom)
    exact hP.congr hwrite (by simp [State.settle]) (by simp [State.settle])
  case complete => exact hP.complete hs
  case cold rate1 rate0 => exact hcold s rate1 rate0
  all_goals
    refine hP.congr hs ?_ ?_ <;>
      simp [State.addPass, State.rewritePass, State.markPass, State.setStatus, State.setProductSlot, State.setLane]

end Records

/-! ## The Journal -/

/-- The property reads the journal only. -/
theorem State.JournalKept.congr {s u : State} (hs : s.JournalKept) (h : u.journal = s.journal) : u.JournalKept := by
  rw [State.JournalKept, h]
  exact hs

/-- Of at most 512 records, fewer than all of class SETTLEMENT, one is ROUTINE and makes room. -/
theorem length_dropOldestRoutine {rs : List JournalRecord}
    (h : rs.countP JournalRecord.isSettlement < rs.length) :
    (dropOldestRoutine rs).length = rs.length - 1 := by
  have hany : rs.any (fun r => !r.isSettlement) = true := by
    refine Classical.byContradiction fun hnone => ?_
    have hall : ∀ r ∈ rs, r.isSettlement = true := by simpa using hnone
    exact absurd (List.countP_eq_length.mpr hall) (by omega)
  simp [dropOldestRoutine, List.length_eraseP, hany]

/-- R165: the record that makes room is not of class SETTLEMENT. -/
theorem countP_dropOldestRoutine (rs : List JournalRecord) :
    (dropOldestRoutine rs).countP JournalRecord.isSettlement = rs.countP JournalRecord.isSettlement := by
  induction rs with
  | nil => rfl
  | cons r rs ih =>
    by_cases h : r.isSettlement = true
    · simpa [dropOldestRoutine, List.eraseP_cons, List.countP_cons, h] using ih
    · simp [dropOldestRoutine, h]

/-- R165: a write adds one to the settlement count exactly when its record is of class SETTLEMENT. -/
theorem Journal.settlementCount_write_eq (j : Journal) (stamp : Nat) (b : RecordBody) :
    (j.write stamp b).settlementCount =
      j.settlementCount + if JournalRecord.isSettlement ⟨j.nextSeq, stamp, b⟩ then 1 else 0 := by
  unfold Journal.write Journal.settlementCount
  dsimp only
  split
  · simp [List.countP_append, List.countP_singleton]
  · simp [List.countP_append, List.countP_singleton, countP_dropOldestRoutine]

/-- A write keeps the bounds if the settlement count stays within its own. -/
theorem State.JournalKept.writeRecord {s : State} (hs : s.JournalKept) (b : RecordBody)
    (h : (s.journal.write s.stamp b).settlementCount ≤ 64) : (s.writeRecord b).JournalKept := by
  obtain ⟨hlen, hcount, hseq, hgap⟩ := hs
  rw [State.JournalKept, State.writeRecord_journal]
  refine ⟨?_, h, ?_, ?_⟩
  · unfold Journal.write
    dsimp only
    split
    · rename_i hroom
      simp only [List.length_append, List.length_singleton]
      exact hroom
    · rename_i hfull
      have hroutine : s.journal.records.countP JournalRecord.isSettlement < s.journal.records.length := by
        simp only [Journal.settlementCount, Config.journalCapacity] at hcount hfull
        omega
      simp only [List.length_append, length_dropOldestRoutine hroutine, List.length_singleton]
      omega
  · unfold Journal.write
    dsimp only
    split <;> exact Nat.mod_lt _ (by decide)
  · unfold Journal.write
    dsimp only
    split
    · exact hgap
    · exact Nat.min_le_left _ _

/-- A record of another class needs no more. -/
theorem State.JournalKept.routine {s : State} (hs : s.JournalKept) {b : RecordBody} (hb : ∀ x, b ≠ .settlement x) :
    (s.writeRecord b).JournalKept := by
  refine hs.writeRecord b ?_
  have hclass : JournalRecord.isSettlement ⟨s.journal.nextSeq, s.stamp, b⟩ = false := by
    cases b <;> simp_all [JournalRecord.isSettlement]
  rw [Journal.settlementCount_write_eq, hclass]
  exact hs.2.1

theorem State.JournalKept.fetched {s : State} (hs : s.JournalKept) (k : Nat) :
    (s.setJournal (s.journal.fetched k)).JournalKept := by
  obtain ⟨hlen, hcount, hseq, -⟩ := hs
  refine ⟨?_, ?_, hseq, by simp [Journal.fetched]⟩
  · simp only [State.setJournal_journal, Journal.fetched, List.length_drop]
    omega
  · exact Nat.le_trans (List.drop_sublist k _).countP_le hcount

theorem State.journalKept_records : KeptByRecords State.JournalKept where
  congr hs hj _ := hs.congr hj
  routine hs hb := hs.routine hb
  raise _ hs := hs.congr (by simp)

/-- R158: a settlement is written only while fewer than 64 are held. -/
theorem State.JournalKept.settlement {s : State} (hs : s.JournalKept) (x : Settlement)
    (hroom : s.journal.settlementCount < 64) : (s.writeRecord (.settlement x)).JournalKept := by
  refine hs.writeRecord _ ?_
  rw [Journal.settlementCount_write_eq]
  split <;> omega

/-- Every change of the state keeps the bounds of the Journal. -/
theorem State.JournalKept.effect {s u : State} (hs : s.JournalKept) (h : Effect s u) : u.JournalKept :=
  State.journalKept_records.effect (fun _ _ hs _ => hs) (fun _ k hs => hs.fetched k) (fun _ x hs => hs.settlement x)
    (fun _ _ _ => by simp [State.JournalKept, State.coldReset, State.cold, Journal.settlementCount]) hs h

/-! ## The Notice Latch -/

/-- R170: a raise whose key is pending takes no new place. -/
theorem State.NoticesKept.raise {s : State} (hs : s.NoticesKept) (x : PendingNotice) : (s.raise x).NoticesKept := by
  rw [State.NoticesKept, State.raise_notices, NoticeLatch.raise_keys]
  split
  · exact hs
  · rename_i hnew
    refine nodup_concat hs ?_
    simpa using hnew

theorem State.NoticesKept.writeRecord {s : State} (hs : s.NoticesKept) (b : RecordBody) :
    (s.writeRecord b).NoticesKept := by
  rw [State.NoticesKept, State.writeRecord_notices]
  split
  · exact hs.raise .journalHigh
  · exact hs

theorem State.noticesKept_records : KeptByRecords State.NoticesKept where
  congr hs _ hn := by
    rw [State.NoticesKept, hn]
    exact hs
  routine hs _ := hs.writeRecord _
  raise x hs := hs.raise x

/-- Every change of the state keeps one pending notice for each key. -/
theorem State.NoticesKept.effect {s u : State} (hs : s.NoticesKept) (h : Effect s u) : u.NoticesKept :=
  State.noticesKept_records.effect (fun _ _ hs hsub => List.Nodup.sublist (hsub.map _) hs) (fun _ _ hs => hs)
    (fun _ x hs _ => hs.writeRecord (.settlement x)) (fun _ _ _ => List.nodup_nil) hs h

/-- Settles O55: every change a step makes keeps both. -/
theorem journalAndNoticesKeptByEveryStep : Obligations.JournalAndNoticesKeptByEveryStep :=
  ⟨keptByStep_of_effects fun _ _ hs => hs.effect, keptByStep_of_effects fun _ _ hs => hs.effect⟩

end Sys2Proof.Machine
end

section
/-!
PROOFS. The counting state of the lanes (R113, R115, R116), and the line: its places, buffers, gap timer and
transmitter (R178, R182, R184, R185).
-/

namespace Sys2Proof.Machine

/-! ## The counting state -/

/-- The property reads the lanes only. -/
theorem State.CountingKept.congr {s u : State} (hs : s.CountingKept) (h : u.lanes = s.lanes) : u.CountingKept :=
  fun l => by
    rw [State.lane_congr h]
    exact hs l

theorem State.CountingKept.setLane {s : State} (hs : s.CountingKept) (l : LaneId) {x : Lane} (hx : x.CountingKept) :
    (s.setLane l x).CountingKept := by
  intro k
  rw [State.lane_setLane]
  split
  · exact hx
  · exact hs k

/-- A lapse stops a timer only. -/
theorem State.CountingKept.lapse {s : State} (hs : s.CountingKept) (l : LaneId) (r : LapseReason) :
    (s.lapse l r).CountingKept := by
  intro k
  rw [State.lane_lapse]
  split
  · exact hs k
  · exact hs k

theorem State.CountingKept.lapseAll {s : State} (hs : s.CountingKept) (r : LapseReason) : (s.lapseAll r).CountingKept :=
  (((hs.lapse 0 r).lapse 1 r).lapse 2 r).lapse 3 r

/-- Every change of the state keeps the counting state of every lane. -/
theorem State.CountingKept.effect {s u : State} (hs : s.CountingKept) (h : Effect s u) : u.CountingKept := by
  cases h
  case shut r reason _ => exact State.CountingKept.lapseAll (s := s.setRcc r) hs reason
  case shutLift r v reason _ =>
    exact State.CountingKept.lapseAll (s := (s.setRcc r).writeRecord (.lift v)) (hs.congr (by simp)) reason
  case lane l x hx => exact hs.setLane l (hx.counting (hs l))
  case role l x _ _ hx => exact hs.setLane l hx
  case fault l f x _ =>
    have hlatched : (((s.setLane l ((s.lane l).latch f)).writeRecord (.fault l x))).CountingKept :=
      (hs.setLane l ((hs l).latch f)).congr (by simp)
    generalize (s.setLane l ((s.lane l).latch f)).writeRecord (.fault l x) = v at hlatched
    have hdark : (v.setLane l { v.lane l with display := none }).CountingKept := hlatched.setLane l (hlatched l)
    exact (hdark.lapse l .fault).congr (by simp [State.enterFault])
  case lock l =>
    have hlocked : (s.setLane l { s.lane l with armOverride := .lock }).CountingKept := hs.setLane l (hs l)
    exact (hlocked.lapse l .locked).congr (by simp)
  case lapse l reason => exact hs.lapse l reason
  case admission l p _ _ =>
    refine State.CountingKept.setLane (hs.congr (by simp)) l ?_
    rw [State.lane_congr (s := s) (by simp)]
    exact hs l
  case commit l e m hrole _ =>
    have hrotated : ((s.commitEntry l e m).handRotation l .paid).CountingKept := by
      refine State.CountingKept.setLane (hs.congr (by simp)) l ((Lane.eases_takeRotation ?_ _).counting ?_)
      all_goals rw [State.lane_congr (s := s) (by simp)]
      · exact hrole
      · exact hs l
    exact hrotated.setLane l (hrotated l)
  case cold rate1 rate0 =>
    intro l
    have hcold : (s.coldReset rate1 rate0).lane l = Lane.cold (s.lane l).beamA (s.lane l).beamB (s.lane l).armRest :=
      Quad.get_map _ _ l
    rw [hcold]
    exact ⟨by simp [Lane.cold], by simp [Lane.cold], .inl rfl, fun _ => ⟨rfl, rfl, rfl⟩, fun _ => rfl⟩
  all_goals
    exact hs.congr (by simp [State.addPass, State.rewritePass, State.markPass, State.setStatus, State.setProductSlot,
      fourInOrder])

/-! ## The reply places (R184) -/

/-- R184: the places of the reply queue that replies and reservations take. -/
def State.load (s : State) : Nat := s.lif.replies.length + s.reserved

theorem State.load_congr {s u : State} (hlif : u.lif.replies = s.lif.replies) (hae : u.ae = s.ae) : u.load = s.load := by
  simp [State.load, State.reserved, hlif, hae]

theorem State.load_placeReply (s : State) (f : OutFrame) : (s.placeReply f).load = s.load + 1 := by
  simp only [State.load, State.reserved, State.placeReply, State.setLif_lif, State.setLif_ae, List.length_append,
    List.length_singleton]
  omega

theorem State.load_answer (s : State) (k : RequestKind) (tag : Byte) (st : StatusCode) (d : ReplyData) :
    (s.answer k tag st d).load = s.load + 1 := s.load_placeReply _

theorem State.load_answerCode (s : State) (k : RequestKind) (tag : Byte) (st : StatusCode) :
    (s.answerCode k tag st).load = s.load + 1 := s.load_placeReply _

/-- A reply behind a change of other blocks than the line and the waiting set takes one place. -/
theorem State.load_reply_le {s u : State} {f : OutFrame} (hlif : u.lif.replies = s.lif.replies) (hae : u.ae = s.ae) :
    (u.placeReply f).load ≤ s.load + 1 := by
  exact Nat.le_of_eq (by rw [State.load_placeReply, State.load_congr hlif hae])

/-- A member replaced, in the count of a group. -/
theorem Quad.countP_set {α : Type} (p : α → Bool) (q : Quad α) (l : Fin 4) (x : α) :
    (q.set l x).toList.countP p + (if p (q.get l) then 1 else 0) =
      q.toList.countP p + (if p x then 1 else 0) := by
  obtain ⟨a, b, c, d⟩ := q
  match l with
  | 0 | 1 | 2 | 3 =>
    simp [Quad.set, Quad.get, Quad.toList, List.countP_cons]
    omega

/-- The request at a lane, if any, is a TEST. -/
def isTestRequest (w : Option LaneRequest) : Bool := (w.map LaneRequest.isTest).getD false

/-- R184: the reservations after one lane's request has been replaced. -/
theorem State.reserved_of_set {s u : State} {l : LaneId} {w : Option LaneRequest}
    (h : u.ae.waiting = s.ae.waiting.set l w) :
    u.reserved + (if isTestRequest (s.ae.waiting.get l) then 1 else 0) =
      s.reserved + (if isTestRequest w then 1 else 0) := by
  have hset := Quad.countP_set isTestRequest s.ae.waiting l w
  rw [← h] at hset
  exact hset

/-- R91, R184: a withdrawn TEST gives its reserved place to its BUSY reply. -/
theorem State.load_withdraw (s : State) (l : LaneId) : (s.withdraw l).load = s.load := by
  have hset := State.reserved_of_set (s := s) (u := s.withdraw l) (w := none) (l := l) (by rw [(s.withdraw_spec l).1])
  have hlif := (s.withdraw_spec l).2
  have hbusy : (s.busyReplies l).length = if isTestRequest (s.ae.waiting.get l) then 1 else 0 := by
    cases hw : s.ae.waiting.get l with
    | none => simp [State.busyReplies, isTestRequest, hw]
    | some r =>
      obtain ⟨p, k⟩ := r
      cases k <;> simp [State.busyReplies, isTestRequest, LaneRequest.isTest, hw]
  simp only [State.load, hlif, List.length_append, hbusy]
  simp only [isTestRequest, Option.map_none, Option.getD_none] at hset ⊢
  simp at hset
  omega

theorem State.load_withdrawAll (s : State) : s.withdrawAll.load = s.load := by
  simp [State.withdrawAll, fourInOrder, State.load_withdraw]

theorem State.load_setLane (s : State) (l : LaneId) (x : Lane) : (s.setLane l x).load = s.load := rfl

theorem State.load_lapse (s : State) (l : LaneId) (r : LapseReason) : (s.lapse l r).load = s.load :=
  State.load_congr (by simp) (by simp)

theorem State.load_enterFault (s : State) (l : LaneId) : (s.enterFault l).load = s.load := by
  simp [State.enterFault, State.load_withdraw, State.load_lapse, State.load_setLane]

theorem State.load_writeRecord (s : State) (b : RecordBody) : (s.writeRecord b).load = s.load :=
  State.load_congr (by simp) (by simp)

theorem State.load_latchFault (s : State) (l : LaneId) (f : FaultLatch) : (s.latchFault l f).load = s.load := by
  have hraise : ∀ (u : State) (x : PendingNotice), (u.raise x).load = u.load := fun _ _ => rfl
  unfold State.latchFault
  split
  · rfl
  · dsimp only
    split
    · rw [hraise, State.load_writeRecord, State.load_setLane]
    · rw [hraise, State.load_enterFault, State.load_writeRecord, State.load_setLane]

theorem State.load_setArm (s : State) (l : LaneId) (v : ArmOverride) : (s.setArm l v).load = s.load := by
  unfold State.setArm
  (repeat' split) <;> simp [State.load_withdraw, State.load_lapse, State.load_setLane]

theorem State.load_configureLane (s : State) (f : LaneFields) : (s.configureLane f).load = s.load := by
  unfold State.configureLane State.changeRole
  dsimp only
  (repeat' split)
  · exact State.load_congr (by simp) (by simp)
  · rw [State.load_writeRecord, State.load_setLane, State.load_withdraw]
  · rw [State.load_setLane, State.load_withdraw]

theorem State.load_outputEffect {s u : State} {l : LaneId} {o : LaneOutput} {v : Byte}
    (h : s.outputEffect l o v = some u) : u.load = s.load := by
  cases o
  all_goals
    simp only [State.outputEffect] at h
    split at h
  case arm.isTrue =>
    obtain ⟨w, -, rfl⟩ := Option.map_eq_some_iff.mp h
    exact s.load_setArm l w
  case green.isFalse | amber.isFalse | red.isFalse | buzzer.isFalse =>
    obtain ⟨w, -, rfl⟩ := Option.map_eq_some_iff.mp h
    rfl
  all_goals exact absurd h (by simp)

theorem State.load_submit (s : State) (l : LaneId) (p : Nat) (k : RequestClass) : (s.submit l p k).load ≤ s.load + 1 := by
  have hset := State.reserved_of_set (s := s) (u := s.submit l p k) (l := l) rfl
  simp only [State.load, State.submit_frame]
  split at hset <;> split at hset <;> omega

theorem State.load_submit_of_not_test (s : State) (l : LaneId) (p : Nat) {k : RequestClass}
    (hk : ∀ tag, k ≠ .test tag) : (s.submit l p k).load ≤ s.load := by
  have hset := State.reserved_of_set (s := s) (u := s.submit l p k) (l := l) rfl
  have hnot : isTestRequest (some { pass := p, kind := k }) = false := by
    cases k <;> simp_all [isTestRequest, LaneRequest.isTest]
  simp only [State.load, State.submit_frame]
  rw [hnot] at hset
  split at hset <;> simp at hset <;> omega

theorem State.load_warmRestart (s : State) : s.warmRestart.load = s.load := by
  have hadmissions : s.restartAdmissions.load = s.load := by
    rw [State.restartAdmissions, State.load_congr (s := (s.setNotices { s.notices with pending := [] }).withdrawAll)
      (by simp) (by simp), State.load_withdrawAll]
    rfl
  rw [State.warmRestart_eq, ← hadmissions]
  generalize s.restartAdmissions = u
  have hpointer : (u.setAe { u.ae with pointer := 0 }).load = u.load := rfl
  rw [← hpointer]
  exact State.load_congr (by simp [State.restartLanes, State.restartModes, State.restartSlots, fourInOrder])
    (by simp [State.restartLanes, State.restartModes, State.restartSlots, fourInOrder])

theorem State.load_xferChunk (s : State) (tag : Byte) (records : List PassRecord) :
    (s.xferChunkRequest tag records).load ≤ s.load + 1 := by
  unfold State.xferChunkRequest
  split
  · exact State.load_reply_le rfl rfl
  · split
    · split
      · exact State.load_reply_le rfl rfl
      · split
        · exact State.load_reply_le rfl rfl
        · simp only [State.takeChunk]
          split
          · exact State.load_reply_le (by simp) (by simp)
          · exact State.load_reply_le (by simp) (by simp)
    · exact State.load_reply_le rfl rfl

/-- R184: a request takes one place, for its reply or for its reservation. -/
theorem State.load_owner (i : Instr) (s : State) : (s.owner i).load ≤ s.load + 1 := by
  cases i
  case restart tag =>
    simp only [State.owner, State.restartRequest]
    exact Nat.le_of_eq (by rw [State.load_answerCode, State.load_warmRestart])
  case laneConfig tag lane role timeout autoQuote =>
    simp only [State.owner, State.laneConfigRequest]
    (repeat' split) <;> simp [State.load_answerCode, State.load_configureLane]
  case laneOutput tag lane output value =>
    simp only [State.owner, State.laneOutputRequest]
    (repeat' split)
    · rename_i h
      exact Nat.le_of_eq (by rw [State.load_answerCode, State.load_outputEffect h])
    · exact Nat.le_of_eq (State.load_answerCode ..)
    · exact Nat.le_of_eq (State.load_answerCode ..)
  case laneInject tag lane pass =>
    simp only [State.owner, State.laneInjectRequest]
    (repeat' split)
    · exact Nat.le_of_eq (State.load_answerCode ..)
    · exact Nat.le_of_eq (State.load_answerCode ..)
    · exact s.load_submit ..
    · exact Nat.le_of_eq (State.load_answerCode ..)
  case xferChunk tag records => exact s.load_xferChunk tag records
  case coldReset | receiveCharacter | gapTimeout | framing | lineBreak | shiftingFrameDone | secondAdvance |
      passbackExpiry | holdExpiry | pollOutcome | grant | rotation | armRestChange | beamChange | unlockTimerExpiry |
      beamStuckTimerExpiry | armStuckTimerExpiry | displayTimeExpiry | alarmTimerExpiry | buzzerPatternEnd |
      matchTimerExpiry | computationCompletion => exact Nat.le_succ _
  all_goals
    simp only [State.owner, State.runRequest, State.setupRequest, State.siteConfigRequest, State.identifyRequest,
      State.setClockRequest, State.liftStatusRequest, State.calendarMarkRequest, State.passbackSetRequest,
      State.productPutRequest, State.productClearRequest, State.passPutRequest, State.passBlockRequest,
      State.passUnblockRequest, State.passDeleteRequest, State.withEntry, State.passQueryRequest,
      State.usageMergeRequest, State.mergeInto, State.xferOpenRequest, State.openTransfer, State.xferAbortRequest,
      State.xferStatusRequest, State.quoteRequest, State.confirmRequest, State.confirmSlot, State.confirmQuoted,
      State.confirmDrops, State.cancelRequest, State.cancelSlot, State.quoteQueryRequest, State.statusRequest,
      State.tallyRequest, State.tallyClearRequest, State.journalFetchRequest, State.noticeMaskRequest,
      State.answerBadFormat, State.clearReported, State.laneClearRequest, State.clearLane]
    (repeat' split) <;> exact State.load_reply_le (by simp) (by simp)

/-! ## The line between two steps -/

/-- R184: no event but a request takes a place: a TEST decision answers in the place reserved for it. -/
theorem State.load_grant (s : State) : s.grant.load ≤ s.load := by
  unfold State.grant
  split
  · exact Nat.le_refl _
  · split
    · exact Nat.le_refl _
    · rename_i l _ _ r hwait
      have hset := State.reserved_of_set (s := s) (u := s.leaveSet l) (l := l) (w := none) rfl
      rw [hwait] at hset
      obtain ⟨p, k⟩ := r
      have hleft : (s.leaveSet l).load + (if isTestRequest (some ⟨p, k⟩) then 1 else 0) = s.load := by
        have hnone : isTestRequest none = false := rfl
        simp only [State.load, State.leaveSet_frame, hnone] at hset ⊢
        simp at hset ⊢
        omega
      cases k with
      | gate =>
        refine Nat.le_trans (Nat.le_of_eq (State.load_congr (s := s.leaveSet l) ?_ ?_)) (by omega)
        · simp [State.evaluate]
        · simp [State.evaluate]
      | desk =>
        refine Nat.le_trans (Nat.le_of_eq (State.load_congr (s := s.leaveSet l) ?_ ?_)) (by omega)
        · simp [State.evaluate]
        · simp [State.evaluate]
      | test tag =>
        simp only [isTestRequest, LaneRequest.isTest, Option.map_some, Option.getD_some, if_true] at hleft
        simp only [State.evaluate, State.testDecision]
        rw [State.load_answer, State.load_congr (s := s.leaveSet l) (by simp) (by simp)]
        exact Nat.le_of_eq hleft

theorem State.load_read (s : State) (l : LaneId) (p : Option Nat) : (s.read l p).load ≤ s.load := by
  have hrefuse : ∀ c, (s.refuse l c p).load ≤ s.load := fun c => Nat.le_of_eq (State.load_congr (by simp) (by simp))
  have hready : ∀ k, (∀ tag, k ≠ .test tag) → (s.readyRead l k p).load ≤ s.load := by
    intro k hk
    cases p
    · exact Nat.le_of_eq (State.load_congr (by simp [State.readyRead]) (by simp [State.readyRead]))
    · exact s.load_submit_of_not_test l _ hk
  unfold State.read
  split
  · unfold State.gateRead
    (repeat' split)
    · exact hrefuse _
    · exact hrefuse _
    · exact hrefuse _
    · exact hready _ (by simp)
    all_goals exact Nat.le_refl _
  · unfold State.deskRead
    (repeat' split)
    · exact hrefuse _
    · exact hrefuse _
    · exact hready _ (by simp)
    · exact Nat.le_refl _
  · exact Nat.le_refl _

theorem State.load_pollOutcome (s : State) (l : LaneId) (o : PollOutcome) : (s.pollOutcome l o).load ≤ s.load := by
  unfold State.pollOutcome
  split
  · exact Nat.le_refl _
  · cases o with
    | silent =>
      simp only [State.poll, State.pollSilent]
      split
      · rw [State.load_latchFault]
        exact Nat.le_refl _
      · exact Nat.le_refl _
    | idle => exact Nat.le_refl _
    | badRead => exact State.load_read ..
    | read p => exact State.load_read ..

/-- R178, R182, R184: what holds of the line at any time: the places, the buffers and the gap timer. -/
def State.LineHeld (s : State) : Prop :=
  s.load ≤ 8 ∧ s.lif.inbound.length ≤ 2 ∧ (s.lif.receiver.gapTimer = true ↔ s.lif.receiver.state ≠ .hunt)

/-- A frame joins the buffers only while there are fewer than two (R182). -/
theorem State.LineHeld.joinInbound {s : State} (hs : s.LineHeld) (f : InFrame) : (s.joinInbound f).LineHeld := by
  obtain ⟨hload, hin, hgap⟩ := hs
  unfold State.joinInbound
  split
  · rename_i hroom
    refine ⟨hload, ?_, hgap⟩
    simp only [State.setLif_lif, List.length_append, List.length_singleton]
    exact hroom
  · exact ⟨hload, hin, hgap⟩

theorem State.LineHeld.joinRequest {s : State} (hs : s.LineHeld) (i : Instr) : (s.joinRequest i).LineHeld := by
  unfold State.joinRequest
  split
  · exact hs.joinInbound _
  · exact hs

theorem State.LineHeld.setReceiver {s : State} (hs : s.LineHeld) {r : Receiver}
    (hr : r.gapTimer = true ↔ r.state ≠ .hunt) : (s.setReceiver r).LineHeld := ⟨hs.1, hs.2.1, hr⟩

/-- R178: the gap timer runs in every receiver state but HUNT. -/
theorem State.LineHeld.examineOne {s : State} (hs : s.LineHeld) (c : Byte) : (s.examineOne c).1.LineHeld := by
  have hhunting : (Receiver.hunting.gapTimer = true ↔ Receiver.hunting.state ≠ .hunt) := by decide
  have hhold : ∀ next, next ≠ .hunt → (s.setReceiver (s.lif.receiver.hold c next)).LineHeld := fun next h =>
    hs.setReceiver (by simpa [Receiver.hold] using h)
  unfold State.examineOne
  dsimp only
  split
  · split
    · exact hs.setReceiver (by simp)
    · exact hs
  · split
    · exact hhold _ (by simp)
    · exact hs.setReceiver hhunting
  · exact hhold _ (by simp)
  · refine hhold _ ?_
    unfold Receiver.afterTag
    split <;> simp
  · refine hhold _ ?_
    unfold Receiver.afterPayload
    split <;> simp
  · exact hhold _ (by simp)
  · unfold State.frameComplete
    dsimp only
    split
    · exact (hs.setReceiver hhunting).joinInbound _
    · exact hs.setReceiver hhunting

theorem State.LineHeld.examineAll {s : State} (hs : s.LineHeld) (n : Nat) (cs : List Byte) :
    (State.examineAll n cs s).LineHeld := by
  induction n generalizing cs s with
  | zero => exact hs
  | succ n ih =>
    cases cs with
    | nil => exact hs
    | cons c cs => exact ih (hs.examineOne c) _

theorem State.LineHeld.gapTimeout {s : State} (hs : s.LineHeld) : s.gapTimeout.LineHeld := by
  unfold State.gapTimeout
  split
  · have hhunting : (s.setLif { s.lif with
        receiver := Receiver.hunting
        flags := { s.lif.flags with gapTimeout := true } }).LineHeld := ⟨hs.1, hs.2.1, by simp [Receiver.hunting]⟩
    exact hhunting.examineAll _ _
  · exact hs

/-- An event that leaves the receiver and the buffers, and takes no place. -/
theorem State.LineHeld.of_load {s u : State} (hs : s.LineHeld) (hload : u.load ≤ s.load)
    (hreceiver : u.lif.receiver = s.lif.receiver) (hin : u.lif.inbound = s.lif.inbound) : u.LineHeld := by
  obtain ⟨h, h2, hgap⟩ := hs
  exact ⟨Nat.le_trans hload h, hin ▸ h2, hreceiver ▸ hgap⟩

theorem State.LineHeld.owner {s : State} (hs : s.LineHeld) (hroom : s.load < 8) (i : Instr) : (s.owner i).LineHeld := by
  obtain ⟨-, hin, hgap⟩ := hs
  obtain ⟨hreceiver, hinbound, -⟩ := s.owner_line i
  exact ⟨Nat.le_trans (s.load_owner i) hroom, hinbound ▸ hin, hreceiver ▸ hgap⟩

@[simp] theorem State.latchFault_line (s : State) (l : LaneId) (f : FaultLatch) :
    (s.latchFault l f).lif.receiver = s.lif.receiver ∧ (s.latchFault l f).lif.inbound = s.lif.inbound := by
  unfold State.latchFault State.enterFault
  dsimp only
  (repeat' split) <;> simp

@[simp] theorem State.pollOutcome_line (s : State) (l : LaneId) (o : PollOutcome) :
    (s.pollOutcome l o).lif.receiver = s.lif.receiver ∧ (s.pollOutcome l o).lif.inbound = s.lif.inbound := by
  unfold State.pollOutcome
  split
  · exact ⟨rfl, rfl⟩
  · cases o with
    | silent =>
      simp only [State.poll, State.pollSilent]
      split <;> simp
    | idle => exact ⟨rfl, rfl⟩
    | badRead => simp [State.poll, State.pollHealthy]
    | read p => simp [State.poll, State.pollHealthy]

@[simp] theorem State.grant_line (s : State) :
    s.grant.lif.receiver = s.lif.receiver ∧ s.grant.lif.inbound = s.lif.inbound := by
  unfold State.grant
  split
  · exact ⟨rfl, rfl⟩
  · split
    · exact ⟨rfl, rfl⟩
    · rename_i r _
      obtain ⟨p, k⟩ := r
      cases k <;> simp [State.evaluate, State.testDecision]

theorem State.LineHeld.happens {s : State} (hs : s.LineHeld) (i : Instr) : (s.happens i).LineHeld := by
  cases i
  case coldReset rate1 rate0 =>
    refine ⟨?_, ?_, ?_⟩ <;>
      simp [State.happens, State.coldReset, State.cold, LineInterface.cold, State.load, State.reserved, Quad.toList]
  case receiveCharacter c => exact hs.examineAll _ _
  case gapTimeout => exact hs.gapTimeout
  case framing => exact ⟨hs.1, hs.2.1, by simp [State.happens, State.framingError, Receiver.hunting]⟩
  case lineBreak => exact ⟨hs.1, hs.2.1, by simp [State.happens, State.lineBreak, Receiver.hunting]⟩
  case shiftingFrameDone => exact hs
  case pollOutcome l o => exact hs.of_load (s.load_pollOutcome l o) (by simp [State.happens]) (by simp [State.happens])
  case grant => exact hs.of_load s.load_grant (by simp [State.happens]) (by simp [State.happens])
  case beamStuckTimerExpiry l beam =>
    simp only [State.happens, State.beamStuckExpiry]
    split
    · exact hs
    · exact hs.of_load (Nat.le_of_eq (State.load_latchFault ..)) (by simp) (by simp)
  case armStuckTimerExpiry l =>
    simp only [State.happens, State.armStuckExpiry]
    split
    · exact hs
    · exact hs.of_load (Nat.le_of_eq (State.load_latchFault ..)) (by simp) (by simp)
  all_goals
    exact hs.of_load (Nat.le_of_eq (State.load_congr (by simp [State.happens]) (by simp [State.happens])))
      (by simp [State.happens]) (by simp [State.happens])

/-! ## The transmitter (R185) -/

/-- R185: the holding frame is filled from the replies first, then from the notices. -/
theorem State.fillHolding_cases (s : State) :
    (s.lif.holding.isSome ∧ s.fillHolding = s) ∨
    (∃ r rest, s.lif.replies = r :: rest ∧
      s.fillHolding = s.setLif { s.lif with holding := some r, replies := rest }) ∨
    (s.lif.replies = [] ∧ ∃ x, s.fillHolding.lif = { s.lif with holding := some x }) ∨
    (s.lif.holding = none ∧ s.lif.replies = [] ∧ s.notices.pending.find? s.notices.eligible = none ∧
      s.fillHolding = s) := by
  unfold State.fillHolding
  cases hhold : s.lif.holding with
  | some x => exact .inl ⟨rfl, rfl⟩
  | none =>
    cases hrep : s.lif.replies with
    | cons r rest => exact .inr (.inl ⟨r, rest, rfl, rfl⟩)
    | nil =>
      cases hfind : s.notices.pending.find? s.notices.eligible with
      | some x => exact .inr (.inr (.inl ⟨rfl, .notice x.key (s.noticeContent x), by simp [hrep]⟩))
      | none => exact .inr (.inr (.inr ⟨rfl, rfl, rfl, by simp⟩))

theorem State.load_fillHolding (s : State) : s.fillHolding.load ≤ s.load := by
  have hae : s.fillHolding.ae = s.ae := by simp
  simp only [State.load, State.reserved, hae]
  obtain ⟨-, h⟩ | ⟨r, rest, hrep, h⟩ | ⟨hrep, x, h⟩ | ⟨-, -, -, h⟩ := s.fillHolding_cases
  · exact Nat.le_of_eq (by rw [h])
  · rw [h, hrep]
    simp
  · exact Nat.le_of_eq (by rw [h])
  · exact Nat.le_of_eq (by rw [h])

theorem State.load_startShifting (s : State) : s.startShifting.load = s.load := by
  refine State.load_congr ?_ (by simp)
  unfold State.startShifting
  split <;> rfl

theorem State.LineHeld.pump {s : State} (hs : s.LineHeld) : s.pump.LineHeld := by
  refine hs.of_load ?_ (by simp) (by simp)
  exact Nat.le_trans (State.load_fillHolding _)
    (Nat.le_trans (Nat.le_of_eq (State.load_startShifting _)) s.load_fillHolding)

/-- The transmitter at rest: nothing waits that could move. -/
def State.Drawn (s : State) : Prop :=
  (s.lif.shifting = none → s.lif.holding = none) ∧
  (s.lif.holding = none → s.lif.replies = [] ∧ s.notices.pending.find? s.notices.eligible = none)

/-- A holding frame left empty by a fill had nothing to take. -/
theorem State.fillHolding_empty {s : State} (h : s.fillHolding.lif.holding = none) :
    s.fillHolding = s ∧ s.lif.replies = [] ∧ s.notices.pending.find? s.notices.eligible = none := by
  obtain ⟨hsome, hfill⟩ | ⟨r, rest, -, hfill⟩ | ⟨-, x, hfill⟩ | ⟨-, hrep, hfind, hfill⟩ := s.fillHolding_cases
  · rw [hfill] at h
    simp [h] at hsome
  · rw [hfill] at h
    simp at h
  · rw [hfill] at h
    simp at h
  · exact ⟨hfill, hrep, hfind⟩

/-- A fill leaves the shifting frame. -/
theorem State.fillHolding_shifting (s : State) : s.fillHolding.lif.shifting = s.lif.shifting := by
  obtain ⟨-, h⟩ | ⟨r, rest, -, h⟩ | ⟨-, x, h⟩ | ⟨-, -, -, h⟩ := s.fillHolding_cases <;> rw [h]
  rfl

/-- R185: after the transmitter's turn nothing waits that could move. -/
theorem State.drawn_pump (s : State) : s.pump.Drawn := by
  constructor
  · intro hshift
    rw [State.pump, State.fillHolding_shifting] at hshift
    cases hs : s.fillHolding.lif.shifting with
    | some x =>
      rw [State.startShifting, hs] at hshift
      exact absurd (hs.symm.trans hshift) (by simp)
    | none =>
      have hstart : s.fillHolding.startShifting =
          s.fillHolding.setLif { s.fillHolding.lif with shifting := s.fillHolding.lif.holding, holding := none } := by
        rw [State.startShifting, hs]
      have hhold : s.fillHolding.lif.holding = none := by
        rw [hstart] at hshift
        exact hshift
      obtain ⟨hsame, hrep, hfind⟩ := State.fillHolding_empty hhold
      rw [State.pump, hstart, hsame]
      rw [hsame] at hhold
      simp [State.fillHolding, hrep, hfind]
  · intro hhold
    obtain ⟨hfill, hrep, hfind⟩ := State.fillHolding_empty hhold
    rw [State.pump, hfill]
    exact ⟨hrep, hfind⟩

/-! ## Every step ends with the line settled -/

/-- The oldest frame taken out of the buffers. -/
theorem State.LineHeld.dropFrame {s : State} (hs : s.LineHeld) {f : InFrame} {rest : List InFrame}
    (hin : s.lif.inbound = f :: rest) : (s.setLif { s.lif with inbound := rest }).LineHeld := by
  obtain ⟨hload, htwo, hgap⟩ := hs
  rw [hin, List.length_cons] at htwo
  exact ⟨hload, by simp; omega, hgap⟩

theorem State.LineHeld.take {s : State} (hs : s.LineHeld) {f : InFrame} {rest : List InFrame}
    (hin : s.lif.inbound = f :: rest) (hroom : s.replyRoom = true) :
    ((s.setLif { s.lif with inbound := rest }).owner (decodeFrame f)).LineHeld := by
  have hload : s.load < 8 := of_decide_eq_true hroom
  have hdropped := hs.dropFrame hin
  rw [← State.load_congr (s := s) (u := s.setLif { s.lif with inbound := rest }) rfl rfl] at hload
  generalize s.setLif { s.lif with inbound := rest } = v at hdropped hload
  exact hdropped.owner hload _

theorem State.LineHeld.settled {s : State} (hs : s.LineHeld) : s.settled.LineHeld :=
  State.settled_induct (P := State.LineHeld) (fun _ h => h.pump) (fun _ _ _ h hin hroom => h.take hin hroom) s hs

/-- A step settles the line of a state that a request, an event or a calculator's step has made. -/
theorem step_settles {s t : State} (h : step s = .next t) :
    ∃ u : State, t = u.settled ∧ (s.LineHeld → u.LineHeld) := by
  unfold step at h
  split at h
  · cases h
    exact ⟨_, rfl, fun hs => hs.of_load (Nat.le_of_eq (State.load_congr (by simp) (by simp))) (by simp) (by simp)⟩
  · rename_i c rest _
    obtain hc | hc | hc := exec_cases c (s.setPending rest) <;> rw [hc] at h
    · by_cases htakes : (s.setPending rest).takes
      · rw [handle_takes htakes] at h
        cases h
        exact ⟨_, rfl, fun hs => State.LineHeld.owner (s := s.setPending rest) hs htakes.2 c⟩
      · rw [handle_waits htakes] at h
        cases h
        exact ⟨_, rfl, fun hs => State.LineHeld.joinRequest (s := s.setPending rest) hs c⟩
    · cases h
      exact ⟨_, rfl, fun hs => State.LineHeld.joinRequest (s := s.setPending rest) hs c⟩
    · cases h
      exact ⟨_, rfl, fun hs => State.LineHeld.happens (s := s.setPending rest) hs c⟩

/-- The parts of `LineKept`. -/
theorem State.lineKept_iff (s : State) : s.LineKept ↔ s.LineHeld ∧ s.Drawn := by
  simp only [State.LineKept, State.LineHeld, State.Drawn, State.load, and_assoc]

theorem lineKept_step : KeptByStep State.LineKept := by
  intro s t hs ht
  obtain ⟨hheld, -⟩ := s.lineKept_iff.mp hs
  obtain ⟨u, rfl, hu⟩ := step_settles ht
  obtain ⟨⟨v, hv⟩, -⟩ := u.settled_quiet
  exact (State.lineKept_iff _).mpr ⟨(hu hheld).settled, hv ▸ v.drawn_pump⟩

theorem handlerKept_step : KeptByStep State.HandlerKept := by
  intro s t _ ht
  obtain ⟨u, rfl, -⟩ := step_settles ht
  obtain ⟨-, hempty | hfull⟩ := u.settled_quiet
  · exact .inl hempty
  · exact .inr (Nat.le_of_not_lt (of_decide_eq_false hfull))

/-- Settles O56: each step settles the line, and each change it makes keeps the counting state. -/
theorem lineAndCountingKeptByEveryStep : Obligations.LineAndCountingKeptByEveryStep :=
  ⟨lineKept_step, handlerKept_step, keptByStep_of_effects fun _ _ hs => hs.effect⟩

end Sys2Proof.Machine
end

section
/-!
PROOFS. The Pass Table: its order, its bounds, and the days-used sets within their windows (R22, R25, R26, R28, R29).
-/

namespace Sys2Proof.Machine

/-! ## The order of the entries (R25) -/

/-- A change that keeps pass numbers keeps the order. -/
theorem PassesOrdered.map {es : List PassEntry} (h : PassesOrdered es) {f : PassEntry → PassEntry}
    (hf : ∀ e, (f e).pass = e.pass) : PassesOrdered (es.map f) := by
  refine List.pairwise_map.mpr (h.imp ?_)
  intro a b hab
  rwa [hf, hf]

theorem PassesOrdered.updateIn {es : List PassEntry} (h : PassesOrdered es) (p : Nat) {f : PassEntry → PassEntry}
    (hf : ∀ e, (f e).pass = e.pass) : PassesOrdered (updateIn p f es) :=
  h.map fun e => by split <;> simp [hf]

theorem mem_insertEntry {x y : PassEntry} {es : List PassEntry} : y ∈ insertEntry x es ↔ y = x ∨ y ∈ es := by
  induction es with
  | nil => simp [insertEntry]
  | cons e es ih =>
    simp only [insertEntry]
    split
    · simp
    · simp only [List.mem_cons, ih, or_left_comm]

/-- A new pass takes the place of its number. -/
theorem PassesOrdered.insertEntry {es : List PassEntry} (h : PassesOrdered es) {x : PassEntry}
    (hx : ∀ e ∈ es, e.pass ≠ x.pass) : PassesOrdered (insertEntry x es) := by
  induction es with
  | nil => simp [PassesOrdered, Machine.insertEntry]
  | cons e es ih =>
    obtain ⟨hall, htail⟩ := List.pairwise_cons.mp h
    simp only [Machine.insertEntry]
    split
    · rename_i hlt
      refine List.pairwise_cons.mpr ⟨?_, h⟩
      intro y hy
      obtain rfl | hy := List.mem_cons.mp hy
      · exact hlt
      · exact Nat.lt_trans hlt (hall y hy)
    · rename_i hlt
      refine List.pairwise_cons.mpr ⟨?_, ih htail fun y hy => hx y (List.mem_cons_of_mem _ hy)⟩
      intro y hy
      obtain rfl | hy := mem_insertEntry.mp hy
      · have hne := hx e List.mem_cons_self
        omega
      · exact hall y hy

/-- In an ordered table each entry is the one found for its pass. -/
theorem PassesOrdered.eq_of_pass {es : List PassEntry} (h : PassesOrdered es) {a b : PassEntry} (ha : a ∈ es)
    (hb : b ∈ es) (hp : a.pass = b.pass) : a = b := by
  have hnodup : (es.map PassEntry.pass).Nodup := List.pairwise_map.mpr (h.imp fun h => Nat.ne_of_lt h)
  exact eq_of_nodup_map hnodup ha hb hp

theorem PassesOrdered.eq_of_findPass {s : State} (h : PassesOrdered s.passes) {p : Nat} {e x : PassEntry}
    (hfind : s.findPass p = some e) (hx : x ∈ s.passes) (hp : x.pass = p) : x = e :=
  h.eq_of_pass hx (State.mem_of_findPass hfind) (hp.trans (State.pass_of_findPass hfind).symm)

theorem State.forall_ne_of_findPass {s : State} {p : Nat} (h : s.findPass p = none) : ∀ e ∈ s.passes, e.pass ≠ p := by
  simpa [State.findPass] using h

theorem mem_updateIn {p : Nat} {f : PassEntry → PassEntry} {es : List PassEntry} {y : PassEntry} :
    y ∈ updateIn p f es ↔ ∃ e ∈ es, (if e.pass = p then f e else e) = y := by
  simp [updateIn]

/-! ## What the property says of one entry -/

/-- R22, R26, R29: the fields, the days-used set and the decision day of an entry whose product has this shape. -/
def PassEntry.Kept (e : PassEntry) (shape : Option (Bool × Nat)) : Prop := e.FieldsKept ∧ e.UsageKept shape

/-- The property in its parts. -/
theorem State.offsetsKept_iff (s : State) :
    s.OffsetsKept ↔ (PassesOrdered s.passes ∧ s.passes.length ≤ 4096) ∧ s.WindowsKept ∧
      ∀ e ∈ s.passes, e.Kept (s.productSlot e.product).shape := by
  constructor
  · rintro ⟨⟨hord, hlen, hfields⟩, hwin, husage⟩
    exact ⟨⟨hord, hlen⟩, hwin, fun e he => ⟨hfields e he, husage e he⟩⟩
  · rintro ⟨⟨hord, hlen⟩, hwin, hall⟩
    exact ⟨⟨hord, hlen, fun e he => (hall e he).1⟩, hwin, fun e he => (hall e he).2⟩

/-- The status and the transfer mark are not spoken of. -/
theorem PassEntry.Kept.of_fields {e f : PassEntry} {shape : Option (Bool × Nat)} (h : e.Kept shape)
    (hpass : f.pass = e.pass := by rfl) (hproduct : f.product = e.product := by rfl)
    (hstart : f.start = e.start := by rfl) (hprice : f.price = e.price := by rfl) (husage : f.usage = e.usage := by rfl)
    (hmarker : f.marker = e.marker := by rfl) : f.Kept shape := by
  simpa only [PassEntry.Kept, PassEntry.FieldsKept, PassEntry.UsageKept, PassEntry.MarkerWithin, hpass, hproduct, hstart,
    hprice, husage, hmarker] using h

/-- An admission that ends leaves nothing to say of the decision day. -/
theorem PassEntry.Kept.unmarked {e : PassEntry} {shape : Option (Bool × Nat)} (h : e.Kept shape) :
    PassEntry.Kept { e with marker := none } shape :=
  ⟨h.1, h.2.1, fun isDays w hw => ⟨(h.2.2 isDays w hw).1, by simp [PassEntry.MarkerWithin]⟩⟩

/-! ## The days-used set (R28, R29) -/

theorem mem_insertOffset {x d : Nat} {ds : List Nat} : d ∈ insertOffset x ds ↔ d = x ∨ d ∈ ds := by
  induction ds with
  | nil => simp [insertOffset]
  | cons y ys ih =>
    simp only [insertOffset]
    (repeat' split)
    · simp
    · rename_i heq
      simp [heq]
    · simp only [List.mem_cons, ih, or_left_comm]

/-- An offset joins in its place. -/
theorem pairwise_insertOffset {x : Nat} {ds : List Nat} (h : ds.Pairwise (· < ·)) :
    (insertOffset x ds).Pairwise (· < ·) := by
  induction ds with
  | nil => simp [insertOffset]
  | cons y ys ih =>
    obtain ⟨hall, htail⟩ := List.pairwise_cons.mp h
    simp only [insertOffset]
    (repeat' split)
    · rename_i hlt
      refine List.pairwise_cons.mpr ⟨?_, h⟩
      intro d hd
      obtain rfl | hd := List.mem_cons.mp hd
      · exact hlt
      · exact Nat.lt_trans hlt (hall d hd)
    · exact h
    · rename_i hlt hne
      refine List.pairwise_cons.mpr ⟨?_, ih htail⟩
      intro d hd
      obtain rfl | hd := mem_insertOffset.mp hd
      · omega
      · exact hall d hd

/-- R22, R29: what is said of a usage part, if there is one. -/
def UsageFits (u : Option Usage) (shape : Option (Bool × Nat)) : Prop :=
  (∀ v, u = some v → v.Ordered) ∧ ∀ isDays w, shape = some (isDays, w) → ∀ v, u = some v → v.Within isDays w

/-- The usage part of an entry replaced, and its marker ended or kept. -/
theorem PassEntry.Kept.with_usage {e f : PassEntry} {shape : Option (Bool × Nat)} (h : e.Kept shape)
    (hu : UsageFits f.usage shape) (hmarker : f.marker = none ∨ f.marker = e.marker) (hpass : f.pass = e.pass := by rfl)
    (hproduct : f.product = e.product := by rfl) (hstart : f.start = e.start := by rfl)
    (hprice : f.price = e.price := by rfl) : f.Kept shape := by
  obtain ⟨hfields, -, hwithin⟩ := h
  refine ⟨?_, hu.1, fun isDays w hw => ⟨hu.2 isDays w hw, ?_⟩⟩
  · rw [PassEntry.FieldsKept, hpass, hproduct, hstart, hprice]
    exact hfields
  · obtain hm | hm := hmarker
    · simp [PassEntry.MarkerWithin, hm]
    · rw [PassEntry.MarkerWithin, hm, hstart]
      exact (hwithin isDays w hw).2

theorem PassEntry.Kept.usageFits {e : PassEntry} {shape : Option (Bool × Nat)} (h : e.Kept shape) :
    UsageFits e.usage shape := ⟨h.2.1, fun isDays w hw => (h.2.2 isDays w hw).1⟩

/-- R41, R42: an item of a merge adds an offset of the window only, and none for SEASON. -/
theorem UsageFits.mergeItem {p : Product} {start : Nat} {t : MergeTotals} (day : Nat)
    (h : UsageFits t.usage (some (p.kind.isDays, p.window))) :
    UsageFits (mergeItem p start t day).usage (some (p.kind.isDays, p.window)) := by
  have hat : UsageFits (some (usageAt t.usage day)) (some (p.kind.isDays, p.window)) := by
    cases hu : t.usage with
    | none =>
      refine ⟨?_, ?_⟩
      · rintro v ⟨⟩
        exact ⟨List.Pairwise.nil, Nat.zero_le _⟩
      · rintro isDays w - v ⟨⟩
        exact ⟨fun _ => rfl, by simp [usageAt]⟩
    | some u =>
      refine ⟨?_, ?_⟩
      · rintro v ⟨⟩
        exact h.1 u hu
      · rintro isDays w hw v ⟨⟩
        exact h.2 isDays w hw u hu
  unfold Machine.mergeItem
  split
  · exact h
  rename_i hin
  dsimp only
  split
  · rename_i hnew
    obtain ⟨hdays, -⟩ := hnew
    have hoffset : day - start < p.window := by
      simp only [inWindow, Bool.not_eq_false, Bool.and_eq_true, decide_eq_true_eq] at hin
      omega
    refine ⟨?_, ?_⟩
    · rintro v ⟨⟩
      exact ⟨pairwise_insertOffset (hat.1 _ rfl).1, (hat.1 _ rfl).2⟩
    · rintro isDays w hw v ⟨⟩
      obtain ⟨rfl, rfl⟩ := Prod.mk.inj (Option.some.inj hw)
      refine ⟨fun hno => absurd hdays (by simp [hno]), ?_⟩
      intro d hd
      obtain rfl | hd := mem_insertOffset.mp hd
      · exact hoffset
      · exact (hat.2 _ _ rfl _ rfl).2 d hd
  · exact hat

theorem UsageFits.foldl_mergeItem {p : Product} {start : Nat} (days : List Nat) {t : MergeTotals}
    (h : UsageFits t.usage (some (p.kind.isDays, p.window))) :
    UsageFits (days.foldl (Machine.mergeItem p start) t).usage (some (p.kind.isDays, p.window)) := by
  induction days generalizing t with
  | nil => exact h
  | cons d ds ih => exact ih (h.mergeItem d)

/-- The shape of a slot with a record. -/
theorem State.shape_of_product {s : State} {code : Nat} {p : Product} (h : s.product? code = some p) :
    (s.productSlot code).shape = some (p.kind.isDays, p.window) := by
  rw [State.product?] at h
  simp [ProductSlot.shape, h]

theorem PassEntry.Kept.mergeDays {s : State} {e : PassEntry} (h : e.Kept (s.productSlot e.product).shape)
    (days : List Nat) : UsageFits (s.mergeDays e days).usage (s.productSlot e.product).shape := by
  cases hp : s.product? e.product with
  | none =>
    simp only [State.mergeDays, hp]
    exact h.usageFits
  | some p =>
    simp only [State.mergeDays, hp]
    rw [State.shape_of_product hp] at h ⊢
    exact UsageFits.foldl_mergeItem days h.usageFits

/-- R100: a commit adds the decision day's offset to the set of a present DAYS product. -/
theorem PassEntry.Kept.commitUsage {s : State} {e : PassEntry} {m : AdmissionMarker}
    (h : e.Kept (s.productSlot e.product).shape) (hm : e.marker = some m) (passage : Passage) :
    UsageFits (some (Machine.commitUsage (e.usageForCommit m.day) m.day (m.day - e.start)
      (isNewDay (s.allowance e) (e.usageForCommit m.day).days (m.day - e.start)) passage))
      (s.productSlot e.product).shape := by
  have hfound : UsageFits (some (e.usageForCommit m.day)) (s.productSlot e.product).shape := by
    cases hu : e.usage with
    | none =>
      refine ⟨?_, ?_⟩
      · rintro v ⟨⟩
        simp [PassEntry.usageForCommit, hu, Usage.Ordered]
      · rintro isDays w - v ⟨⟩
        simp [PassEntry.usageForCommit, hu, Usage.Within]
    | some u =>
      simp only [PassEntry.usageForCommit, hu, Option.getD_some]
      rw [← hu]
      exact h.usageFits
  obtain ⟨hordered, hwithin⟩ := hfound
  generalize e.usageForCommit m.day = u at hordered hwithin
  refine ⟨?_, ?_⟩
  · rintro v ⟨⟩
    refine ⟨?_, Nat.min_le_left _ _⟩
    simp only [Machine.commitUsage]
    split
    · exact pairwise_insertOffset (hordered u rfl).1
    · exact (hordered u rfl).1
  · rintro isDays w hw v ⟨⟩
    obtain ⟨hseason, hdays⟩ := hwithin isDays w hw u rfl
    obtain ⟨hfrom, hto⟩ := (h.2.2 isDays w hw).2 m hm
    simp only [Machine.commitUsage]
    split
    · rename_i hnew
      have hkind : isDays = true := by
        cases hp : s.product? e.product with
        | none => simp [State.allowance, State.lookupDays, hp, isNewDay] at hnew
        | some p =>
          rw [State.shape_of_product hp] at hw
          cases hk : p.kind <;> simp_all [State.allowance, State.lookupDays, isNewDay, ProductKind.isDays]
      refine ⟨fun hno => absurd hkind (by simp [hno]), ?_⟩
      intro d hd
      obtain rfl | hd := mem_insertOffset.mp hd
      · omega
      · exact hdays d hd
    · exact ⟨hseason, hdays⟩

/-! ## What keeps the property -/

/-- The property reads the Pass Table and the Tariff Table only. -/
theorem State.OffsetsKept.congr {s u : State} (hs : s.OffsetsKept) (hpasses : u.passes = s.passes)
    (htariff : u.tariff = s.tariff) : u.OffsetsKept := by
  have hslot : ∀ c, u.productSlot c = s.productSlot c := fun c => by rw [State.productSlot, htariff]; rfl
  rw [State.offsetsKept_iff] at hs ⊢
  simp only [State.WindowsKept, State.product?, hslot, hpasses]
  exact hs

/-- The Pass Table replaced by an ordered one of no more entries than there is room for, each of them kept. -/
theorem State.OffsetsKept.of_passes {s u : State} (hs : s.OffsetsKept) (htariff : u.tariff = s.tariff)
    (hord : PassesOrdered u.passes) (hlen : u.passes.length ≤ 4096)
    (hall : ∀ e ∈ u.passes, e.Kept (s.productSlot e.product).shape) : u.OffsetsKept := by
  have hslot : ∀ c, u.productSlot c = s.productSlot c := fun c => by rw [State.productSlot, htariff]; rfl
  obtain ⟨-, hwin, -⟩ := s.offsetsKept_iff.mp hs
  rw [State.offsetsKept_iff]
  simp only [State.WindowsKept, State.product?, hslot]
  exact ⟨⟨hord, hlen⟩, hwin, hall⟩

/-- One pass's entry changed within what is said of it. -/
theorem State.OffsetsKept.updateIn {s u : State} (hs : s.OffsetsKept) {p : Nat} {f : PassEntry → PassEntry}
    (hpasses : u.passes = updateIn p f s.passes) (htariff : u.tariff = s.tariff) (hf : ∀ e, (f e).pass = e.pass)
    (hkept : ∀ e ∈ s.passes, e.pass = p → e.Kept (s.productSlot e.product).shape →
      (f e).Kept (s.productSlot (f e).product).shape) : u.OffsetsKept := by
  obtain ⟨⟨hord, hlen⟩, -, hall⟩ := s.offsetsKept_iff.mp hs
  refine hs.of_passes htariff ?_ ?_ ?_
  · rw [hpasses]
    exact hord.updateIn p hf
  · simpa [hpasses] using hlen
  · intro y hy
    rw [hpasses, mem_updateIn] at hy
    obtain ⟨e, he, rfl⟩ := hy
    split
    · rename_i hp
      exact hkept e he hp (hall e he)
    · exact hall e he

/-- Entries leave the table. -/
theorem State.OffsetsKept.filter {s u : State} (hs : s.OffsetsKept) {f : PassEntry → Bool}
    (hpasses : u.passes = s.passes.filter f) (htariff : u.tariff = s.tariff) : u.OffsetsKept := by
  obtain ⟨⟨hord, hlen⟩, -, hall⟩ := s.offsetsKept_iff.mp hs
  refine hs.of_passes htariff ?_ ?_ ?_
  · rw [hpasses]
    exact hord.filter _
  · rw [hpasses]
    exact Nat.le_trans (List.length_filter_le _ _) hlen
  · intro e he
    rw [hpasses] at he
    exact hall e ((List.mem_filter.mp he).1)

/-- A status set leaves what is said of its entry. -/
theorem State.OffsetsKept.status {s u : State} (hs : s.OffsetsKept) {p : Nat} {st : PassStatus}
    (hpasses : u.passes = Machine.updateIn p (fun e => { e with status := st }) s.passes) (htariff : u.tariff = s.tariff) :
    u.OffsetsKept :=
  hs.updateIn hpasses htariff (fun _ => rfl) fun _ _ _ h => h.of_fields

theorem State.OffsetsKept.lapse {s : State} (hs : s.OffsetsKept) (l : LaneId) (r : LapseReason) :
    (s.lapse l r).OffsetsKept := by
  cases hp : s.pendingPass l with
  | none =>
    rw [State.lapse_of_none hp]
    exact hs
  | some p => exact hs.updateIn (State.lapse_of_some hp r).1 (by simp) (fun _ => rfl) fun _ _ _ h => h.unmarked

theorem State.OffsetsKept.lapseAll {s : State} (hs : s.OffsetsKept) (r : LapseReason) : (s.lapseAll r).OffsetsKept :=
  (((hs.lapse 0 r).lapse 1 r).lapse 2 r).lapse 3 r

theorem State.OffsetsKept.dropTo {s : State} (hs : s.OffsetsKept) (k : SlotId) (p : Nat) (r : DropReason)
    (next : SlotState) : (s.dropTo k p r next).OffsetsKept :=
  hs.status (s.dropTo_spec k p r next).1 (by simp)

theorem State.OffsetsKept.dropQuote {s : State} (hs : s.OffsetsKept) (k : SlotId) (r : DropReason) :
    (s.dropQuote k r).OffsetsKept := by
  unfold State.dropQuote
  split
  · exact hs.dropTo ..
  · exact hs.dropTo ..
  · exact hs.dropTo ..
  · exact hs
  · exact hs

theorem State.OffsetsKept.restartSlot {s : State} (hs : s.OffsetsKept) (k : SlotId) : (s.restartSlot k).OffsetsKept := by
  unfold State.restartSlot
  split
  · exact hs.dropTo ..
  · exact hs.dropTo ..
  · exact hs.dropTo ..
  · exact hs
  · exact hs

/-! ## Products (R18, R20, R24) -/

/-- A product slot replaced: every slot reads the new one or its own. -/
theorem State.productSlot_setProductSlot_or (s : State) (c d : Nat) (x : ProductSlot) :
    (s.setProductSlot c x).productSlot d = x ∨ (s.setProductSlot c x).productSlot d = s.productSlot d := by
  simp only [State.productSlot, State.setProductSlot, State.setTariff_tariff, Vector.getElem?_setIfInBounds]
  split
  · split
    · exact .inl rfl
    · rename_i hbound
      exact .inr (by rw [Vector.getElem?_eq_none (by omega)])
  · exact .inr rfl

/-- A product slot is replaced by one of the same shape, or no pass entry names it. -/
theorem State.OffsetsKept.setProductSlot {s : State} (hs : s.OffsetsKept) {code : Nat} {x : ProductSlot}
    (hcode : legalCode code = true) (hwindow : ∀ p, x.record = some p → 1 ≤ p.window)
    (hshape : (∃ e ∈ s.passes, e.product = code) → x.shape = (s.productSlot code).shape) :
    (s.setProductSlot code x).OffsetsKept := by
  obtain ⟨htable, hwin, hall⟩ := s.offsetsKept_iff.mp hs
  refine (State.offsetsKept_iff _).mpr ⟨htable, ?_, ?_⟩
  · intro c p hp
    rw [State.product?] at hp
    obtain h | h := s.productSlot_setProductSlot_or code c x <;> rw [h] at hp
    · exact hwindow p hp
    · exact hwin c p hp
  · intro e he
    have hlegal : legalCode e.product = true := by
      obtain ⟨-, ⟨h1, h2⟩, -⟩ := (hall e he).1
      simp [legalCode, h1, h2]
    rw [State.productSlot_setProductSlot s x code e.product hcode hlegal]
    split
    · rename_i heq
      rw [hshape ⟨e, he, heq⟩, ← heq]
      exact hall e he
    · exact hall e he

/-- The window of a product of legal fields has at least one day (R19). -/
theorem window_of_productOf {f : ProductFields} {p : Product} (h : productOf f = some p) : 1 ≤ p.window := by
  obtain ⟨hkind, hw, -⟩ := (productOf_eq_some_iff f p).mp h
  obtain ⟨-, -, h1, -, h2, -⟩ | ⟨-, -, -, h1, -⟩ := hkind <;> omega

/-! ## Records (R33, R34, R35) -/

/-- The fields of a record that is taken lie in the ranges of Table 2.3. -/
theorem State.fieldsKept_of_recordStatus {s : State} {r : PassRecord} {st : PassStatus}
    (h : s.recordStatus? r = some st) {e : PassEntry} (hpass : e.pass = r.pass.toNat)
    (hproduct : e.product = r.product.toNat) (hstart : e.start = r.start.toNat) (hprice : e.price = r.price.toNat) :
    e.FieldsKept := by
  obtain ⟨hp, hc, -, hs, -⟩ := (s.recordStatus?_eq_some_iff r st).mp h
  rw [PassEntry.FieldsKept, hpass, hproduct, hstart, hprice]
  exact ⟨hp, hc, hs, Nat.le_of_lt_succ r.price.isLt⟩

theorem State.OffsetsKept.addPass {s : State} (hs : s.OffsetsKept) {r : PassRecord} {st : PassStatus}
    (hr : s.recordStatus? r = some st) (hfind : s.findPass r.pass.toNat = none) (hroom : s.passes.length < 4096) :
    (s.addPass r st).OffsetsKept := by
  obtain ⟨⟨hord, -⟩, -, hall⟩ := s.offsetsKept_iff.mp hs
  refine hs.of_passes rfl ?_ ?_ ?_
  · exact hord.insertEntry (State.forall_ne_of_findPass hfind)
  · have hlen : (s.addPass r st).passes.length = s.passes.length + 1 := by simp [State.addPass]
    exact hlen ▸ Nat.succ_le_of_lt hroom
  · intro e he
    obtain rfl | he := mem_insertEntry.mp he
    · exact ⟨State.fieldsKept_of_recordStatus hr rfl rfl rfl rfl, by simp [newEntry],
        fun _ _ _ => ⟨by simp [newEntry], by simp [newEntry, PassEntry.MarkerWithin]⟩⟩
    · exact hall e he

/-- R35: a usage part is kept only with the same product and window start day. -/
theorem State.OffsetsKept.rewritePass {s : State} (hs : s.OffsetsKept) {r : PassRecord} {st : PassStatus} {e : PassEntry}
    (hr : s.recordStatus? r = some st) (hfind : s.findPass r.pass.toNat = some e) (hmarker : e.marker = none) :
    (s.rewritePass r st).OffsetsKept := by
  obtain ⟨⟨hord, -⟩, -, -⟩ := s.offsetsKept_iff.mp hs
  refine hs.updateIn rfl rfl (fun _ => rfl) ?_
  intro x hx hp hkept
  obtain rfl := hord.eq_of_findPass hfind hx hp
  refine ⟨State.fieldsKept_of_recordStatus hr hp rfl rfl rfl, ?_⟩
  have hunmarked : ∀ w, (x.rewrite r st).MarkerWithin w := by simp [PassEntry.MarkerWithin, PassEntry.rewrite, hmarker]
  by_cases hsame : x.sameWindow r = true
  · have hproduct : (x.rewrite r st).product = x.product := by
      simp only [PassEntry.sameWindow, Bool.and_eq_true, beq_iff_eq] at hsame
      exact hsame.1.symm
    have husage : (x.rewrite r st).usage = x.usage := by simp [PassEntry.rewrite, hsame]
    rw [PassEntry.UsageKept, husage, hproduct]
    exact ⟨hkept.2.1, fun isDays w hw => ⟨(hkept.2.2 isDays w hw).1, hunmarked w⟩⟩
  · have husage : (x.rewrite r st).usage = none := by simp [PassEntry.rewrite, hsame]
    rw [PassEntry.UsageKept, husage]
    exact ⟨by simp, fun isDays w hw => ⟨by simp, hunmarked w⟩⟩

/-! ## Admissions (R92, R99) -/

/-- R92: an admitted pass has a present product, and today lies in its window. -/
theorem State.today_of_admitted {s : State} {p : Nat} (hwin : s.WindowsKept) (h : s.decisionOn p = .admitted) :
    ∃ e q, s.findPass p = some e ∧ s.product? e.product = some q ∧ e.start ≤ s.today ∧ s.today < e.start + q.window := by
  cases hfind : s.findPass p with
  | none =>
    exfalso
    unfold State.decisionOn at h
    split at h <;> simp [State.passCause, hfind] at h
  | some e =>
    cases hq : s.product? e.product with
    | none =>
      exfalso
      unfold State.decisionOn at h
      split at h <;> simp [State.passCause, hfind, hq] at h
    | some q =>
      have hwindow := hwin e.product q hq
      have hcause : s.entryCause e q = none := by
        unfold State.decisionOn at h
        simp only [State.passCause, hfind, hq] at h
        split at h
        · simp at h
        · split at h
          · simp at h
          · assumption
      refine ⟨e, q, rfl, hq, ?_⟩
      unfold State.entryCause at hcause
      split at hcause
      · simp at hcause
      · (repeat' split at hcause) <;> simp at hcause
        rename_i hyet hexpired _ _ _
        omega

theorem State.OffsetsKept.admission {s : State} (hs : s.OffsetsKept) {l : LaneId} {p : Nat}
    (hd : s.decisionOn p = .admitted) : ((s.leaveSet l).admitPass l p).OffsetsKept := by
  obtain ⟨⟨hord, -⟩, hwin, -⟩ := s.offsetsKept_iff.mp hs
  obtain ⟨e, q, hfind, hq, hfrom, hto⟩ := State.today_of_admitted hwin hd
  refine hs.updateIn (p := p) (f := fun e => { e with marker := some { lane := l, day := s.today } }) ?_ ?_
    (fun _ => rfl) ?_
  · rfl
  · simp
  · intro x hx hp hkept
    obtain rfl := hord.eq_of_findPass hfind hx hp
    refine ⟨hkept.1, hkept.2.1, fun isDays w hw => ⟨(hkept.2.2 isDays w hw).1, ?_⟩⟩
    rw [State.shape_of_product hq] at hw
    obtain ⟨-, rfl⟩ := Prod.mk.inj (Option.some.inj hw)
    rintro m ⟨⟩
    exact ⟨hfrom, hto⟩

/-- The admission pending at a lane is an entry's with a marker. -/
theorem State.pendingEntry_eq_some {s : State} {l : LaneId} {e : PassEntry} {m : AdmissionMarker}
    (h : s.pendingEntry l = some (e, m)) : ∃ p, s.pendingPass l = some p ∧ s.findPass p = some e ∧ e.marker = some m := by
  unfold State.pendingEntry at h
  split at h
  · simp at h
  · rename_i p hp
    split at h
    · simp at h
    · rename_i x hx
      obtain ⟨y, hy, heq⟩ := Option.map_eq_some_iff.mp h
      obtain ⟨rfl, rfl⟩ := Prod.mk.inj heq
      exact ⟨p, hp, hx, hy⟩

/-- R100: the usage part a commit leaves. -/
def State.committedUsage (s : State) (l : LaneId) (e : PassEntry) (m : AdmissionMarker) : Usage :=
  Machine.commitUsage (e.usageForCommit m.day) m.day (m.day - e.start)
    (isNewDay (s.allowance e) (e.usageForCommit m.day).days (m.day - e.start)) { stamp := s.stamp, lane := l }

/-- What a commit makes of the Pass Table. -/
theorem State.commitEntry_passes (s : State) (l : LaneId) (e : PassEntry) (m : AdmissionMarker) :
    (s.commitEntry l e m).passes =
      Machine.updateIn e.pass (fun x => { x with marker := none, usage := some (s.committedUsage l e m) }) s.passes := by
  simp [State.commitEntry, State.committedUsage]

theorem State.OffsetsKept.commitEntry {s : State} (hs : s.OffsetsKept) {l : LaneId} {e : PassEntry} {m : AdmissionMarker}
    (h : s.pendingEntry l = some (e, m)) : (s.commitEntry l e m).OffsetsKept := by
  obtain ⟨⟨hord, -⟩, -, -⟩ := s.offsetsKept_iff.mp hs
  obtain ⟨p, -, hfind, hm⟩ := State.pendingEntry_eq_some h
  have hpass := State.pass_of_findPass hfind
  refine hs.updateIn (s.commitEntry_passes l e m) (by simp) (fun _ => rfl) ?_
  intro x hx hp hkept
  obtain rfl := hord.eq_of_findPass hfind hx (hp.trans hpass)
  exact hkept.with_usage (hkept.commitUsage hm _) (.inl rfl)

/-! ## Every change -/

/-- Every change of the state keeps the Pass Table. -/
theorem State.OffsetsKept.effect {s u : State} (hs : s.OffsetsKept) (h : Effect s u) : u.OffsetsKept := by
  cases h
  case shut r reason _ => exact State.OffsetsKept.lapseAll (s := s.setRcc r) hs reason
  case shutLift r v reason _ =>
    exact State.OffsetsKept.lapseAll (s := (s.setRcc r).writeRecord (.lift v)) (hs.congr (by simp) (by simp)) reason
  case putProduct code f p _ hcode hp hshape =>
    refine hs.setProductSlot hcode (fun q hq => ?_) ?_
    · obtain rfl := Option.some.inj hq
      exact window_of_productOf hp
    · rintro ⟨e, he, heq⟩
      have hnamed : s.productNamed code = true := by
        simp only [State.productNamed, List.any_eq_true, beq_iff_eq]
        exact ⟨e, he, heq⟩
      have hsame : (s.productSlot code).shape = some (p.kind.isDays, p.window) := by
        simpa [State.changesShape, hnamed] using hshape
      exact hsame.symm
  case clearProduct code _ hcode => exact hs.setProductSlot hcode (by simp) fun _ => rfl
  case addPass r st hr hfind hroom => exact hs.addPass hr hfind hroom
  case rewritePass r st e hr hfind hmarker _ => exact hs.rewritePass hr hfind hmarker
  case markPass p => exact hs.updateIn rfl rfl (fun _ => rfl) fun _ _ _ h => h.of_fields
  case clearMarks =>
    obtain ⟨⟨hord, hlen⟩, -, hall⟩ := s.offsetsKept_iff.mp hs
    refine hs.of_passes rfl (hord.map fun _ => rfl) (by simpa [clearMarks] using hlen) ?_
    intro y hy
    obtain ⟨e, he, rfl⟩ := List.mem_map.mp hy
    exact (hall e he).of_fields
  case setStatus p st e _ _ _ => exact hs.status rfl rfl
  case removePass p e _ _ _ => exact hs.filter rfl rfl
  case sweep => exact hs.filter rfl rfl
  case merge e days hfind =>
    obtain ⟨⟨hord, -⟩, -, -⟩ := s.offsetsKept_iff.mp hs
    refine hs.updateIn rfl rfl (fun _ => rfl) ?_
    intro x hx hp hkept
    obtain rfl := hord.eq_of_findPass hfind hx hp
    exact hkept.with_usage (hkept.mergeDays days) (.inr rfl)
  case fault l f x _ =>
    have hlatched : ((s.setLane l ((s.lane l).latch f)).writeRecord (.fault l x)).OffsetsKept :=
      hs.congr (by simp) (by simp)
    generalize (s.setLane l ((s.lane l).latch f)).writeRecord (.fault l x) = v at hlatched
    exact (State.OffsetsKept.lapse (s := v.setLane l { v.lane l with display := none }) hlatched l .fault).congr
      (by simp [State.enterFault]) (by simp [State.enterFault])
  case lock l =>
    exact (State.OffsetsKept.lapse (s := s.setLane l { s.lane l with armOverride := .lock }) hs l .locked).congr
      (by simp) (by simp)
  case lapse l reason => exact hs.lapse l reason
  case admission l p _ hd => exact hs.admission hd
  case commit l e m _ h => exact (hs.commitEntry h).congr (by simp) (by simp)
  case accept k p src _ _ => exact hs.status (p := p) (st := .refundHold k) (by simp [State.acceptQuote]) (by simp)
  case drop k reason => exact hs.dropQuote k reason
  case restartQuotes => exact (((hs.restartSlot 0).restartSlot 1).restartSlot 2).restartSlot 3
  case settle k items i snap r expiry _ _ _ =>
    exact hs.status (p := items.pass) (st := .refunded) (by simp [State.settle]) (by simp)
  case cold rate1 rate0 =>
    refine (State.offsetsKept_iff _).mpr ⟨⟨List.Pairwise.nil, Nat.zero_le _⟩, ?_, fun e he => absurd he (List.not_mem_nil)⟩
    intro code p hp
    have hempty : (s.coldReset rate1 rate0).product? code = none := by
      simp only [State.product?, State.productSlot]
      rw [show (s.coldReset rate1 rate0).tariff = Vector.replicate 63 ProductSlot.empty from rfl,
        Vector.getElem?_replicate]
      split <;> rfl
    exact absurd (hp.symm.trans hempty) (by simp)
  all_goals exact hs.congr (by simp) (by simp)

/-- Settles O54: each change a step makes keeps the order, the bounds and the windows. -/
theorem passTableKeptByEveryStep : Obligations.PassTableKeptByEveryStep :=
  keptByStep_of_effects fun _ _ hs => hs.effect

end Sys2Proof.Machine
end

section
/-!
PROOFS. Pending admissions: passback entries, admission markers and UNLOCKED lanes in correspondence (R30, R64, R67, R77,
R106).
-/

namespace Sys2Proof.Machine

/-! ## The invariant in three parts -/

/-- R30, R106: what the Pass Table and the Passback List say of each other. -/
structure State.AdmissionTables (s : State) : Prop where
  ordered : PassesOrdered s.passes
  room : s.pbl.entries.length ≤ 256
  once : (s.pbl.entries.map PassbackEntry.pass).Nodup
  marked : ∀ p l, s.pendingAt p l ↔ s.markedAt p l
  single : ∀ p q l, s.pendingAt p l → s.pendingAt q l → p = q
  held : ∀ e ∈ s.passes, e.marker.isSome → e.isHeld = false

/-- R64, R77: the lane would be UNLOCKED with an admission pending. -/
def State.OpenAt (s : State) (l : LaneId) : Prop :=
  (s.lane l).role = .gate ∧ (s.lane l).latches.any = false ∧ (s.lane l).armOverride ≠ .lock ∧
  s.closedCondition = false ∧ s.ae.waiting.get l = none ∧ (s.lane l).unlockTimer.isSome

/-- R64, R77: every lane with an admission pending is open. -/
def State.PendingOpen (s : State) : Prop := ∀ p l, s.pendingAt p l → s.OpenAt l

theorem State.pendingAt_of_pendingPass {s : State} {l : LaneId} {p : Nat} (h : s.pendingPass l = some p) :
    s.pendingAt p l := by
  obtain ⟨x, hx, rfl⟩ := Option.map_eq_some_iff.mp h
  obtain ⟨q, phase⟩ := x
  have hphase : phase = .pending l := by simpa using List.find?_some hx
  rw [State.pendingAt, ← hphase]
  exact List.mem_of_find?_eq_some hx

theorem State.pendingPass_eq_none_iff (s : State) (l : LaneId) : s.pendingPass l = none ↔ ∀ p, ¬ s.pendingAt p l := by
  constructor
  · intro h p hp
    have hnone : s.pbl.entries.find? (fun e => e.phase == .pending l) = none := Option.map_eq_none_iff.mp h
    simpa using List.find?_eq_none.mp hnone _ hp
  · intro h
    cases hp : s.pendingPass l with
    | none => rfl
    | some p => exact absurd (State.pendingAt_of_pendingPass hp) (h p)

theorem State.pendingPass_isSome {s : State} {l : LaneId} {p : Nat} (h : s.pendingAt p l) : (s.pendingPass l).isSome := by
  cases hp : s.pendingPass l with
  | none => exact absurd h ((s.pendingPass_eq_none_iff l).mp hp p)
  | some q => rfl

/-- R64: a GATE lane with an admission pending and no latch set is UNLOCKED, and no other is. -/
theorem State.unlockedAt_iff {s : State} {l : LaneId} {p : Nat} (h : s.pendingAt p l) : s.UnlockedAt l ↔ s.OpenAt l := by
  have hsome := State.pendingPass_isSome h
  have hstate : s.laneState l = .unlocked ↔ (s.lane l).role = .gate ∧ (s.lane l).latches.any = false := by
    unfold State.laneState
    cases hrole : (s.lane l).role <;> cases hlatch : (s.lane l).latches.any <;> simp [hsome]
    split
    · simp
    · split <;> simp
    split
    · simp
    · split <;> simp
  have hwait : s.isWaiting l = false ↔ s.ae.waiting.get l = none := by
    simp [State.isWaiting]
  rw [State.UnlockedAt, State.OpenAt, hstate, hwait]
  grind

theorem State.admissionsKept_iff (s : State) :
    s.AdmissionsKept ↔ s.AdmissionTables ∧ s.PendingOpen ∧ s.GateRequestsKept := by
  constructor
  · rintro ⟨h1, h2, h3, h4, h5, h6, h7, h8⟩
    exact ⟨⟨h1, h2, h3, h4, h5, h8⟩, fun p l h => (State.unlockedAt_iff h).mp (h6 p l h), h7⟩
  · rintro ⟨⟨h1, h2, h3, h4, h5, h8⟩, h6, h7⟩
    exact ⟨h1, h2, h3, h4, h5, fun p l h => (State.unlockedAt_iff h).mpr (h6 p l h), h7, h8⟩

/-! ## The tables (R30, R106) -/

/-- Pending admissions are read off the Passback List. -/
theorem State.pendingAt_congr {s u : State} (h : u.pbl.entries = s.pbl.entries) (p : Nat) (l : LaneId) :
    u.pendingAt p l ↔ s.pendingAt p l := by
  rw [State.pendingAt, h]
  rfl

/-- A change of entries that keeps pass numbers and markers keeps who is marked. -/
theorem State.markedAt_map {s u : State} {f : PassEntry → PassEntry} (h : u.passes = s.passes.map f)
    (hf : ∀ e ∈ s.passes, (f e).pass = e.pass ∧ (f e).marker = e.marker) (p : Nat) (l : LaneId) :
    u.markedAt p l ↔ s.markedAt p l := by
  constructor
  · rintro ⟨y, hy, hp, hm⟩
    rw [h] at hy
    obtain ⟨e, he, rfl⟩ := List.mem_map.mp hy
    obtain ⟨hpass, hmarker⟩ := hf e he
    exact ⟨e, he, hpass ▸ hp, hmarker ▸ hm⟩
  · rintro ⟨e, he, hp, hm⟩
    obtain ⟨hpass, hmarker⟩ := hf e he
    exact ⟨f e, h ▸ List.mem_map_of_mem he, hpass.trans hp, hmarker.symm ▸ hm⟩

/-- The Pass Table replaced with the same passes marked. -/
theorem State.AdmissionTables.of_passes {s u : State} (hs : s.AdmissionTables) (hpbl : u.pbl.entries = s.pbl.entries)
    (hord : PassesOrdered u.passes) (hmarked : ∀ p l, u.markedAt p l ↔ s.markedAt p l)
    (hheld : ∀ e ∈ u.passes, e.marker.isSome → e.isHeld = false) : u.AdmissionTables where
  ordered := hord
  room := hpbl ▸ hs.room
  once := hpbl ▸ hs.once
  marked p l := by rw [State.pendingAt_congr hpbl, hs.marked, hmarked]
  single p q l hp hq := hs.single p q l ((State.pendingAt_congr hpbl p l).mp hp) ((State.pendingAt_congr hpbl q l).mp hq)
  held := hheld

/-- The two tables unchanged. -/
theorem State.AdmissionTables.congr {s u : State} (hs : s.AdmissionTables) (hpbl : u.pbl.entries = s.pbl.entries)
    (hpasses : u.passes = s.passes) : u.AdmissionTables :=
  hs.of_passes hpbl (hpasses ▸ hs.ordered) (fun p l => by rw [State.markedAt, hpasses]; rfl) (hpasses ▸ hs.held)

/-- Entries changed one by one, their pass numbers and markers kept, and no marked one held afterwards. -/
theorem State.AdmissionTables.map {s u : State} (hs : s.AdmissionTables) {f : PassEntry → PassEntry}
    (hpasses : u.passes = s.passes.map f) (hpbl : u.pbl.entries = s.pbl.entries) (hpass : ∀ e, (f e).pass = e.pass)
    (hmarker : ∀ e, (f e).marker = e.marker)
    (hheld : ∀ e ∈ s.passes, e.marker.isSome → e.isHeld = false → (f e).isHeld = false) : u.AdmissionTables := by
  refine hs.of_passes hpbl ?_ (State.markedAt_map hpasses fun e _ => ⟨hpass e, hmarker e⟩) ?_
  · rw [hpasses]
    exact hs.ordered.map hpass
  · rw [hpasses]
    intro y hy hm
    obtain ⟨e, he, rfl⟩ := List.mem_map.mp hy
    rw [hmarker] at hm
    exact hheld e he hm (hs.held e he hm)

/-- The same for a change of one pass's entry. -/
theorem State.AdmissionTables.updateIn {s u : State} (hs : s.AdmissionTables) {p : Nat} {f : PassEntry → PassEntry}
    (hpasses : u.passes = updateIn p f s.passes) (hpbl : u.pbl.entries = s.pbl.entries)
    (hpass : ∀ e, (f e).pass = e.pass) (hmarker : ∀ e, (f e).marker = e.marker)
    (hheld : ∀ e ∈ s.passes, e.pass = p → e.marker.isSome → e.isHeld = false → (f e).isHeld = false) :
    u.AdmissionTables := by
  refine hs.map (f := fun e => if e.pass = p then f e else e) hpasses hpbl ?_ ?_ ?_
  · intro e
    split <;> simp [hpass]
  · intro e
    split <;> simp [hmarker]
  · intro e he hm h
    split
    · rename_i hp
      exact hheld e he hp hm h
    · exact h

/-- Entries without a marker leave the table. -/
theorem State.AdmissionTables.filter {s u : State} (hs : s.AdmissionTables) {f : PassEntry → Bool}
    (hpasses : u.passes = s.passes.filter f) (hpbl : u.pbl.entries = s.pbl.entries)
    (hf : ∀ e ∈ s.passes, e.marker.isSome → f e = true) : u.AdmissionTables := by
  refine hs.of_passes hpbl ?_ ?_ ?_
  · rw [hpasses]
    exact hs.ordered.filter _
  · intro p l
    constructor
    · rintro ⟨e, he, h⟩
      rw [hpasses] at he
      exact ⟨e, (List.mem_filter.mp he).1, h⟩
    · rintro ⟨e, he, hp, m, hm, hl⟩
      exact ⟨e, hpasses ▸ List.mem_filter.mpr ⟨he, hf e he (by simp [hm])⟩, hp, m, hm, hl⟩
  · intro e he
    rw [hpasses] at he
    exact hs.held e ((List.mem_filter.mp he).1)

/-- A status other than REFUND_HOLD set. -/
theorem State.AdmissionTables.status {s u : State} (hs : s.AdmissionTables) {p : Nat} {st : PassStatus}
    (hpasses : u.passes = Machine.updateIn p (fun e => { e with status := st }) s.passes)
    (hpbl : u.pbl.entries = s.pbl.entries) (hst : ∀ k, st ≠ .refundHold k) : u.AdmissionTables := by
  refine hs.updateIn hpasses hpbl (fun _ => rfl) (fun _ => rfl) fun _ _ _ _ _ => ?_
  cases st <;> simp_all [PassEntry.isHeld]

/-! ## Ends of admissions (R103, R101) -/

/-- R103: what is pending after a lapse at a lane. -/
theorem State.pendingAt_lapse (s : State) (l : LaneId) (r : LapseReason) (p : Nat) (k : LaneId) :
    (s.lapse l r).pendingAt p k ↔ s.pendingAt p k ∧ k ≠ l := by
  cases hp : s.pendingPass l with
  | none =>
    rw [State.lapse_of_none hp]
    constructor
    · intro h
      refine ⟨h, ?_⟩
      rintro rfl
      exact (s.pendingPass_eq_none_iff k).mp hp p h
    · exact And.left
  | some q =>
    rw [State.pendingAt, (State.lapse_of_some hp r).2.1]
    simp [State.pendingAt]

/-- One pass's entry loses its marker: who is marked afterwards. -/
theorem State.markedAt_unmark {s u : State} {p : Nat} {f : PassEntry → PassEntry}
    (hpasses : u.passes = updateIn p f s.passes) (hf : ∀ e, (f e).pass = e.pass ∧ (f e).marker = none) (q : Nat)
    (k : LaneId) : u.markedAt q k ↔ s.markedAt q k ∧ q ≠ p := by
  constructor
  · rintro ⟨y, hy, hq, m, hm, hk⟩
    rw [hpasses, mem_updateIn] at hy
    obtain ⟨e, he, rfl⟩ := hy
    split at hm
    · rw [(hf e).2] at hm
      simp at hm
    · rename_i hne
      rw [if_neg hne] at hq
      exact ⟨⟨e, he, hq, m, hm, hk⟩, hq ▸ hne⟩
  · rintro ⟨⟨e, he, hq, m, hm, hk⟩, hne⟩
    refine ⟨e, ?_, hq, m, hm, hk⟩
    rw [hpasses, mem_updateIn]
    exact ⟨e, he, if_neg (hq ▸ hne)⟩

/-- One admission has one lane. -/
theorem State.AdmissionTables.lane_unique {s : State} (hs : s.AdmissionTables) {p : Nat} {k l : LaneId}
    (hk : s.pendingAt p k) (hl : s.pendingAt p l) : k = l := by
  have heq := eq_of_nodup_map hs.once hk hl rfl
  simpa using heq

/-- An entry that loses its marker is not held afterwards if it was not before. -/
theorem held_updateIn {es : List PassEntry} {p : Nat} {f : PassEntry → PassEntry}
    (h : ∀ e ∈ es, e.marker.isSome → e.isHeld = false) (hf : ∀ e, (f e).marker = none) :
    ∀ e ∈ updateIn p f es, e.marker.isSome → e.isHeld = false := by
  intro y hy hm
  obtain ⟨e, he, rfl⟩ := mem_updateIn.mp hy
  by_cases hp : e.pass = p
  · rw [if_pos hp, hf] at hm
    simp at hm
  · rw [if_neg hp] at hm ⊢
    exact h e he hm

theorem State.AdmissionTables.lapse {s : State} (hs : s.AdmissionTables) (l : LaneId) (r : LapseReason) :
    (s.lapse l r).AdmissionTables := by
  cases hp : s.pendingPass l with
  | none =>
    rw [State.lapse_of_none hp]
    exact hs
  | some p =>
    obtain ⟨hpasses, hpbl, -⟩ := State.lapse_of_some hp r
    have hpl := State.pendingAt_of_pendingPass hp
    have hsub : (s.lapse l r).pbl.entries.Sublist s.pbl.entries := by
      rw [hpbl]
      exact List.filter_sublist
    refine ⟨?_, Nat.le_trans hsub.length_le hs.room, hs.once.sublist (hsub.map _), ?_, ?_, ?_⟩
    · rw [hpasses]
      exact hs.ordered.updateIn p fun _ => rfl
    · intro q k
      rw [State.pendingAt_lapse, State.markedAt_unmark hpasses (fun _ => ⟨rfl, rfl⟩), ← hs.marked]
      constructor
      · rintro ⟨hq, hk⟩
        exact ⟨hq, fun h => hk (hs.lane_unique (h ▸ hq) hpl)⟩
      · rintro ⟨hq, hne⟩
        exact ⟨hq, fun h => hne (hs.single q p l (h ▸ hq) hpl)⟩
    · intro q q' k hq hq'
      exact hs.single q q' k ((s.pendingAt_lapse l r q k).mp hq).1 ((s.pendingAt_lapse l r q' k).mp hq').1
    · rw [hpasses]
      exact held_updateIn hs.held fun _ => rfl

theorem State.AdmissionTables.lapseAll {s : State} (hs : s.AdmissionTables) (r : LapseReason) :
    (s.lapseAll r).AdmissionTables := (((hs.lapse 0 r).lapse 1 r).lapse 2 r).lapse 3 r

theorem State.not_pendingAt_lapseAll (s : State) (r : LapseReason) (p : Nat) (l : LaneId) :
    ¬ (s.lapseAll r).pendingAt p l :=
  ((State.pendingPass_eq_none_iff _ l).mp (s.pendingPass_lapseAll l r)) p

/-- R101, step 1: what is pending after a commit. -/
theorem State.pendingAt_commitEntry (s : State) (l : LaneId) (e : PassEntry) (m : AdmissionMarker) (q : Nat)
    (k : LaneId) : (s.commitEntry l e m).pendingAt q k ↔ s.pendingAt q k ∧ q ≠ e.pass := by
  have hpbl : (s.commitEntry l e m).pbl = s.pbl.commit e.pass s.stamp := by
    simp [State.commitEntry]
    rfl
  rw [State.pendingAt, hpbl]
  simp [PassbackList.commit, State.pendingAt]

theorem State.AdmissionTables.commitEntry {s : State} (hs : s.AdmissionTables) {l : LaneId} {e : PassEntry}
    {m : AdmissionMarker} (h : s.pendingEntry l = some (e, m)) : (s.commitEntry l e m).AdmissionTables := by
  obtain ⟨p, hp, hfind, hm⟩ := State.pendingEntry_eq_some h
  obtain rfl := State.pass_of_findPass hfind
  have hpl := State.pendingAt_of_pendingPass hp
  have hpbl : (s.commitEntry l e m).pbl = s.pbl.commit e.pass s.stamp := by
    simp [State.commitEntry]
    rfl
  have hpasses := s.commitEntry_passes l e m
  have hsub : (s.pbl.entries.filter fun x => !(x.pass == e.pass)).Sublist s.pbl.entries := List.filter_sublist
  refine ⟨?_, ?_, ?_, ?_, ?_, ?_⟩
  · rw [hpasses]
    exact hs.ordered.updateIn _ fun _ => rfl
  · have hshorter : (s.pbl.entries.filter fun x => !(x.pass == e.pass)).length < s.pbl.entries.length :=
      List.length_filter_lt_length_iff_exists.mpr ⟨_, hpl, by simp⟩
    rw [hpbl]
    simp only [PassbackList.commit, List.length_append, List.length_singleton]
    exact Nat.le_trans (Nat.succ_le_of_lt hshorter) hs.room
  · rw [hpbl]
    simp only [PassbackList.commit, List.map_append, List.map_cons, List.map_nil]
    refine nodup_concat (hs.once.sublist (hsub.map _)) ?_
    simp
  · intro q k
    rw [State.pendingAt_commitEntry, State.markedAt_unmark hpasses (fun _ => ⟨rfl, rfl⟩), ← hs.marked]
  · intro q q' k hq hq'
    exact hs.single q q' k ((s.pendingAt_commitEntry l e m q k).mp hq).1 ((s.pendingAt_commitEntry l e m q' k).mp hq').1
  · rw [hpasses]
    exact held_updateIn hs.held fun _ => rfl

/-! ## Admissions (R92, R99, R107) -/

/-- The lane of a PENDING entry. -/
def PassbackEntry.lane? (x : PassbackEntry) : Option LaneId :=
  match x.phase with
  | .pending l => some l
  | .committed _ => none

/-- R107: a full list holds a COMMITTED entry, for at most one entry is PENDING at each of four lanes. -/
theorem State.AdmissionTables.exists_committed {s : State} (hs : s.AdmissionTables)
    (hfull : 256 ≤ s.pbl.entries.length) : s.pbl.entries.any PassbackEntry.isCommitted = true := by
  refine Classical.byContradiction fun hnone => ?_
  have hpending : ∀ x ∈ s.pbl.entries, ∃ l, x.phase = .pending l := by
    intro x hx
    have hx' : x.isCommitted = false := by
      refine Bool.eq_false_iff.mpr fun h => hnone (List.any_eq_true.mpr ⟨x, hx, h⟩)
    cases hp : x.phase with
    | pending l => exact ⟨l, rfl⟩
    | committed c => simp [PassbackEntry.isCommitted, hp] at hx'
  have hnodup : (s.pbl.entries.map PassbackEntry.lane?).Nodup := by
    refine nodup_map_of_inj_on (nodup_of_map hs.once) ?_
    rintro ⟨p, _⟩ hx ⟨q, _⟩ hy heq
    obtain ⟨l, rfl⟩ := hpending _ hx
    obtain ⟨k, rfl⟩ := hpending _ hy
    obtain rfl : l = k := by simpa [PassbackEntry.lane?] using heq
    rw [hs.single p q l hx hy]
  have hmem : ∀ l : Option LaneId, l ∈ [none, some 0, some 1, some 2, some 3] := by
    rintro (_ | l)
    · simp
    · match l with
      | 0 | 1 | 2 | 3 => simp
  have hlen := hnodup.length_le_of_subset fun l _ => hmem l
  simp only [List.length_map, List.length_cons, List.length_nil] at hlen
  omega

/-- What an eviction leaves pending: all of it. -/
theorem PassbackList.mem_makeRoom {b : PassbackList} {x : PassbackEntry} (hx : x.isCommitted = false) :
    x ∈ b.makeRoom.entries ↔ x ∈ b.entries := by
  unfold PassbackList.makeRoom
  split
  · rfl
  · exact List.mem_eraseP_of_neg (by simp [hx])

theorem PassbackList.makeRoom_sublist (b : PassbackList) : b.makeRoom.entries.Sublist b.entries := by
  unfold PassbackList.makeRoom
  split
  · exact List.Sublist.refl _
  · exact List.eraseP_sublist

theorem State.AdmissionTables.makeRoom_length {s : State} (hs : s.AdmissionTables) :
    s.pbl.makeRoom.entries.length < 256 := by
  unfold PassbackList.makeRoom
  split
  · assumption
  · rename_i hfull
    have hany := hs.exists_committed (Nat.le_of_not_lt hfull)
    have hroom := hs.room
    have hlen : (s.pbl.entries.eraseP PassbackEntry.isCommitted).length = s.pbl.entries.length - 1 := by
      simp [List.length_eraseP, hany]
    have hsome : 0 < s.pbl.entries.length := by
      simp only [Config.passbackCapacity] at hfull
      omega
    simp only [hlen]
    omega

/-- R92: what an admission presupposes: the part in service, and an entry that is not held, not marked and not in the
Passback List. -/
theorem State.admitted_spec {s : State} {p : Nat} (h : s.decisionOn p = .admitted) :
    s.closedCondition = false ∧ s.inPassback p = false ∧
      ∃ e, s.findPass p = some e ∧ e.marker = none ∧ e.isHeld = false := by
  unfold State.decisionOn at h
  split at h
  · simp at h
  · rename_i hpart
    have hopen : s.closedCondition = false := by
      unfold State.partCause at hpart
      (repeat' split at hpart) <;> simp_all [State.closedCondition]
    cases hfind : s.findPass p with
    | none => simp [State.passCause, hfind] at h
    | some e =>
      cases hq : s.product? e.product with
      | none => simp [State.passCause, hfind, hq] at h
      | some q =>
        simp only [State.passCause, hfind, hq] at h
        have hpass := State.pass_of_findPass hfind
        split at h
        · simp at h
        · rename_i hcause
          unfold State.entryCause at hcause
          split at hcause
          · simp at hcause
          · rename_i hstatus
            (repeat' split at hcause) <;> simp at hcause
            rename_i hmarker hpassback
            refine ⟨hopen, by simpa [hpass] using hpassback, e, rfl, by simpa using hmarker, ?_⟩
            cases hst : e.status <;> simp_all [statusCause, PassEntry.isHeld]

/-- R99, R107: what is pending after an admission. -/
theorem State.pendingAt_admitPass (s : State) (l : LaneId) (p q : Nat) (k : LaneId) :
    ((s.leaveSet l).admitPass l p).pendingAt q k ↔ s.pendingAt q k ∨ (q = p ∧ k = l) := by
  have hpbl : ((s.leaveSet l).admitPass l p).pbl = s.pbl.insertPending p l := by simp [State.admitPass]
  rw [State.pendingAt, hpbl]
  simp only [PassbackList.insertPending, List.mem_append, List.mem_singleton, PassbackEntry.mk.injEq,
    PassbackPhase.pending.injEq]
  rw [PassbackList.mem_makeRoom rfl]
  rfl

/-- R99: who is marked after an admission. -/
theorem State.markedAt_admitPass {s : State} {l : LaneId} {p : Nat} {e : PassEntry} (hord : PassesOrdered s.passes)
    (hfind : s.findPass p = some e) (hmarker : e.marker = none) (q : Nat) (k : LaneId) :
    ((s.leaveSet l).admitPass l p).markedAt q k ↔ s.markedAt q k ∨ (q = p ∧ k = l) := by
  have hpasses : ((s.leaveSet l).admitPass l p).passes =
      Machine.updateIn p (fun e => { e with marker := some { lane := l, day := s.today } }) s.passes := rfl
  have hunmarked : ∀ x ∈ s.passes, x.pass = p → x.marker = none := fun x hx hp =>
    (hord.eq_of_findPass hfind hx hp) ▸ hmarker
  constructor
  · rintro ⟨y, hy, hq, m, hm, hk⟩
    rw [hpasses, mem_updateIn] at hy
    obtain ⟨x, hx, rfl⟩ := hy
    by_cases hp : x.pass = p
    · rw [if_pos hp] at hq hm
      obtain rfl := Option.some.inj hm
      exact .inr ⟨hq.symm.trans hp, hk.symm⟩
    · rw [if_neg hp] at hq hm
      exact .inl ⟨x, hx, hq, m, hm, hk⟩
  · rintro (⟨x, hx, hq, m, hm, hk⟩ | ⟨rfl, rfl⟩)
    · have hne : x.pass ≠ p := fun hp => by simp [hunmarked x hx hp] at hm
      exact ⟨x, hpasses ▸ mem_updateIn.mpr ⟨x, hx, if_neg hne⟩, hq, m, hm, hk⟩
    · have hpass := State.pass_of_findPass hfind
      refine ⟨{ e with marker := some { lane := k, day := s.today } }, ?_, hpass, _, rfl, rfl⟩
      rw [hpasses, mem_updateIn]
      exact ⟨e, State.mem_of_findPass hfind, if_pos hpass⟩

theorem State.AdmissionTables.admission {s : State} (hs : s.AdmissionTables) {l : LaneId} {p : Nat}
    (hnone : ∀ q, ¬ s.pendingAt q l) (hd : s.decisionOn p = .admitted) :
    ((s.leaveSet l).admitPass l p).AdmissionTables := by
  obtain ⟨-, hpassback, e, hfind, hmarker, hheld⟩ := State.admitted_spec hd
  have hpbl : ((s.leaveSet l).admitPass l p).pbl = s.pbl.insertPending p l := by simp [State.admitPass]
  have hpasses : ((s.leaveSet l).admitPass l p).passes =
      Machine.updateIn p (fun e => { e with marker := some { lane := l, day := s.today } }) s.passes := rfl
  refine ⟨?_, ?_, ?_, ?_, ?_, ?_⟩
  · rw [hpasses]
    exact hs.ordered.updateIn p fun _ => rfl
  · rw [hpbl]
    simpa [PassbackList.insertPending] using Nat.le_of_lt_succ (Nat.succ_lt_succ hs.makeRoom_length)
  · rw [hpbl]
    simp only [PassbackList.insertPending, List.map_append, List.map_cons, List.map_nil]
    refine nodup_concat (hs.once.sublist (s.pbl.makeRoom_sublist.map _)) ?_
    intro hq
    obtain ⟨x, hx, rfl⟩ := List.mem_map.mp hq
    simp only [State.inPassback, List.any_eq_false, beq_iff_eq] at hpassback
    exact hpassback x (s.pbl.makeRoom_sublist.subset hx) rfl
  · intro q k
    rw [State.pendingAt_admitPass, State.markedAt_admitPass hs.ordered hfind hmarker, hs.marked]
  · intro q q' k hq hq'
    rw [State.pendingAt_admitPass] at hq hq'
    obtain hq | ⟨rfl, rfl⟩ := hq
    · obtain hq' | ⟨rfl, rfl⟩ := hq'
      · exact hs.single q q' k hq hq'
      · exact absurd hq (hnone q)
    · obtain hq' | ⟨rfl, -⟩ := hq'
      · exact absurd hq' (hnone q')
      · rfl
  · rw [hpasses]
    intro y hy hm
    obtain ⟨x, hx, rfl⟩ := mem_updateIn.mp hy
    by_cases hp : x.pass = p
    · obtain rfl := hs.ordered.eq_of_findPass hfind hx hp
      rw [if_pos hp]
      exact hheld
    · rw [if_neg hp] at hm ⊢
      exact hs.held x hx hm

/-! ## Open lanes (R64, R77) -/

/-- What a lane's being open reads: its lane, the clock block and its waiting request. -/
theorem State.OpenAt.congr {s u : State} {l : LaneId} (h : s.OpenAt l) (hlane : u.lane l = s.lane l) (hrcc : u.rcc = s.rcc)
    (hwait : u.ae.waiting.get l = none ∨ u.ae.waiting.get l = s.ae.waiting.get l) : u.OpenAt l := by
  obtain ⟨h1, h2, h3, h4, h5, h6⟩ := h
  have hclosed : u.closedCondition = s.closedCondition := by
    simp [State.closedCondition, State.clockRunning, hrcc]
  rw [State.OpenAt, hlane, hclosed]
  exact ⟨h1, h2, h3, h4, hwait.elim id fun h => h.trans h5, h6⟩

/-- The invariant where lanes, clock and waiting set stay, and nothing more is pending. -/
theorem State.PendingOpen.congr {s u : State} (hs : s.PendingOpen) (hpend : ∀ p l, u.pendingAt p l → s.pendingAt p l)
    (hlanes : u.lanes = s.lanes) (hrcc : u.rcc = s.rcc) (hae : u.ae = s.ae) : u.PendingOpen := fun p l h =>
  (hs p l (hpend p l h)).congr (State.lane_congr hlanes l) hrcc (.inr (by rw [hae]))

/-- One lane's admission, if any, has ended, and at the other lanes at most a waiting request has left. -/
theorem State.PendingOpen.ended {s u : State} (hs : s.PendingOpen) {l : LaneId}
    (hpend : ∀ p k, u.pendingAt p k → s.pendingAt p k ∧ k ≠ l) (hlanes : ∀ k, k ≠ l → u.lane k = s.lane k)
    (hrcc : u.rcc = s.rcc) (hwait : ∀ k, u.ae.waiting.get k = none ∨ u.ae.waiting.get k = s.ae.waiting.get k) :
    u.PendingOpen := fun p k h =>
  (hs p k (hpend p k h).1).congr (hlanes k (hpend p k h).2) hrcc (hwait k)

/-- R67, R77: a lane's request has left, and the other lanes are as they were. -/
theorem State.GateRequestsKept.ended {s u : State} (hs : s.GateRequestsKept) {l : LaneId}
    (hwait : u.ae.waiting = s.ae.waiting.set l none) (hlanes : ∀ k, k ≠ l → u.lane k = s.lane k) :
    u.GateRequestsKept := by
  intro k r hr hk
  rw [hwait, Quad.get_set] at hr
  split at hr
  · simp at hr
  · rename_i hne
    rw [hlanes k hne]
    exact hs k r hr hk

theorem State.GateRequestsKept.congr {s u : State} (hs : s.GateRequestsKept) (hlanes : u.lanes = s.lanes)
    (hae : u.ae = s.ae) : u.GateRequestsKept := by
  intro k r hr hk
  rw [hae] at hr
  rw [State.lane_congr hlanes]
  exact hs k r hr hk

/-! ## What keeps the invariant -/

/-- The blocks the invariant reads. -/
theorem State.AdmissionsKept.congr {s u : State} (hs : s.AdmissionsKept) (hpbl : u.pbl.entries = s.pbl.entries)
    (hpasses : u.passes = s.passes) (hlanes : u.lanes = s.lanes) (hrcc : u.rcc = s.rcc) (hae : u.ae = s.ae) :
    u.AdmissionsKept := by
  obtain ⟨htables, hopen, hreq⟩ := s.admissionsKept_iff.mp hs
  exact u.admissionsKept_iff.mpr ⟨htables.congr hpbl hpasses,
    hopen.congr (fun p l => (State.pendingAt_congr hpbl p l).mp) hlanes hrcc hae, hreq.congr hlanes hae⟩

/-- A change of the tables alone, with the same admissions pending. -/
theorem State.AdmissionsKept.of_tables {s u : State} (hs : s.AdmissionsKept) (htables : u.AdmissionTables)
    (hpend : ∀ p l, u.pendingAt p l → s.pendingAt p l) (hlanes : u.lanes = s.lanes) (hrcc : u.rcc = s.rcc)
    (hae : u.ae = s.ae) : u.AdmissionsKept := by
  obtain ⟨-, hopen, hreq⟩ := s.admissionsKept_iff.mp hs
  exact u.admissionsKept_iff.mpr ⟨htables, hopen.congr hpend hlanes hrcc hae, hreq.congr hlanes hae⟩

/-- A lane whose condition admits no pending admission ends it and its request: R77's LOCK and R81's FAULT. -/
theorem State.AdmissionsKept.closeLane {s v : State} (hs : s.AdmissionsKept) (l : LaneId) (r : LapseReason)
    (hpbl : v.pbl = s.pbl) (hpasses : v.passes = s.passes) (hlanes : ∀ k, k ≠ l → v.lane k = s.lane k)
    (hrcc : v.rcc = s.rcc) (hae : v.ae = s.ae) : ((v.lapse l r).withdraw l).AdmissionsKept := by
  obtain ⟨htables, hopen, hreq⟩ := s.admissionsKept_iff.mp hs
  have hlane : ∀ k, k ≠ l → ((v.lapse l r).withdraw l).lane k = s.lane k := by
    intro k hk
    rw [State.lane_congr (s := v.lapse l r) (by simp), State.lane_lapse, if_neg (by simp [hk]), hlanes k hk]
  have hwait : ((v.lapse l r).withdraw l).ae.waiting = s.ae.waiting.set l none := by
    rw [(State.withdraw_spec _ l).1]
    simp [hae]
  refine (State.admissionsKept_iff _).mpr ⟨?_, ?_, hreq.ended hwait hlane⟩
  · have hv : v.AdmissionTables := htables.congr (by rw [hpbl]) hpasses
    exact (hv.lapse l r).congr (by simp) (by simp)
  · refine hopen.ended (l := l) ?_ hlane (by simp [hrcc]) ?_
    · intro p k h
      rw [State.pendingAt_congr (s := v.lapse l r) (by simp), State.pendingAt_lapse] at h
      exact ⟨(State.pendingAt_congr (by rw [hpbl]) p k).mp h.1, h.2⟩
    · intro k
      rw [hwait, Quad.get_set]
      split
      · exact .inl rfl
      · exact .inr rfl

/-- A close of the lift or the end of the season lapses every pending admission (R11, R4). -/
theorem State.AdmissionsKept.shut {s v : State} (hs : s.AdmissionsKept) (r : LapseReason) (hpbl : v.pbl = s.pbl)
    (hpasses : v.passes = s.passes) (hlanes : v.lanes = s.lanes) (hae : v.ae = s.ae) : (v.lapseAll r).AdmissionsKept := by
  obtain ⟨htables, -, hreq⟩ := s.admissionsKept_iff.mp hs
  have hv : v.AdmissionTables := htables.congr (by rw [hpbl]) hpasses
  refine (State.admissionsKept_iff _).mpr ⟨hv.lapseAll r, fun p l h => absurd h (v.not_pendingAt_lapseAll r p l), ?_⟩
  intro l q hq hk
  have hfields : ∀ (u : State) (k : LaneId), ((u.lapse k r).lane l).role = (u.lane l).role ∧
      ((u.lapse k r).lane l).latches = (u.lane l).latches ∧
      ((u.lapse k r).lane l).armOverride = (u.lane l).armOverride := by
    intro u k
    rw [State.lane_lapse]
    split <;> exact ⟨rfl, rfl, rfl⟩
  have hkeep : ((v.lapseAll r).lane l).role = (v.lane l).role ∧
      ((v.lapseAll r).lane l).latches = (v.lane l).latches ∧
      ((v.lapseAll r).lane l).armOverride = (v.lane l).armOverride := by
    simp [State.lapseAll, fourInOrder, hfields]
  rw [hkeep.1, hkeep.2.1, hkeep.2.2, State.lane_congr hlanes]
  exact hreq l q (by simpa [hae] using hq) hk

theorem State.AdmissionsKept.lapse {s : State} (hs : s.AdmissionsKept) (l : LaneId) (r : LapseReason) :
    (s.lapse l r).AdmissionsKept := by
  obtain ⟨htables, hopen, hreq⟩ := s.admissionsKept_iff.mp hs
  refine (State.admissionsKept_iff _).mpr ⟨htables.lapse l r, ?_, ?_⟩
  · refine hopen.ended (l := l) (fun p k h => (s.pendingAt_lapse l r p k).mp h) ?_ (by simp) fun k => .inr (by simp)
    intro k hk
    rw [State.lane_lapse, if_neg (by simp [hk])]
  · intro k q hq hk
    rw [State.lane_lapse]
    have h := hreq k q (by simpa using hq) hk
    split
    · exact h
    · exact h

/-- R15, R16, R10: a change of the clock block closes no lane that has an admission pending. -/
theorem State.AdmissionsKept.clock {s : State} (hs : s.AdmissionsKept) {r : ClockBlock}
    (hclosed : (s.setRcc r).closedCondition = true → s.closedCondition = true ∨ ∀ l, s.pendingPass l = none) :
    (s.setRcc r).AdmissionsKept := by
  obtain ⟨htables, hopen, hreq⟩ := s.admissionsKept_iff.mp hs
  refine (State.admissionsKept_iff _).mpr ⟨htables.congr rfl rfl, ?_, hreq.congr rfl rfl⟩
  intro p l hp
  obtain ⟨h1, h2, h3, h4, h5, h6⟩ := hopen p l hp
  refine ⟨h1, h2, h3, ?_, h5, h6⟩
  refine Bool.eq_false_iff.mpr fun hc => ?_
  obtain h | h := hclosed hc
  · simp [h] at h4
  · exact (s.pendingPass_eq_none_iff l).mp (h l) p hp

theorem State.AdmissionsKept.lane {s : State} (hs : s.AdmissionsKept) {l : LaneId} {x : Lane}
    (hx : (s.lane l).Eases x) : (s.setLane l x).AdmissionsKept := by
  obtain ⟨htables, hopen, hreq⟩ := s.admissionsKept_iff.mp hs
  have hlatch : (s.lane l).latches.any = false → x.latches.any = false := fun h => by
    refine Bool.eq_false_iff.mpr fun hc => ?_
    simp [hx.fault hc] at h
  refine (State.admissionsKept_iff _).mpr ⟨htables.congr rfl rfl, ?_, ?_⟩
  · intro p k hp
    obtain ⟨h1, h2, h3, h4, h5, h6⟩ := hopen p k hp
    rw [State.OpenAt, State.lane_setLane]
    split
    · rename_i hk
      subst hk
      exact ⟨hx.role.trans h1, hlatch h2, fun h => h3 (hx.lock h), h4, h5, hx.timer ▸ h6⟩
    · exact ⟨h1, h2, h3, h4, h5, h6⟩
  · intro k q hq hk
    obtain ⟨h1, h2, h3⟩ := hreq k q hq hk
    rw [State.lane_setLane]
    split
    · rename_i heq
      subst heq
      exact ⟨hx.role.trans h1, hlatch h2, fun h => h3 (hx.lock h)⟩
    · exact ⟨h1, h2, h3⟩

/-- R61: in SETUP no admission is pending, so a lane may start afresh once its request has been withdrawn. -/
theorem State.AdmissionsKept.role {s : State} (hs : s.AdmissionsKept) {l : LaneId} (x : Lane)
    (hmode : s.rcc.mode = .setup) (hwait : s.ae.waiting.get l = none) : (s.setLane l x).AdmissionsKept := by
  obtain ⟨htables, hopen, hreq⟩ := s.admissionsKept_iff.mp hs
  refine (State.admissionsKept_iff _).mpr ⟨htables.congr rfl rfl, ?_, ?_⟩
  · intro p k hp
    have hclosed := (hopen p k hp).2.2.2.1
    simp [State.closedCondition, hmode] at hclosed
  · intro k q hq hk
    have hne : k ≠ l := by
      rintro rfl
      exact absurd (hwait.symm.trans hq) (by simp)
    rw [State.lane_setLane, if_neg hne]
    exact hreq k q hq hk

/-- A request leaves the waiting set. -/
theorem State.AdmissionsKept.leave {s u : State} (hs : s.AdmissionsKept) {l : LaneId}
    (hwait : u.ae.waiting = s.ae.waiting.set l none) (hpbl : u.pbl = s.pbl) (hpasses : u.passes = s.passes)
    (hlanes : u.lanes = s.lanes) (hrcc : u.rcc = s.rcc) : u.AdmissionsKept := by
  obtain ⟨htables, hopen, hreq⟩ := s.admissionsKept_iff.mp hs
  refine (State.admissionsKept_iff _).mpr ⟨htables.congr (by rw [hpbl]) hpasses, ?_, ?_⟩
  · intro p k hp
    refine (hopen p k ((State.pendingAt_congr (by rw [hpbl]) p k).mp hp)).congr (State.lane_congr hlanes k) hrcc ?_
    rw [hwait, Quad.get_set]
    split
    · exact .inl rfl
    · exact .inr rfl
  · exact hreq.ended hwait fun k _ => State.lane_congr hlanes k

/-- R67, R83, R85: a request joins at a lane in READY, which has no admission pending. -/
theorem State.AdmissionsKept.submit {s : State} (hs : s.AdmissionsKept) {l : LaneId} {p : Nat} {k : RequestClass}
    (hready : s.laneState l = .ready) (hgate : k = .gate → (s.lane l).role = .gate ∧ (s.lane l).armOverride ≠ .lock) :
    (s.submit l p k).AdmissionsKept := by
  obtain ⟨htables, hopen, hreq⟩ := s.admissionsKept_iff.mp hs
  have hquiet : (s.lane l).role = .gate → (s.lane l).latches.any = false ∧ s.pendingPass l = none := by
    intro hrole
    unfold State.laneState at hready
    rw [hrole] at hready
    dsimp only at hready
    split at hready
    · simp at hready
    · rename_i hlatch
      split at hready
      · simp at hready
      · rename_i hpend
        exact ⟨by simpa using hlatch, by simpa using hpend⟩
  refine (State.admissionsKept_iff _).mpr ⟨htables.congr rfl rfl, ?_, ?_⟩
  · intro q j hq
    have hopenj := hopen q j hq
    have hne : j ≠ l := by
      rintro rfl
      exact (s.pendingPass_eq_none_iff j).mp (hquiet hopenj.1).2 q hq
    exact hopenj.congr rfl rfl (.inr (Quad.get_set_ne _ _ _ _ hne))
  · intro j r hr hk
    have hr' : (s.ae.waiting.set l (some { pass := p, kind := k })).get j = some r := hr
    rw [Quad.get_set] at hr'
    split at hr'
    · rename_i heq
      subst heq
      obtain rfl := Option.some.inj hr'
      obtain ⟨hrole, hlock⟩ := hgate hk
      exact ⟨hrole, (hquiet hrole).1, hlock⟩
    · exact hreq j r hr' hk

theorem State.AdmissionsKept.admission {s : State} (hs : s.AdmissionsKept) {l : LaneId} {p : Nat}
    (hwait : s.ae.waiting.get l = some { pass := p, kind := .gate }) (hd : s.decisionOn p = .admitted) :
    ((s.leaveSet l).admitPass l p).AdmissionsKept := by
  obtain ⟨htables, hopen, hreq⟩ := s.admissionsKept_iff.mp hs
  obtain ⟨hclosed, -⟩ := State.admitted_spec hd
  obtain ⟨hrole, hlatch, hlock⟩ := hreq l _ hwait rfl
  have hnone : ∀ q, ¬ s.pendingAt q l := fun q hq => by
    have hno := (hopen q l hq).2.2.2.2.1
    exact absurd (hwait.symm.trans hno) (by simp)
  have hae : ((s.leaveSet l).admitPass l p).ae.waiting = s.ae.waiting.set l none := by
    simp [State.leaveSet]
  have hlane : ∀ k, ((s.leaveSet l).admitPass l p).lane k = if k = l then
      { s.lane l with unlockTimer := some (s.lane l).unlockTimeout, display := none } else s.lane k := by
    intro k
    simp only [State.admitPass, State.lane_setLane]
    split
    · rename_i hk
      subst hk
      rfl
    · rfl
  refine (State.admissionsKept_iff _).mpr ⟨htables.admission hnone hd, ?_, ?_⟩
  · intro q k hq
    rw [State.OpenAt, hlane, hae]
    by_cases hk : k = l
    · subst hk
      simp only [if_true]
      exact ⟨hrole, hlatch, hlock, by simpa [State.closedCondition, State.clockRunning] using hclosed, by simp, rfl⟩
    · rw [State.pendingAt_admitPass] at hq
      obtain ⟨h1, h2, h3, h4, h5, h6⟩ := hopen q k (hq.resolve_right fun h => hk h.2)
      rw [if_neg hk, Quad.get_set_ne _ _ _ _ hk]
      exact ⟨h1, h2, h3, by simpa [State.closedCondition, State.clockRunning] using h4, h5, h6⟩
  · refine hreq.ended hae fun k hk => ?_
    rw [hlane, if_neg hk]

theorem State.AdmissionsKept.commit {s : State} (hs : s.AdmissionsKept) {l : LaneId} {e : PassEntry}
    {m : AdmissionMarker} (h : s.pendingEntry l = some (e, m)) :
    (((s.commitEntry l e m).handRotation l .paid).setLane l
      { ((s.commitEntry l e m).handRotation l .paid).lane l with unlockTimer := none }).AdmissionsKept := by
  obtain ⟨htables, hopen, hreq⟩ := s.admissionsKept_iff.mp hs
  obtain ⟨p, hp, hfind, -⟩ := State.pendingEntry_eq_some h
  obtain rfl := State.pass_of_findPass hfind
  have hpl := State.pendingAt_of_pendingPass hp
  have hpend : ∀ q k, (s.commitEntry l e m).pendingAt q k → s.pendingAt q k ∧ k ≠ l := by
    intro q k hq
    obtain ⟨hbefore, hne⟩ := (s.pendingAt_commitEntry l e m q k).mp hq
    refine ⟨hbefore, fun hk => ?_⟩
    rw [hk] at hbefore
    exact hne (htables.single q e.pass l hbefore hpl)
  have hlanes : (s.commitEntry l e m).lanes = s.lanes := by simp
  have hrcc : (s.commitEntry l e m).rcc = s.rcc := by simp
  have hae : (s.commitEntry l e m).ae = s.ae := by simp
  have hcommitted := htables.commitEntry h
  generalize s.commitEntry l e m = v at hpend hlanes hrcc hae hcommitted
  have hother : ∀ k, k ≠ l → ((v.handRotation l .paid).setLane l
      { (v.handRotation l .paid).lane l with unlockTimer := none }).lane k = s.lane k := by
    intro k hk
    have hcount : (v.countRider l .paid).lane k = v.lane k := rfl
    rw [State.lane_setLane, if_neg hk, State.handRotation, State.lane_setLane, if_neg hk, hcount,
      State.lane_congr hlanes]
  refine (State.admissionsKept_iff _).mpr ⟨hcommitted.congr (by simp) (by simp), ?_, ?_⟩
  · exact hopen.ended (l := l) (fun q k hq => hpend q k ((State.pendingAt_congr (by simp) q k).mp hq)) hother
      (by simp [hrcc]) fun k => .inr (by simp [hae])
  · intro k r hr hk
    have hr' : s.ae.waiting.get k = some r := by simpa [hae] using hr
    by_cases heq : k = l
    · subst heq
      have hidle := (hopen e.pass k hpl).2.2.2.2.1
      exact absurd (hidle.symm.trans hr') (by simp)
    · rw [hother k heq]
      exact hreq k r hr' hk

/-- PENDING entries stay in the Passback List whatever else leaves it (R109, R110). -/
theorem State.AdmissionsKept.passback {s : State} (hs : s.AdmissionsKept) {b : PassbackList} {f : PassbackEntry → Bool}
    (hb : b.entries = s.pbl.entries.filter f) (hf : ∀ e, e.isCommitted = false → f e = true) :
    (s.setPbl b).AdmissionsKept := by
  obtain ⟨htables, -, -⟩ := s.admissionsKept_iff.mp hs
  have hpend : ∀ p l, (s.setPbl b).pendingAt p l ↔ s.pendingAt p l := by
    intro p l
    rw [State.pendingAt, State.setPbl_pbl, hb, List.mem_filter]
    exact ⟨And.left, fun h => ⟨h, hf _ rfl⟩⟩
  have hsub : b.entries.Sublist s.pbl.entries := hb ▸ List.filter_sublist
  refine hs.of_tables ⟨htables.ordered, Nat.le_trans hsub.length_le htables.room, htables.once.sublist (hsub.map _), ?_, ?_,
    htables.held⟩ (fun p l => (hpend p l).mp) rfl rfl rfl
  · intro p l
    rw [hpend]
    exact htables.marked p l
  · intro p q l hp hq
    exact htables.single p q l ((hpend p l).mp hp) ((hpend q l).mp hq)

/-- An accepted quote holds a pass that has no admission marker (R148, check 7). -/
theorem State.quoteChecks_spec {s : State} {p : Nat} {k : SlotId} (h : s.quoteChecks p = .slotFree k) :
    ∃ e, s.findPass p = some e ∧ e.marker = none ∧ e.status = .active ∧ (s.refundTerms e).isSome ∧
      (s.slot k).state = .free := by
  unfold State.quoteChecks at h
  cases hfind : s.findPass p with
  | none => simp [hfind] at h
  | some e =>
    cases hterms : s.refundTerms e with
    | none => simp [hfind, hterms] at h
    | some t =>
      simp only [hfind, hterms] at h
      split at h
      · simp at h
      · rename_i hstatus
        (repeat' split at h) <;> simp only [QuoteCheck.slotFree.injEq, reduceCtorEq] at h
        rename_i hmarker _ _ slot hslot
        subst h
        refine ⟨e, rfl, by simpa using hmarker, ?_, by simp [hterms], ?_⟩
        · cases hst : e.status <;> simp_all [quoteStatusFails]
        · simpa using List.find?_some hslot

theorem State.AdmissionTables.dropTo {s : State} (hs : s.AdmissionTables) (k : SlotId) (p : Nat) (r : DropReason)
    (next : SlotState) : (s.dropTo k p r next).AdmissionTables :=
  hs.status (s.dropTo_spec k p r next).1 (by simp) (by simp)

theorem State.AdmissionTables.dropQuote {s : State} (hs : s.AdmissionTables) (k : SlotId) (r : DropReason) :
    (s.dropQuote k r).AdmissionTables := by
  unfold State.dropQuote
  split
  · exact hs.dropTo ..
  · exact hs.dropTo ..
  · exact hs.dropTo ..
  · exact hs
  · exact hs

theorem State.AdmissionTables.restartSlot {s : State} (hs : s.AdmissionTables) (k : SlotId) :
    (s.restartSlot k).AdmissionTables := by
  unfold State.restartSlot
  split
  · exact hs.dropTo ..
  · exact hs.dropTo ..
  · exact hs.dropTo ..
  · exact hs.congr rfl rfl
  · exact hs

/-- Every change of the state keeps the correspondence. -/
theorem State.AdmissionsKept.effect {s u : State} (hs : s.AdmissionsKept) (h : Effect s u) : u.AdmissionsKept := by
  have htables := (s.admissionsKept_iff.mp hs).1
  have hpend : ∀ {v : State}, v.pbl.entries = s.pbl.entries → ∀ p l, v.pendingAt p l → s.pendingAt p l :=
    fun h p l => (State.pendingAt_congr h p l).mp
  cases h
  case clock r _ hclosed => exact hs.clock hclosed
  case shut r reason _ => exact hs.shut reason rfl rfl rfl rfl
  case shutLift r v reason _ => exact hs.shut reason (by simp) (by simp) (by simp) (by simp)
  case addPass r st _ hfind _ =>
    refine hs.of_tables (htables.of_passes rfl (htables.ordered.insertEntry (State.forall_ne_of_findPass hfind)) ?_ ?_)
      (hpend rfl) rfl rfl rfl
    · intro p l
      constructor
      · rintro ⟨e, he, hp, m, hm, hl⟩
        obtain rfl | he := mem_insertEntry.mp he
        · simp [newEntry] at hm
        · exact ⟨e, he, hp, m, hm, hl⟩
      · rintro ⟨e, he, h⟩
        exact ⟨e, mem_insertEntry.mpr (.inr he), h⟩
    · intro e he hm
      obtain rfl | he := mem_insertEntry.mp he
      · simp [newEntry] at hm
      · exact htables.held e he hm
  case rewritePass r st e _ hfind hmarker _ =>
    refine hs.of_tables (htables.updateIn rfl rfl (fun _ => rfl) (fun _ => rfl) ?_) (hpend rfl) rfl rfl rfl
    intro x hx hp hm _
    obtain rfl := htables.ordered.eq_of_findPass hfind hx hp
    simp [hmarker] at hm
  case markPass p =>
    exact hs.of_tables (htables.updateIn rfl rfl (fun _ => rfl) (fun _ => rfl) fun _ _ _ _ h => h) (hpend rfl) rfl rfl rfl
  case clearMarks =>
    exact hs.of_tables (htables.map rfl rfl (fun _ => rfl) (fun _ => rfl) fun _ _ _ h => h) (hpend rfl) rfl rfl rfl
  case setStatus p st e hst _ _ =>
    refine hs.of_tables (htables.status (p := p) (st := st) rfl rfl ?_) (hpend rfl) rfl rfl rfl
    obtain rfl | rfl := hst <;> simp
  case removePass p e hfind hmarker _ =>
    refine hs.of_tables (htables.filter rfl rfl ?_) (hpend rfl) rfl rfl rfl
    intro x hx hm
    have hne : x.pass ≠ p := fun hp => by
      obtain rfl := htables.ordered.eq_of_findPass hfind hx hp
      simp [hmarker] at hm
    simpa using hne
  case sweep =>
    refine hs.of_tables (htables.filter rfl rfl ?_) (hpend rfl) rfl rfl rfl
    intro x _ hm
    simp [PassEntry.isProtected, hm]
  case merge e days _ =>
    exact hs.of_tables (htables.updateIn rfl rfl (fun _ => rfl) (fun _ => rfl) fun _ _ _ _ h => h) (hpend rfl) rfl rfl rfl
  case lane l x hx => exact hs.lane hx
  case role l x hmode hwait _ => exact hs.role x hmode hwait
  case fault l f x _ =>
    refine hs.closeLane l .fault (by simp) (by simp) ?_ (by simp) (by simp)
    intro k hk
    rw [State.lane_setLane, if_neg hk, State.lane_congr (s := s.setLane l ((s.lane l).latch f)) (by simp),
      State.lane_setLane, if_neg hk]
  case lock l =>
    refine hs.closeLane l .locked rfl rfl (fun k hk => ?_) rfl rfl
    rw [State.lane_setLane, if_neg hk]
  case withdraw l =>
    exact hs.leave (l := l) (by rw [(s.withdraw_spec l).1]) (by simp) (by simp) (by simp) (by simp)
  case pointer p =>
    obtain ⟨-, hopen, hreq⟩ := s.admissionsKept_iff.mp hs
    exact (State.admissionsKept_iff _).mpr ⟨htables.congr rfl rfl,
      fun q l hq => (hopen q l hq).congr rfl rfl (.inr rfl), hreq⟩
  case submit l p k hready hgate => exact hs.submit hready hgate
  case leaveSet l => exact hs.leave (l := l) rfl rfl rfl rfl rfl
  case passback b f hb hf => exact hs.passback hb hf
  case lapse l reason => exact hs.lapse l reason
  case admission l p hwait hd => exact hs.admission hwait hd
  case commit l e m _ h => exact hs.commit h
  case accept k p src _ h =>
    obtain ⟨e, hfind, hmarker, -⟩ := State.quoteChecks_spec h
    refine hs.of_tables (htables.updateIn (p := p) (f := fun e => { e with status := .refundHold k })
      (by simp [State.acceptQuote]) (by simp) (fun _ => rfl) (fun _ => rfl) ?_) (hpend (by simp)) (by simp) (by simp)
      (by simp)
    intro x hx hp hm _
    obtain rfl := htables.ordered.eq_of_findPass hfind hx hp
    simp [hmarker] at hm
  case drop k reason =>
    exact hs.of_tables (htables.dropQuote k reason) (hpend (by simp)) (by simp) (by simp) (by simp)
  case restartQuotes =>
    refine hs.of_tables ?_ (hpend (by simp [fourInOrder])) (by simp [fourInOrder]) (by simp [fourInOrder])
      (by simp [fourInOrder])
    exact ((((htables.restartSlot 0).restartSlot 1).restartSlot 2).restartSlot 3).congr rfl rfl
  case settle k items i snap r expiry _ _ _ =>
    exact hs.of_tables (htables.status (p := items.pass) (st := .refunded) (by simp [State.settle]) (by simp) (by simp))
      (hpend (by simp)) (by simp) (by simp) (by simp)
  case cold rate1 rate0 =>
    refine (State.admissionsKept_iff _).mpr ⟨⟨List.Pairwise.nil, Nat.zero_le _, List.nodup_nil, ?_, ?_, ?_⟩, ?_, ?_⟩
    · intro p l
      simp [State.pendingAt, State.markedAt, State.coldReset, State.cold]
    · intro p q l hp
      simp [State.pendingAt, State.coldReset, State.cold] at hp
    · simp [State.coldReset, State.cold]
    · intro p l hp
      simp [State.pendingAt, State.coldReset, State.cold] at hp
    · intro l r hr
      have hnone : (s.coldReset rate1 rate0).ae.waiting.get l = none := by
        match l with
        | 0 | 1 | 2 | 3 => rfl
      exact absurd (hr.symm.trans hnone) (by simp)
  case putProduct | clearProduct => exact hs.congr rfl rfl rfl rfl rfl
  all_goals exact hs.congr (by simp) (by simp) (by simp) (by simp) (by simp)

/-- Settles O57: each change a step makes keeps the three parts of the correspondence. -/
theorem admissionsKeptByEveryStep : Obligations.AdmissionsKeptByEveryStep :=
  keptByStep_of_effects fun _ _ hs => hs.effect

end Sys2Proof.Machine
end

section
/-!
PROOFS. Open quotes: the quote slots, the held passes and the calculator in correspondence (R128 to R130, R147), and the
working quantities of the computation (R132).
-/

namespace Sys2Proof.Machine

/-! ## Held passes -/

/-- A pass of this product is in REFUND_HOLD for the slot. -/
def State.Held (s : State) (p : Nat) (k : SlotId) (code : Nat) : Prop :=
  ∃ e ∈ s.passes, e.pass = p ∧ e.status = .refundHold k ∧ e.product = code

/-- The product of a code is present and refundable (R148, check 3). -/
def State.Refundable (s : State) (code : Nat) : Prop := ∃ q t, s.product? code = some q ∧ q.refundTerms = some t

theorem State.refundTerms_isSome_iff (s : State) (e : PassEntry) :
    (s.refundTerms e).isSome ↔ s.Refundable e.product := by
  unfold State.refundTerms State.Refundable
  cases hq : s.product? e.product with
  | none => simp
  | some q => simp [Option.isSome_iff_exists]

theorem PassEntry.isHeld_iff (e : PassEntry) : e.isHeld = true ↔ ∃ k, e.status = .refundHold k := by
  cases hst : e.status <;> simp [PassEntry.isHeld, hst]

/-- What the invariant says of slots and held passes, the calculator apart (R147, R130). -/
structure State.HoldsKept (s : State) : Prop where
  ordered : PassesOrdered s.passes
  named : ∀ k i, (s.slot k).state.identity? = some i → ∃ code, s.Held i.pass k code
  naming : ∀ p k code, s.Held p k code → ∃ i, (s.slot k).state.identity? = some i ∧ i.pass = p
  refundable : ∀ p k code, s.Held p k code → s.Refundable code

/-- What the invariant says of the calculator while it may have to start a computation (R128). -/
structure State.QueueKept (s : State) : Prop where
  once : s.rfc.queue.Nodup
  queued : ∀ k, k ∈ s.rfc.queue ↔ (s.slot k).state.phase = .queued
  busy : ∀ c, s.rfc.busy = some c → (∃ i, (s.slot c.slot).state = .computing i c.snapshot) ∨
    (s.slot c.slot).state = .cancelling
  working : ∀ k, (s.slot k).state.phase = .computing ∨ (s.slot k).state.phase = .cancelling →
    ∃ c, s.rfc.busy = some c ∧ c.slot = k

/-- R16: no quote is open in SETUP. -/
def State.FreeInSetup (s : State) : Prop := s.rcc.mode = .setup → ∀ k, (s.slot k).state = .free

/-- The invariant in its parts. -/
theorem State.quotesKept_iff (s : State) :
    s.QuotesKept ↔ s.HoldsKept ∧ s.QueueKept ∧ (s.rfc.busy = none → s.rfc.queue = []) ∧ s.FreeInSetup := by
  constructor
  · rintro ⟨hord, ⟨hnamed, hnaming⟩, ⟨h1, h2, h3, h4, h5⟩, hsetup, hterms⟩
    refine ⟨⟨hord, ?_, ?_, ?_⟩, ⟨h1, h2, h3, h4⟩, h5, hsetup⟩
    · intro k i hi
      obtain ⟨e, he, hp, hst⟩ := hnamed k i hi
      exact ⟨e.product, e, he, hp, hst, rfl⟩
    · rintro p k code ⟨e, he, rfl, hst, -⟩
      exact hnaming e he k hst
    · rintro p k code ⟨e, he, -, hst, rfl⟩
      exact (s.refundTerms_isSome_iff e).mp (hterms e he ((e.isHeld_iff).mpr ⟨k, hst⟩))
  · rintro ⟨⟨hord, hnamed, hnaming, hterms⟩, ⟨h1, h2, h3, h4⟩, h5, hsetup⟩
    refine ⟨hord, ⟨?_, ?_⟩, ⟨h1, h2, h3, h4, h5⟩, hsetup, ?_⟩
    · intro k i hi
      obtain ⟨code, e, he, hp, hst, -⟩ := hnamed k i hi
      exact ⟨e, he, hp, hst⟩
    · intro e he k hst
      exact hnaming e.pass k e.product ⟨e, he, rfl, hst, rfl⟩
    · intro e he hheld
      obtain ⟨k, hst⟩ := (e.isHeld_iff).mp hheld
      exact (s.refundTerms_isSome_iff e).mpr (hterms e.pass k e.product ⟨e, he, rfl, hst, rfl⟩)

/-! ## Changes that leave the held passes -/

theorem State.product?_congr {s u : State} (h : u.tariff = s.tariff) (code : Nat) : u.product? code = s.product? code := by
  rw [State.product?, State.productSlot, h]
  rfl

theorem State.HoldsKept.of_held {s u : State} (hs : s.HoldsKept) (hord : PassesOrdered u.passes)
    (hheld : ∀ p k code, u.Held p k code ↔ s.Held p k code) (hquotes : u.quotes = s.quotes)
    (htariff : u.tariff = s.tariff) : u.HoldsKept where
  ordered := hord
  named k i hi := by
    rw [State.slot_congr hquotes] at hi
    obtain ⟨code, h⟩ := hs.named k i hi
    exact ⟨code, (hheld _ _ _).mpr h⟩
  naming p k code h := by
    rw [State.slot_congr hquotes]
    exact hs.naming p k code ((hheld p k code).mp h)
  refundable p k code h := by
    obtain ⟨q, t, hq, ht⟩ := hs.refundable p k code ((hheld p k code).mp h)
    exact ⟨q, t, (State.product?_congr htariff code).trans hq, ht⟩

theorem State.QueueKept.congr {s u : State} (hs : s.QueueKept) (hquotes : u.quotes = s.quotes) (hrfc : u.rfc = s.rfc) :
    u.QueueKept := by
  obtain ⟨h1, h2, h3, h4⟩ := hs
  have hslot := fun k => State.slot_congr hquotes k
  exact ⟨hrfc ▸ h1, fun k => by rw [hrfc, hslot]; exact h2 k, fun c hc => by rw [hslot]; exact h3 c (hrfc ▸ hc),
    fun k hk => by rw [hslot] at hk; rw [hrfc]; exact h4 k hk⟩

/-- The blocks the invariant reads, the held passes the same. -/
theorem State.QuotesKept.of_held {s u : State} (hs : s.QuotesKept) (hord : PassesOrdered u.passes)
    (hheld : ∀ p k code, u.Held p k code ↔ s.Held p k code) (hquotes : u.quotes = s.quotes) (hrfc : u.rfc = s.rfc)
    (hmode : u.rcc.mode = s.rcc.mode) (htariff : u.tariff = s.tariff) : u.QuotesKept := by
  obtain ⟨hholds, hqueue, hidle, hsetup⟩ := s.quotesKept_iff.mp hs
  refine u.quotesKept_iff.mpr ⟨hholds.of_held hord hheld hquotes htariff, hqueue.congr hquotes hrfc, hrfc ▸ hidle, ?_⟩
  intro h k
  rw [State.slot_congr hquotes]
  exact hsetup (hmode ▸ h) k

theorem State.QuotesKept.congr {s u : State} (hs : s.QuotesKept) (hpasses : u.passes = s.passes)
    (hquotes : u.quotes = s.quotes) (hrfc : u.rfc = s.rfc) (hmode : u.rcc.mode = s.rcc.mode)
    (htariff : u.tariff = s.tariff) : u.QuotesKept :=
  hs.of_held (hpasses ▸ hs.1) (fun p k code => by rw [State.Held, hpasses]; rfl) hquotes hrfc hmode htariff

/-- Entries changed one by one, their passes, statuses and products kept. -/
theorem State.held_map {s u : State} {f : PassEntry → PassEntry} (hpasses : u.passes = s.passes.map f)
    (hf : ∀ e, (f e).pass = e.pass ∧ (f e).status = e.status ∧ (f e).product = e.product) (p : Nat) (k : SlotId)
    (code : Nat) : u.Held p k code ↔ s.Held p k code := by
  constructor
  · rintro ⟨y, hy, hp, hst, hc⟩
    rw [hpasses] at hy
    obtain ⟨e, he, rfl⟩ := List.mem_map.mp hy
    obtain ⟨h1, h2, h3⟩ := hf e
    exact ⟨e, he, h1 ▸ hp, h2 ▸ hst, h3 ▸ hc⟩
  · rintro ⟨e, he, hp, hst, hc⟩
    obtain ⟨h1, h2, h3⟩ := hf e
    exact ⟨f e, hpasses ▸ List.mem_map_of_mem he, h1.trans hp, h2.trans hst, h3.trans hc⟩

theorem State.held_updateIn {s u : State} {q : Nat} {f : PassEntry → PassEntry}
    (hpasses : u.passes = updateIn q f s.passes)
    (hf : ∀ e, (f e).pass = e.pass ∧ (f e).status = e.status ∧ (f e).product = e.product) (p : Nat) (k : SlotId)
    (code : Nat) : u.Held p k code ↔ s.Held p k code :=
  State.held_map hpasses (fun e => by split <;> simp [hf]) p k code

/-- One pass's entry changed to one that is not held: the others stay as they were. -/
theorem State.held_release {s u : State} {q : Nat} {f : PassEntry → PassEntry}
    (hpasses : u.passes = updateIn q f s.passes)
    (hf : ∀ e ∈ s.passes, e.pass = q → (f e).pass = e.pass ∧ (f e).isHeld = false) (p : Nat) (k : SlotId) (code : Nat) :
    u.Held p k code ↔ s.Held p k code ∧ p ≠ q := by
  constructor
  · rintro ⟨y, hy, hp, hst, hc⟩
    rw [hpasses] at hy
    obtain ⟨e, he, rfl⟩ := mem_updateIn.mp hy
    by_cases heq : e.pass = q
    · rw [if_pos heq] at hst
      have hheld := (hf e he heq).2
      simp [PassEntry.isHeld, hst] at hheld
    · rw [if_neg heq] at hp hst hc
      exact ⟨⟨e, he, hp, hst, hc⟩, hp ▸ heq⟩
  · rintro ⟨⟨e, he, hp, hst, hc⟩, hne⟩
    refine ⟨e, ?_, hp, hst, hc⟩
    rw [hpasses, mem_updateIn]
    exact ⟨e, he, if_neg (hp ▸ hne)⟩

/-- An entry that is not held may change to another that is not. -/
theorem State.QuotesKept.updateIn {s u : State} (hs : s.QuotesKept) {p : Nat} {e : PassEntry} {f : PassEntry → PassEntry}
    (hfind : s.findPass p = some e) (hheld : e.isHeld = false) (hf : ∀ e, (f e).pass = e.pass ∧ (f e).isHeld = false)
    (hpasses : u.passes = Machine.updateIn p f s.passes) (hquotes : u.quotes = s.quotes) (hrfc : u.rfc = s.rfc)
    (hmode : u.rcc.mode = s.rcc.mode) (htariff : u.tariff = s.tariff) : u.QuotesKept := by
  refine hs.of_held (hpasses ▸ hs.1.updateIn p fun e => (hf e).1) ?_ hquotes hrfc hmode htariff
  intro q k code
  rw [State.held_release hpasses fun e _ _ => hf e]
  refine ⟨And.left, fun h => ⟨h, ?_⟩⟩
  rintro rfl
  obtain ⟨x, hx, hp, hst, -⟩ := h
  obtain rfl := hs.1.eq_of_findPass hfind hx hp
  simp [PassEntry.isHeld, hst] at hheld

/-- Entries that are not held leave the table. -/
theorem State.QuotesKept.filter {s u : State} (hs : s.QuotesKept) {f : PassEntry → Bool}
    (hpasses : u.passes = s.passes.filter f) (hf : ∀ e ∈ s.passes, e.isHeld = true → f e = true)
    (hquotes : u.quotes = s.quotes) (hrfc : u.rfc = s.rfc) (hmode : u.rcc.mode = s.rcc.mode)
    (htariff : u.tariff = s.tariff) : u.QuotesKept := by
  refine hs.of_held (hpasses ▸ hs.1.filter _) ?_ hquotes hrfc hmode htariff
  intro q k code
  rw [State.Held, hpasses]
  constructor
  · rintro ⟨e, he, h⟩
    exact ⟨e, (List.mem_filter.mp he).1, h⟩
  · rintro ⟨e, he, hp, hst, hc⟩
    exact ⟨e, List.mem_filter.mpr ⟨he, hf e he ((e.isHeld_iff).mpr ⟨k, hst⟩)⟩, hp, hst, hc⟩

theorem State.lapse_held (s : State) (l : LaneId) (r : LapseReason) (p : Nat) (k : SlotId) (code : Nat) :
    (s.lapse l r).Held p k code ↔ s.Held p k code := by
  cases hp : s.pendingPass l with
  | none => rw [State.lapse_of_none hp]
  | some q => exact State.held_updateIn (State.lapse_of_some hp r).1 (fun _ => ⟨rfl, rfl, rfl⟩) p k code

theorem State.lapse_ordered {s : State} (hs : PassesOrdered s.passes) (l : LaneId) (r : LapseReason) :
    PassesOrdered (s.lapse l r).passes := by
  cases hp : s.pendingPass l with
  | none =>
    rw [State.lapse_of_none hp]
    exact hs
  | some q =>
    rw [(State.lapse_of_some hp r).1]
    exact hs.updateIn q fun _ => rfl

theorem State.QuotesKept.lapse {s : State} (hs : s.QuotesKept) (l : LaneId) (r : LapseReason) :
    (s.lapse l r).QuotesKept :=
  hs.of_held (State.lapse_ordered hs.1 l r) (s.lapse_held l r) (by simp) (by simp) (by simp) (by simp)

theorem State.QuotesKept.lapseAll {s : State} (hs : s.QuotesKept) (r : LapseReason) : (s.lapseAll r).QuotesKept :=
  (((hs.lapse 0 r).lapse 1 r).lapse 2 r).lapse 3 r

/-! ## A slot's state -/

theorem SlotState.identity?_of_phase {x : SlotState} (h : x.phase = .queued) : ∃ i, x = .queued i := by
  cases x <;> simp_all [SlotState.phase]

/-- The state of every slot after one slot has been given another. -/
theorem State.slot_state_of_set {s u : State} {k : SlotId} {x : QuoteSlot} (h : u.quotes = s.quotes.set k x) (j : SlotId) :
    (u.slot j).state = if j = k then x.state else (s.slot j).state := by
  rw [State.slot, h, Quad.get_set]
  split <;> rfl

/-! ## The end of a quote (R150, R157) -/

/-- A held pass is released and its slot given up. -/
theorem State.HoldsKept.release {s u : State} (hs : s.HoldsKept) {k : SlotId} {i : QuoteIdentity} {x : QuoteSlot}
    {st : PassStatus} (hi : (s.slot k).state.identity? = some i) (hst : ∀ j, st ≠ .refundHold j)
    (hx : x.state.identity? = none) (hquotes : u.quotes = s.quotes.set k x)
    (hpasses : u.passes = Machine.updateIn i.pass (fun e => { e with status := st }) s.passes)
    (htariff : u.tariff = s.tariff) : u.HoldsKept := by
  have hslot := State.slot_state_of_set hquotes
  have hheld : ∀ p j code, u.Held p j code ↔ s.Held p j code ∧ p ≠ i.pass :=
    State.held_release hpasses fun e _ _ => ⟨rfl, by cases st <;> simp_all [PassEntry.isHeld]⟩
  have hother : ∀ p j code, s.Held p j code → (p ≠ i.pass ↔ j ≠ k) := by
    rintro p j code ⟨e, he, hp, hej, -⟩
    obtain ⟨_, y, hy, hyp, hyk, -⟩ := hs.named k i hi
    constructor
    · rintro hne rfl
      obtain ⟨i', hi', hp'⟩ := hs.naming p j e.product ⟨e, he, hp, hej, rfl⟩
      exact hne (hp'.symm.trans (by rw [Option.some.inj (hi'.symm.trans hi)]))
    · rintro hne rfl
      obtain rfl := hs.ordered.eq_of_pass he hy (hp.trans hyp.symm)
      exact hne (by simpa using hej.symm.trans hyk)
  refine ⟨hpasses ▸ hs.ordered.updateIn _ fun _ => rfl, ?_, ?_, ?_⟩
  · intro j i' hi'
    rw [hslot] at hi'
    split at hi'
    · simp [hx] at hi'
    · rename_i hne
      obtain ⟨code, h⟩ := hs.named j i' hi'
      exact ⟨code, (hheld _ _ _).mpr ⟨h, (hother _ _ _ h).mpr hne⟩⟩
  · intro p j code h
    obtain ⟨h, hne⟩ := (hheld p j code).mp h
    rw [hslot, if_neg ((hother p j code h).mp hne)]
    exact hs.naming p j code h
  · intro p j code h
    obtain ⟨q, t, hq, ht⟩ := hs.refundable p j code ((hheld p j code).mp h).1
    exact ⟨q, t, (State.product?_congr htariff code).trans hq, ht⟩

/-- A slot that is given up leaves the queue; a computation in progress leaves it CANCELLING. -/
theorem State.QueueKept.release {s u : State} (hs : s.QueueKept) {k : SlotId} {i : QuoteIdentity} {x : QuoteSlot}
    (hi : (s.slot k).state.identity? = some i)
    (hx : x.state = if (s.slot k).state.phase = .computing then .cancelling else .free)
    (hquotes : u.quotes = s.quotes.set k x)
    (hrfc : u.rfc = { s.rfc with queue := s.rfc.queue.filter fun j => j != k }) : u.QueueKept := by
  have hslot := State.slot_state_of_set hquotes
  have hnot : x.state.phase ≠ .queued := by
    rw [hx]
    split <;> simp [SlotState.phase]
  refine ⟨by rw [hrfc]; exact hs.once.filter _, ?_, ?_, ?_⟩
  · intro j
    rw [hrfc, hslot, List.mem_filter, hs.queued j]
    by_cases hj : j = k
    · subst hj
      simp [hnot]
    · simp [hj]
  · intro c hc
    rw [hrfc] at hc
    rw [hslot]
    obtain ⟨i', hbusy⟩ | hbusy := hs.busy c hc
    · by_cases hj : c.slot = k
      · rw [if_pos hj, hx, ← hj, hbusy]
        exact .inr rfl
      · rw [if_neg hj]
        exact .inl ⟨i', hbusy⟩
    · have hj : c.slot ≠ k := fun h => by
        rw [← h, hbusy] at hi
        simp [SlotState.identity?] at hi
      rw [if_neg hj]
      exact .inr hbusy
  · intro j hj
    rw [hslot] at hj
    rw [hrfc]
    split at hj
    · rename_i heq
      rw [hx] at hj
      split at hj
      · rename_i hcomputing
        obtain ⟨c, hc, hck⟩ := hs.working k (.inl hcomputing)
        exact ⟨c, hc, hck.trans heq.symm⟩
      · simp [SlotState.phase] at hj
    · exact hs.working j hj

/-- Both, for a quote dropped or settled. -/
theorem State.QuotesKept.release {s u : State} (hs : s.QuotesKept) {k : SlotId} {i : QuoteIdentity} {x : QuoteSlot}
    {st : PassStatus} (hi : (s.slot k).state.identity? = some i) (hst : ∀ j, st ≠ .refundHold j)
    (hx : x.state = if (s.slot k).state.phase = .computing then .cancelling else .free)
    (hquotes : u.quotes = s.quotes.set k x)
    (hpasses : u.passes = Machine.updateIn i.pass (fun e => { e with status := st }) s.passes)
    (hrfc : u.rfc = { s.rfc with queue := s.rfc.queue.filter fun j => j != k }) (hmode : u.rcc.mode = s.rcc.mode)
    (htariff : u.tariff = s.tariff) : u.QuotesKept := by
  obtain ⟨hholds, hqueue, hidle, hsetup⟩ := s.quotesKept_iff.mp hs
  have hnone : x.state.identity? = none := by
    rw [hx]
    split <;> rfl
  refine u.quotesKept_iff.mpr ⟨hholds.release hi hst hnone hquotes hpasses htariff, hqueue.release hi hx hquotes hrfc,
    ?_, ?_⟩
  · intro hbusy
    rw [hrfc] at hbusy ⊢
    simp [hidle hbusy]
  · intro h
    have hfree := hsetup (hmode ▸ h) k
    rw [hfree] at hi
    simp [SlotState.identity?] at hi

theorem State.QuotesKept.dropQuote {s : State} (hs : s.QuotesKept) (k : SlotId) (r : DropReason) :
    (s.dropQuote k r).QuotesKept := by
  cases hi : (s.slot k).state.identity? with
  | none =>
    have hsame : s.dropQuote k r = s := by
      unfold State.dropQuote
      split <;> simp_all [SlotState.identity?]
    rw [hsame]
    exact hs
  | some i =>
    rw [State.dropQuote_eq hi]
    obtain ⟨hpasses, hrfc, hquotes, -⟩ := s.dropTo_spec k i.pass r
      (if (s.slot k).state.phase = .computing then .cancelling else .free)
    exact hs.release hi (by simp) rfl hquotes hpasses hrfc (by simp) (by simp)

theorem State.QuotesKept.settle {s : State} (hs : s.QuotesKept) {k : SlotId} {items : Settlement} {i : QuoteIdentity}
    {snap : Snapshot} {r : Results} {expiry : Nat} (h : (s.slot k).state = .quoted i snap r expiry)
    (hpass : items.pass = i.pass) : (s.settle k items).QuotesKept := by
  obtain ⟨-, hqueue, -⟩ := s.quotesKept_iff.mp hs
  have hout : ∀ j ∈ s.rfc.queue, (j != k) = true := by
    intro j hj
    have hphase := (hqueue.queued j).mp hj
    have hne : j ≠ k := fun heq => by simp [heq, h, SlotState.phase] at hphase
    simpa using hne
  refine hs.release (i := i) (st := .refunded) (x := { s.slot k with state := .free }) (by rw [h]; rfl) (by simp)
    (by simp [h, SlotState.phase]) ?_ ?_ ?_ (by simp) (by simp)
  · have hslot : ((((s.updatePass items.pass fun e => { e with status := .refunded }).writeRecord
        (.settlement items)).countSettlement items.payout).slot k) = s.slot k := State.slot_congr (by simp) k
    simp only [State.settle, State.setSlot, State.setQuotes_quotes, hslot]
    simp
  · simp [State.settle, hpass]
  · rw [List.filter_eq_self.mpr hout]
    simp

/-! ## The start of a computation (R129, R130) -/

/-- What `startComputation` does: nothing, or the first queued slot starts. -/
theorem State.startComputation_cases {s : State} (hs : s.HoldsKept) (hqueue : s.QueueKept) :
    (s.startComputation = s ∧ (s.rfc.busy = none → s.rfc.queue = [])) ∨
    ∃ k rest i snap, s.rfc.busy = none ∧ s.rfc.queue = k :: rest ∧ (s.slot k).state = .queued i ∧
      s.startComputation = (s.setRfc { busy := some (Computation.start k snap), queue := rest }).setSlot k
        { s.slot k with state := .computing i snap } := by
  cases hb : s.rfc.busy with
  | some c =>
    left
    refine ⟨?_, by simp⟩
    unfold State.startComputation
    rw [hb]
  | none =>
    cases hq : s.rfc.queue with
    | nil =>
      left
      refine ⟨?_, by simp⟩
      unfold State.startComputation
      rw [hb, hq]
    | cons k rest =>
      obtain ⟨i, hi⟩ := SlotState.identity?_of_phase ((hqueue.queued k).mp (by simp [hq]))
      obtain ⟨code, e, he, hp, hst, hc⟩ := hs.named k i (by rw [hi]; rfl)
      obtain ⟨q, t, hprod, hterms⟩ := hs.refundable i.pass k code ⟨e, he, hp, hst, hc⟩
      have hfind : s.findPass i.pass = some e := by
        cases hf : s.findPass i.pass with
        | none => exact absurd hp (State.forall_ne_of_findPass hf e he)
        | some x => rw [hs.ordered.eq_of_findPass hf he hp]
      have hsnap : ∃ snap, s.takeSnapshot i.pass = some snap := by
        simp only [State.takeSnapshot, hfind, State.refundTerms, hc, hprod, hterms, Option.map_some]
        exact ⟨_, rfl⟩
      obtain ⟨snap, hsnap⟩ := hsnap
      right
      refine ⟨k, rest, i, snap, rfl, rfl, hi, ?_⟩
      unfold State.startComputation
      rw [hb, hq]
      dsimp only
      rw [hi]
      dsimp only
      rw [hsnap]
      rfl

/-- R129: afterwards an IDLE calculator has an empty queue. -/
theorem State.quotesKept_startComputation {s : State} (hs : s.HoldsKept) (hqueue : s.QueueKept) (hsetup : s.FreeInSetup) :
    s.startComputation.QuotesKept := by
  obtain ⟨hsame, hidle⟩ | ⟨k, rest, i, snap, hb, hq, hi, hstart⟩ := State.startComputation_cases hs hqueue
  · rw [hsame]
    exact s.quotesKept_iff.mpr ⟨hs, hqueue, hidle, hsetup⟩
  · rw [hstart]
    have hslot : ∀ j, (((s.setRfc { busy := some (Computation.start k snap), queue := rest }).setSlot k
        { s.slot k with state := .computing i snap }).slot j).state =
        if j = k then .computing i snap else (s.slot j).state := fun j =>
      State.slot_state_of_set (s := s) (x := { s.slot k with state := .computing i snap }) rfl j
    have hnodup := hqueue.once
    rw [hq] at hnodup
    obtain ⟨hnotin, hrest⟩ := List.nodup_cons.mp hnodup
    refine (State.quotesKept_iff _).mpr ⟨⟨hs.ordered, ?_, ?_, hs.refundable⟩, ⟨hrest, ?_, ?_, ?_⟩, by simp, ?_⟩
    · intro j i' hi'
      rw [hslot] at hi'
      refine hs.named j i' ?_
      split at hi'
      · rename_i hj
        rw [hj, hi]
        exact hi'
      · exact hi'
    · intro p j code h
      obtain ⟨i', hi', hp⟩ := hs.naming p j code h
      refine ⟨i', ?_, hp⟩
      rw [hslot]
      split
      · rename_i hj
        rw [hj, hi] at hi'
        exact hi'
      · exact hi'
    · intro j
      rw [hslot]
      have hmem := hqueue.queued j
      rw [hq] at hmem
      by_cases hj : j = k
      · subst hj
        simp [hnotin, SlotState.phase]
      · rw [if_neg hj, ← hmem]
        simp [hj]
    · rintro c hc
      obtain rfl : Computation.start k snap = c := by simpa using hc
      left
      rw [hslot]
      exact ⟨i, if_pos rfl⟩
    · intro j hj
      rw [hslot] at hj
      split at hj
      · rename_i heq
        exact ⟨Computation.start k snap, rfl, heq.symm⟩
      · obtain ⟨c, hc, -⟩ := hqueue.working j hj
        rw [hb] at hc
        simp at hc
    · intro h
      have hfree := hsetup h k
      rw [hi] at hfree
      simp at hfree

/-! ## The acceptance of a quote (R149) -/

/-- R149, steps 1 to 3, before the start that follows. -/
def State.enqueueQuote (s : State) (k : SlotId) (p : Nat) (src : QuoteSource) : State :=
  let s := s.setSlot k { s.slot k with state := .queued { pass := p, source := src } }
  let s := s.updatePass p fun e => { e with status := .refundHold k }
  s.setRfc { s.rfc with queue := s.rfc.queue ++ [k] }

theorem State.acceptQuote_eq (s : State) (k : SlotId) (p : Nat) (src : QuoteSource) :
    s.acceptQuote k p src = (s.enqueueQuote k p src).startComputation := rfl

theorem State.enqueueQuote_passes (s : State) (k : SlotId) (p : Nat) (src : QuoteSource) :
    (s.enqueueQuote k p src).passes = Machine.updateIn p (fun e => { e with status := .refundHold k }) s.passes := rfl

theorem State.enqueueQuote_rfc (s : State) (k : SlotId) (p : Nat) (src : QuoteSource) :
    (s.enqueueQuote k p src).rfc = { s.rfc with queue := s.rfc.queue ++ [k] } := rfl

theorem State.enqueueQuote_slot (s : State) (k : SlotId) (p : Nat) (src : QuoteSource) (j : SlotId) :
    ((s.enqueueQuote k p src).slot j).state =
      if j = k then .queued { pass := p, source := src } else (s.slot j).state :=
  State.slot_state_of_set (s := s) (x := { s.slot k with state := .queued { pass := p, source := src } }) rfl j

/-- R149: the quoted pass is held besides those held before. -/
theorem State.enqueueQuote_held {s : State} (hord : PassesOrdered s.passes) {p : Nat} {e : PassEntry}
    (hfind : s.findPass p = some e) (hactive : e.status = .active) (k : SlotId) (src : QuoteSource) (q : Nat)
    (j : SlotId) (code : Nat) :
    (s.enqueueQuote k p src).Held q j code ↔ s.Held q j code ∨ (q = p ∧ j = k ∧ code = e.product) := by
  have hpasses := s.enqueueQuote_passes k p src
  constructor
  · rintro ⟨y, hy, hq, hst, hc⟩
    rw [hpasses] at hy
    obtain ⟨x, hx, rfl⟩ := mem_updateIn.mp hy
    by_cases hp : x.pass = p
    · obtain rfl := hord.eq_of_findPass hfind hx hp
      rw [if_pos hp] at hq hst hc
      obtain rfl : k = j := by simpa using hst
      exact .inr ⟨hq.symm.trans hp, rfl, hc.symm⟩
    · rw [if_neg hp] at hq hst hc
      exact .inl ⟨x, hx, hq, hst, hc⟩
  · rintro (⟨x, hx, hq, hst, hc⟩ | ⟨rfl, rfl, rfl⟩)
    · have hp : x.pass ≠ p := fun hp => by
        obtain rfl := hord.eq_of_findPass hfind hx hp
        simp [hactive] at hst
      exact ⟨x, hpasses ▸ mem_updateIn.mpr ⟨x, hx, if_neg hp⟩, hq, hst, hc⟩
    · have hpass := State.pass_of_findPass hfind
      refine ⟨{ e with status := .refundHold j }, ?_, hpass, rfl, rfl⟩
      exact hpasses ▸ mem_updateIn.mpr ⟨e, State.mem_of_findPass hfind, if_pos hpass⟩

theorem State.HoldsKept.enqueueQuote {s : State} (hs : s.HoldsKept) {k : SlotId} {p : Nat} {e : PassEntry}
    (src : QuoteSource) (hfind : s.findPass p = some e) (hactive : e.status = .active)
    (hterms : s.Refundable e.product) (hfree : (s.slot k).state = .free) : (s.enqueueQuote k p src).HoldsKept := by
  have hheld := State.enqueueQuote_held hs.ordered hfind hactive k src
  refine ⟨hs.ordered.updateIn p fun _ => rfl, ?_, ?_, ?_⟩
  · intro j i hi
    rw [State.enqueueQuote_slot] at hi
    split at hi
    · rename_i hj
      obtain rfl : ({ pass := p, source := src } : QuoteIdentity) = i := by simpa [SlotState.identity?] using hi
      exact ⟨e.product, (hheld _ _ _).mpr (.inr ⟨rfl, hj, rfl⟩)⟩
    · obtain ⟨code, hc⟩ := hs.named j i hi
      exact ⟨code, (hheld _ _ _).mpr (.inl hc)⟩
  · intro q j code hq
    rw [State.enqueueQuote_slot]
    obtain hq | ⟨rfl, rfl, -⟩ := (hheld q j code).mp hq
    · have hne : j ≠ k := fun hj => by
        obtain ⟨i, hi, -⟩ := hs.naming q j code hq
        rw [hj, hfree] at hi
        simp [SlotState.identity?] at hi
      rw [if_neg hne]
      exact hs.naming q j code hq
    · exact ⟨_, by rw [if_pos rfl]; rfl, rfl⟩
  · intro q j code hq
    obtain hq | ⟨-, -, rfl⟩ := (hheld q j code).mp hq
    · exact hs.refundable q j code hq
    · exact hterms

theorem State.QueueKept.enqueueQuote {s : State} (hs : s.QueueKept) {k : SlotId} (p : Nat) (src : QuoteSource)
    (hfree : (s.slot k).state = .free) : (s.enqueueQuote k p src).QueueKept := by
  have hnotin : k ∉ s.rfc.queue := fun hk => by
    have hphase := (hs.queued k).mp hk
    simp [hfree, SlotState.phase] at hphase
  refine ⟨?_, ?_, ?_, ?_⟩
  · rw [State.enqueueQuote_rfc]
    exact nodup_concat hs.once hnotin
  · intro j
    rw [State.enqueueQuote_slot, State.enqueueQuote_rfc, List.mem_append, List.mem_singleton]
    by_cases hj : j = k
    · simp [hj, SlotState.phase]
    · rw [if_neg hj, ← hs.queued j]
      simp [hj]
  · intro c hc
    have hbusy := hs.busy c hc
    have hne : c.slot ≠ k := fun hj => by
      rw [hj, hfree] at hbusy
      simp at hbusy
    rw [State.enqueueQuote_slot, if_neg hne]
    exact hbusy
  · intro j hj
    rw [State.enqueueQuote_slot] at hj
    split at hj
    · simp [SlotState.phase] at hj
    · exact hs.working j hj

theorem State.QuotesKept.acceptQuote {s : State} (hs : s.QuotesKept) {k : SlotId} {p : Nat} (src : QuoteSource)
    (hmode : s.rcc.mode = .run) (h : s.quoteChecks p = .slotFree k) : (s.acceptQuote k p src).QuotesKept := by
  obtain ⟨hholds, hqueue, -, -⟩ := s.quotesKept_iff.mp hs
  obtain ⟨e, hfind, -, hactive, hterms, hfree⟩ := State.quoteChecks_spec h
  rw [State.refundTerms_isSome_iff] at hterms
  rw [State.acceptQuote_eq]
  refine State.quotesKept_startComputation (hholds.enqueueQuote src hfind hactive hterms hfree)
    (hqueue.enqueueQuote p src hfree) fun hsetup => ?_
  have hrun : (s.enqueueQuote k p src).rcc.mode = .run := hmode
  exact absurd (hrun.symm.trans hsetup) (by simp)

/-! ## The completion of a computation (R132, R152) -/

/-- A slot's state changed to one with the same pass and source. -/
theorem State.HoldsKept.of_identity {s u : State} (hs : s.HoldsKept) {k : SlotId} {x : QuoteSlot}
    (hx : x.state.identity? = (s.slot k).state.identity?) (hquotes : u.quotes = s.quotes.set k x)
    (hpasses : u.passes = s.passes) (htariff : u.tariff = s.tariff) : u.HoldsKept := by
  have hidentity : ∀ j, (u.slot j).state.identity? = (s.slot j).state.identity? := by
    intro j
    rw [State.slot_state_of_set hquotes]
    split
    · rename_i hj
      rw [hj, hx]
    · rfl
  have hheld : ∀ p j code, u.Held p j code ↔ s.Held p j code := fun p j code => by rw [State.Held, hpasses]; rfl
  refine ⟨hpasses ▸ hs.ordered, ?_, ?_, ?_⟩
  · intro j i hi
    obtain ⟨code, h⟩ := hs.named j i (hidentity j ▸ hi)
    exact ⟨code, (hheld _ _ _).mpr h⟩
  · intro p j code h
    rw [hidentity]
    exact hs.naming p j code ((hheld p j code).mp h)
  · intro p j code h
    obtain ⟨q, t, hq, ht⟩ := hs.refundable p j code ((hheld p j code).mp h)
    exact ⟨q, t, (State.product?_congr htariff code).trans hq, ht⟩

/-- The busy slot is left for a state that is neither queued nor the calculator's, and the calculator is IDLE. -/
theorem State.QueueKept.finish {s u : State} (hs : s.QueueKept) {c : Computation} (hc : s.rfc.busy = some c)
    {x : QuoteSlot} (hx : x.state.phase = .quoted ∨ x.state.phase = .free) (hquotes : u.quotes = s.quotes.set c.slot x)
    (hrfc : u.rfc = { s.rfc with busy := none }) : u.QueueKept := by
  have hslot := State.slot_state_of_set hquotes
  have hnotin : c.slot ∉ s.rfc.queue := fun h => by
    have hphase := (hs.queued c.slot).mp h
    obtain ⟨i, hb⟩ | hb := hs.busy c hc <;> simp [hb, SlotState.phase] at hphase
  refine ⟨by rw [hrfc]; exact hs.once, ?_, by simp [hrfc], ?_⟩
  · intro j
    rw [hrfc, hslot]
    by_cases hj : j = c.slot
    · subst hj
      obtain h | h := hx <;> simp [h, hnotin]
    · rw [if_neg hj]
      exact hs.queued j
  · intro j hj
    rw [hslot] at hj
    split at hj
    · obtain h | h := hx <;> simp [h] at hj
    · rename_i hne
      obtain ⟨c', hc', hslot'⟩ := hs.working j hj
      obtain rfl : c = c' := Option.some.inj (hc.symm.trans hc')
      exact absurd hslot'.symm hne

/-- What the Quote Table makes of the results (R152). -/
theorem State.handOver_spec {s : State} (hs : s.QueueKept) {c : Computation} (hc : s.rfc.busy = some c) :
    ∃ x : QuoteSlot, (s.handOver c).quotes = s.quotes.set c.slot x ∧
      (x.state.phase = .quoted ∨ x.state.phase = .free) ∧ x.state.identity? = (s.slot c.slot).state.identity? := by
  obtain ⟨i, hb⟩ | hb := hs.busy c hc
  · refine ⟨{ s.slot c.slot with state := .quoted i c.snapshot c.results (s.stamp + s.rcc.site.holdTime) }, ?_,
      .inl rfl, by rw [hb]; rfl⟩
    unfold State.handOver
    rw [hb]
    rfl
  · refine ⟨{ s.slot c.slot with state := .free }, ?_, .inr rfl, by rw [hb]; rfl⟩
    unfold State.handOver
    rw [hb]
    rfl

theorem State.QuotesKept.complete {s : State} (hs : s.QuotesKept) : s.completeComputation.QuotesKept := by
  obtain ⟨hholds, hqueue, -, hsetup⟩ := s.quotesKept_iff.mp hs
  unfold State.completeComputation
  split
  · exact hs
  · rename_i c hc
    obtain ⟨x, hquotes, hphase, hidentity⟩ := State.handOver_spec hqueue hc
    have hpasses : (s.handOver c).passes = s.passes := by simp
    have htariff : (s.handOver c).tariff = s.tariff := by simp
    have hrfc : (s.handOver c).rfc = s.rfc := by simp
    have hmode : (s.handOver c).rcc = s.rcc := by simp
    generalize s.handOver c = v at hquotes hpasses htariff hrfc hmode
    refine State.quotesKept_startComputation
      (s := v.setRfc { v.rfc with busy := none }) (hholds.of_identity hidentity hquotes hpasses htariff)
      (hqueue.finish hc hphase hquotes (by simp [hrfc])) ?_
    intro h
    have hfree := hsetup (by simpa [hmode] using h) c.slot
    obtain ⟨i, hb⟩ | hb := hqueue.busy c hc <;> simp [hfree] at hb

/-! ## The warm restart (R17, step 3) -/

/-- What `restartSlot` does to a slot that names a pass. -/
theorem State.restartSlot_eq {s : State} {k : SlotId} {i : QuoteIdentity} (h : (s.slot k).state.identity? = some i) :
    s.restartSlot k = s.dropTo k i.pass .restart .free := by
  unfold State.restartSlot
  split <;> simp_all [SlotState.identity?]

theorem State.HoldsKept.restartSlot {s : State} (hs : s.HoldsKept) (k : SlotId) : (s.restartSlot k).HoldsKept := by
  cases hi : (s.slot k).state.identity? with
  | some i =>
    rw [State.restartSlot_eq hi]
    obtain ⟨hpasses, -, hquotes, -⟩ := s.dropTo_spec k i.pass .restart .free
    exact hs.release hi (st := .active) (by simp) (by rfl) hquotes hpasses (by simp)
  | none =>
    unfold State.restartSlot
    split <;> simp_all only [SlotState.identity?, reduceCtorEq]
    rename_i hstate
    exact hs.of_identity (x := { s.slot k with state := .free }) (by rw [hstate]; rfl) rfl rfl rfl

theorem State.QuotesKept.restartQuotes {s : State} (hs : s.QuotesKept) : s.restartSlots.QuotesKept := by
  obtain ⟨hholds, -⟩ := s.quotesKept_iff.mp hs
  have hfree := s.slot_restartSlots
  have hfreed := (((hholds.restartSlot 0).restartSlot 1).restartSlot 2).restartSlot 3
  have hrestarted : s.restartSlots.HoldsKept := ⟨hfreed.ordered, hfreed.named, hfreed.naming, hfreed.refundable⟩
  refine (State.quotesKept_iff _).mpr ⟨hrestarted, ⟨List.nodup_nil, ?_, ?_, ?_⟩, fun _ => rfl, fun _ => hfree⟩
  · intro k
    rw [hfree k]
    simp [State.restartSlots, SlotState.phase]
  · intro c hc
    simp [State.restartSlots] at hc
  · intro k hk
    simp [hfree k, SlotState.phase] at hk

/-! ## Every change -/

theorem State.QuotesKept.clock {s : State} (hs : s.QuotesKept) {r : ClockBlock}
    (hmode : r.mode = .setup → s.rcc.mode = .setup ∨ ∀ k, (s.slot k).state = .free) : (s.setRcc r).QuotesKept := by
  obtain ⟨hholds, hqueue, hidle, hsetup⟩ := s.quotesKept_iff.mp hs
  refine (State.quotesKept_iff _).mpr ⟨hholds.of_held hholds.ordered (fun _ _ _ => Iff.rfl) rfl rfl,
    hqueue.congr rfl rfl, hidle, fun h k => ?_⟩
  obtain hm | hfree := hmode h
  · exact hsetup hm k
  · exact hfree k

/-- In SETUP no pass is held, so the products may change. -/
theorem State.QuotesKept.setProductSlot {s : State} (hs : s.QuotesKept) (hmode : s.rcc.mode = .setup) (code : Nat)
    (x : ProductSlot) : (s.setProductSlot code x).QuotesKept := by
  obtain ⟨hholds, hqueue, hidle, hsetup⟩ := s.quotesKept_iff.mp hs
  have hnone : ∀ p k c, ¬ s.Held p k c := by
    intro p k c h
    obtain ⟨i, hi, -⟩ := hholds.naming p k c h
    rw [hsetup hmode k] at hi
    simp [SlotState.identity?] at hi
  exact (State.quotesKept_iff _).mpr ⟨⟨hholds.ordered, hholds.named, hholds.naming, fun p k c h => absurd h (hnone p k c)⟩,
    hqueue.congr rfl rfl, hidle, hsetup⟩

/-- The status a record carries is not REFUND_HOLD (R33). -/
theorem State.not_held_of_recordStatus {s : State} {r : PassRecord} {st : PassStatus} (h : s.recordStatus? r = some st) :
    ∀ k, st ≠ .refundHold k := by
  obtain ⟨-, -, -, -, hst⟩ := (s.recordStatus?_eq_some_iff r st).mp h
  obtain ⟨-, rfl⟩ | ⟨-, rfl⟩ | ⟨-, rfl⟩ := hst <;> simp

theorem isHeld_of_status {e : PassEntry} (h : ∀ k, e.status ≠ .refundHold k) : e.isHeld = false := by
  cases hst : e.status <;> simp_all [PassEntry.isHeld]

theorem State.QuotesKept.addPass {s : State} (hs : s.QuotesKept) {r : PassRecord} {st : PassStatus}
    (hr : s.recordStatus? r = some st) (hfind : s.findPass r.pass.toNat = none) : (s.addPass r st).QuotesKept := by
  refine hs.of_held (hs.1.insertEntry (State.forall_ne_of_findPass hfind)) ?_ rfl rfl rfl rfl
  intro p k code
  constructor
  · rintro ⟨e, he, hp, hst, hc⟩
    obtain rfl | he := mem_insertEntry.mp he
    · exact absurd hst (State.not_held_of_recordStatus hr k)
    · exact ⟨e, he, hp, hst, hc⟩
  · rintro ⟨e, he, h⟩
    exact ⟨e, mem_insertEntry.mpr (.inr he), h⟩

/-- Every change of the state keeps the correspondence. -/
theorem State.QuotesKept.effect {s u : State} (hs : s.QuotesKept) (h : Effect s u) : u.QuotesKept := by
  have hquiet : ∀ {v : State}, v.passes = s.passes → v.quotes = s.quotes → v.rfc = s.rfc → v.rcc.mode = s.rcc.mode →
      v.tariff = s.tariff → v.QuotesKept := fun h1 h2 h3 h4 h5 => hs.congr h1 h2 h3 h4 h5
  cases h
  case clock r hmode _ => exact hs.clock hmode
  case shut r reason hmode =>
    have hset : (s.setRcc r).QuotesKept := hs.clock fun h => .inl (hmode ▸ h)
    exact hset.lapseAll reason
  case shutLift r v reason hmode =>
    have hset : ((s.setRcc r).writeRecord (.lift v)).QuotesKept :=
      (hs.clock fun h => .inl (hmode ▸ h) : (s.setRcc r).QuotesKept).congr (by simp) (by simp) (by simp) (by simp)
        (by simp)
    exact hset.lapseAll reason
  case putProduct code f p hmode _ _ _ => exact hs.setProductSlot hmode code _
  case clearProduct code hmode _ => exact hs.setProductSlot hmode code _
  case addPass r st hr hfind _ => exact hs.addPass hr hfind
  case rewritePass r st e hr hfind _ hheld =>
    exact hs.updateIn (f := fun e => e.rewrite r st) hfind hheld
      (fun e => ⟨rfl, isHeld_of_status (State.not_held_of_recordStatus hr)⟩) rfl rfl rfl rfl rfl
  case markPass p =>
    exact hs.of_held (hs.1.updateIn p fun _ => rfl) (State.held_updateIn rfl fun _ => ⟨rfl, rfl, rfl⟩) rfl rfl rfl rfl
  case clearMarks =>
    exact hs.of_held (hs.1.map fun _ => rfl) (State.held_map rfl fun _ => ⟨rfl, rfl, rfl⟩) rfl rfl rfl rfl
  case setStatus p st e hst hfind hheld =>
    refine hs.updateIn (f := fun e => { e with status := st }) hfind hheld (fun e => ⟨rfl, isHeld_of_status ?_⟩) rfl rfl
      rfl rfl rfl
    obtain rfl | rfl := hst <;> simp
  case removePass p e hfind _ hheld =>
    refine hs.filter rfl (fun x hx h => ?_) rfl rfl rfl rfl
    have hne : x.pass ≠ p := fun hp => by
      obtain rfl := hs.1.eq_of_findPass hfind hx hp
      simp [hheld] at h
    simpa using hne
  case sweep => exact hs.filter rfl (fun x _ h => by simp [PassEntry.isProtected, h]) rfl rfl rfl rfl
  case merge e days _ =>
    exact hs.of_held (hs.1.updateIn _ fun _ => rfl) (State.held_updateIn rfl fun _ => ⟨rfl, rfl, rfl⟩) rfl rfl rfl rfl
  case fault l f x _ =>
    have hlatched : ((s.setLane l ((s.lane l).latch f)).writeRecord (.fault l x)).QuotesKept :=
      hquiet (by simp) (by simp) (by simp) (by simp) (by simp)
    generalize (s.setLane l ((s.lane l).latch f)).writeRecord (.fault l x) = v at hlatched
    have hdark : (v.setLane l { v.lane l with display := none }).QuotesKept := hlatched.congr rfl rfl rfl rfl rfl
    exact (hdark.lapse l .fault).congr (by simp [State.enterFault]) (by simp) (by simp) (by simp) (by simp)
  case lock l =>
    have hlocked : (s.setLane l { s.lane l with armOverride := .lock }).QuotesKept := hquiet rfl rfl rfl rfl rfl
    exact (hlocked.lapse l .locked).congr (by simp) (by simp) (by simp) (by simp) (by simp)
  case lapse l reason => exact hs.lapse l reason
  case admission l p _ _ =>
    refine hs.of_held (hs.1.updateIn p fun _ => rfl)
      (State.held_updateIn (q := p) (f := fun e => { e with marker := some { lane := l, day := s.today } }) rfl
        fun _ => ⟨rfl, rfl, rfl⟩) (by simp) (by simp) (by simp) (by simp)
  case commit l e m _ _ =>
    have hpasses := s.commitEntry_passes l e m
    have hcommitted : (s.commitEntry l e m).QuotesKept :=
      hs.of_held (hpasses ▸ hs.1.updateIn _ fun _ => rfl) (State.held_updateIn hpasses fun _ => ⟨rfl, rfl, rfl⟩) (by simp)
        (by simp) (by simp) (by simp)
    exact hcommitted.congr (by simp) (by simp) (by simp) (by simp) (by simp)
  case accept k p src hmode h => exact hs.acceptQuote src hmode h
  case drop k reason => exact hs.dropQuote k reason
  case restartQuotes => exact hs.restartQuotes
  case settle k items i snap r expiry h hpass _ => exact hs.settle h hpass
  case complete => exact hs.complete
  case calculate =>
    unfold State.calculatorStep
    split
    · exact hs
    · rename_i c hc
      obtain ⟨hholds, hqueue, -, hsetup⟩ := s.quotesKept_iff.mp hs
      have hadvance : c.advance.slot = c.slot ∧ c.advance.snapshot = c.snapshot := by
        unfold Computation.advance
        split <;> exact ⟨rfl, rfl⟩
      refine (State.quotesKept_iff _).mpr ⟨hholds.of_held hholds.ordered (fun _ _ _ => Iff.rfl) rfl rfl,
        ⟨hqueue.once, hqueue.queued, ?_, ?_⟩, by simp, hsetup⟩
      · rintro _ ⟨⟩
        rw [hadvance.1, hadvance.2]
        exact hqueue.busy c hc
      · intro k hk
        obtain ⟨c', hc', hslot⟩ := hqueue.working k hk
        obtain rfl : c = c' := Option.some.inj (hc.symm.trans hc')
        exact ⟨c.advance, rfl, hadvance.1.trans hslot⟩
  case cold rate1 rate0 =>
    have hfree : ∀ k, ((s.coldReset rate1 rate0).slot k).state = .free := by
      intro k
      match k with
      | 0 | 1 | 2 | 3 => rfl
    have hnone : ∀ p k code, ¬ (s.coldReset rate1 rate0).Held p k code := by
      rintro p k code ⟨e, he, -⟩
      exact absurd he List.not_mem_nil
    refine (State.quotesKept_iff _).mpr ⟨⟨List.Pairwise.nil, ?_, fun p k code h => absurd h (hnone p k code),
      fun p k code h => absurd h (hnone p k code)⟩, ⟨List.nodup_nil, ?_, ?_, ?_⟩, fun _ => rfl, fun _ => hfree⟩
    · intro k i hi
      simp [hfree k, SlotState.identity?] at hi
    · intro k
      rw [hfree k]
      exact ⟨fun h => absurd h List.not_mem_nil, fun h => by simp [SlotState.phase] at h⟩
    · rintro c ⟨⟩
    · intro k hk
      simp [hfree k, SlotState.phase] at hk
  all_goals exact hquiet (by simp) (by simp) (by simp) (by simp) (by simp)

/-! ## The working quantities (R132) -/

/-- The property reads the calculator only. -/
theorem State.WorkKept.congr {s u : State} (hs : s.WorkKept) (h : u.rfc.busy = s.rfc.busy) : u.WorkKept := fun c hc =>
  hs c (h ▸ hc)

/-- R128: a computation starts with no step made. -/
theorem State.WorkKept.startComputation {s : State} (hs : s.WorkKept) : s.startComputation.WorkKept := by
  unfold State.startComputation
  split
  · split
    · split
      · rintro c ⟨⟩
        exact ⟨Nat.zero_le _, rfl⟩
      · exact hs
    · exact hs
  · exact hs

/-- R132: one step more, up to the 120th. -/
theorem State.WorkKept.calculatorStep {s : State} (hs : s.WorkKept) : s.calculatorStep.WorkKept := by
  unfold State.calculatorStep
  split
  · exact hs
  · rename_i c hc
    obtain ⟨hsteps, hwork⟩ := hs c hc
    rintro _ ⟨⟩
    unfold Computation.advance
    split
    · rename_i hlt
      exact ⟨hlt, by rw [hwork]; rfl⟩
    · exact ⟨hsteps, hwork⟩

theorem State.dropQuote_busy (s : State) (k : SlotId) (r : DropReason) : (s.dropQuote k r).rfc.busy = s.rfc.busy := by
  have hdrop : ∀ p next, (s.dropTo k p r next).rfc.busy = s.rfc.busy := fun p next => by
    rw [(s.dropTo_spec k p r next).2.1]
  unfold State.dropQuote
  split
  · exact hdrop _ _
  · exact hdrop _ _
  · exact hdrop _ _
  · rfl
  · rfl

/-- Every change of the state keeps the working quantities those that the steps made give. -/
theorem State.WorkKept.effect {s u : State} (hs : s.WorkKept) (h : Effect s u) : u.WorkKept := by
  cases h
  case accept k p src _ _ => exact State.WorkKept.startComputation (hs.congr rfl)
  case drop k reason => exact hs.congr (s.dropQuote_busy k reason)
  case restartQuotes => rintro c ⟨⟩
  case complete =>
    unfold State.completeComputation
    split
    · exact hs
    · refine State.WorkKept.startComputation ?_
      rintro c ⟨⟩
  case calculate => exact hs.calculatorStep
  case cold => rintro c ⟨⟩
  all_goals exact hs.congr (by simp [State.setProductSlot, State.addPass, State.rewritePass, State.markPass, State.setStatus])

/-- Settles O58: each change a step makes keeps the correspondence and the working quantities. -/
theorem quotesKeptByEveryStep : Obligations.QuotesKeptByEveryStep :=
  ⟨keptByStep_of_effects fun _ _ hs => hs.effect, keptByStep_of_effects fun _ _ hs => hs.effect⟩

end Sys2Proof.Machine
end

section
/-!
PROOFS. The balances of the Rider Tally: riders against the lanes' counts and the hour bins (R121), and admissions against
paid, lapsed and pending (R112).
-/

namespace Sys2Proof.Machine

/-- A member set twice keeps the later value. -/
theorem Quad.set_set {α : Type} (q : Quad α) (i : Fin 4) (x y : α) : (q.set i x).set i y = q.set i y := by
  match i with
  | 0 | 1 | 2 | 3 => rfl

/-! ## Counters below their ceiling (R123) -/

/-- A counter below its ceiling after a count has taken it. -/
theorem bump_of_lt {n : Nat} (h : bump n < Config.counterCeiling) : bump n = n + 1 ∧ n < Config.counterCeiling := by
  simp only [bump, satAdd] at h ⊢
  omega

theorem total_eq_sum (ns : List Nat) : total ns = ns.sum := List.sum_eq_foldl_nat.symm

theorem sum_set_succ {ns : List Nat} {i : Nat} (h : i < ns.length) : (ns.set i (ns[i] + 1)).sum = ns.sum + 1 := by
  induction ns generalizing i with
  | nil => simp at h
  | cons n ns ih =>
    cases i with
    | zero =>
      simp
      omega
    | succ i =>
      have htail := ih (i := i) (by simpa using h)
      simp only [List.set_cons_succ, List.sum_cons, List.getElem_cons_succ, htail]
      omega

/-- One more count in a bin, while no bin is at its ceiling. -/
theorem bumpAt_balance {v : Vector Nat 24} {i : Nat} (hi : i < 24)
    (h : ∀ n ∈ (bumpAt v i).toList, n < Config.counterCeiling) :
    (∀ n ∈ v.toList, n < Config.counterCeiling) ∧ (bumpAt v i).toList.sum = v.toList.sum + 1 := by
  have hlen : i < v.toList.length := by simpa using hi
  have hget : v[i]?.getD 0 = v.toList[i] := by simp [hi]
  have hlist : (bumpAt v i).toList = v.toList.set i (bump v.toList[i]) := by
    rw [bumpAt, Vector.toList_setIfInBounds, hget]
  rw [hlist] at h ⊢
  obtain ⟨hbump, hlt⟩ := bump_of_lt (h _ (List.mem_set hlen _))
  refine ⟨?_, by rw [hbump, sum_set_succ hlen]⟩
  intro n hn
  obtain ⟨j, hj, rfl⟩ := List.getElem_of_mem hn
  by_cases hij : i = j
  · subst hij
    exact hlt
  · refine h _ ?_
    rw [← List.getElem_set_ne hij (a := bump v.toList[i]) (by simpa using hj)]
    exact List.getElem_mem _

/-! ## The riders of a set (R121) -/

/-- The riders a lane has counted. -/
def LaneCounters.riderTotal (c : LaneCounters) : Nat := c.paid + c.free + c.forced + c.under

/-- None of the lane's rider counts has reached its ceiling. -/
def LaneCounters.RidersBelow (c : LaneCounters) : Prop :=
  c.paid < Config.counterCeiling ∧ c.free < Config.counterCeiling ∧ c.forced < Config.counterCeiling ∧
  c.under < Config.counterCeiling

/-- The riders all lanes have counted. -/
def TallySet.riderTotal (t : TallySet) : Nat :=
  (t.lanes.get 0).riderTotal + (t.lanes.get 1).riderTotal + (t.lanes.get 2).riderTotal + (t.lanes.get 3).riderTotal

/-- R121 of one set. -/
def TallySet.Balanced (t : TallySet) : Prop :=
  t.riders < Config.counterCeiling → (∀ l, (t.lanes.get l).RidersBelow) →
    (∀ n ∈ t.hours.toList, n < Config.counterCeiling) → t.riders = t.riderTotal ∧ t.riders = t.hours.toList.sum

theorem TallySet.total_riderCounts (t : TallySet) : total t.riderCounts = t.riderTotal := by
  rw [total_eq_sum]
  simp [TallySet.riderCounts, LaneCounters.riderCounts, TallySet.riderTotal, LaneCounters.riderTotal, Quad.toList,
    Quad.get]
  omega

theorem TallySet.riderCounts_below_iff (t : TallySet) :
    (∀ n ∈ t.riderCounts, n < Config.counterCeiling) ↔ ∀ l, (t.lanes.get l).RidersBelow := by
  constructor
  · intro h l
    have hlane : ∀ n ∈ (t.lanes.get l).riderCounts, n < Config.counterCeiling := by
      intro n hn
      refine h n (List.mem_flatten.mpr ⟨_, List.mem_map_of_mem ?_, hn⟩)
      match l with
      | 0 | 1 | 2 | 3 => simp [Quad.toList, Quad.get]
    simpa [LaneCounters.riderCounts, LaneCounters.RidersBelow] using hlane
  · intro h n hn
    obtain ⟨ns, hns, hn⟩ := List.mem_flatten.mp hn
    obtain ⟨c, hc, rfl⟩ := List.mem_map.mp hns
    have hbelow : c.RidersBelow := by
      simp only [Quad.toList, List.mem_cons, List.not_mem_nil, or_false] at hc
      obtain rfl | rfl | rfl | rfl := hc
      · exact h 0
      · exact h 1
      · exact h 2
      · exact h 3
    obtain ⟨h1, h2, h3, h4⟩ := hbelow
    simp only [LaneCounters.riderCounts, List.mem_cons, List.not_mem_nil, or_false] at hn
    obtain rfl | rfl | rfl | rfl := hn <;> assumption

theorem State.ridersBalanced_iff (s : State) : s.RidersBalanced ↔ s.tally.today.Balanced := by
  rw [State.RidersBalanced, TallySet.ridersBelowCeiling, TallySet.riderCounts_below_iff, TallySet.total_riderCounts,
    total_eq_sum]
  constructor
  · exact fun h h1 h2 h3 => h ⟨h1, h2, h3⟩
  · exact fun h ⟨h1, h2, h3⟩ => h h1 h2 h3

/-- The riders of a set after one lane's counters have been replaced. -/
theorem TallySet.riderTotal_of_set {t u : TallySet} {l : LaneId} {c : LaneCounters} (h : u.lanes = t.lanes.set l c) :
    u.riderTotal + (t.lanes.get l).riderTotal = t.riderTotal + c.riderTotal := by
  rw [TallySet.riderTotal, TallySet.riderTotal, h]
  match l with
  | 0 | 1 | 2 | 3 =>
    simp
    omega

/-- The same rider counts everywhere. -/
theorem TallySet.Balanced.congr {t u : TallySet} (ht : t.Balanced) (hriders : u.riders = t.riders)
    (hhours : u.hours = t.hours) (htotal : u.riderTotal = t.riderTotal)
    (hbelow : ∀ l, (u.lanes.get l).RidersBelow → (t.lanes.get l).RidersBelow) : u.Balanced := by
  intro h1 h2 h3
  rw [hriders] at h1 ⊢
  rw [hhours] at h3 ⊢
  rw [htotal]
  exact ht h1 (fun l => hbelow l (h2 l)) h3

/-- One lane's counters replaced by others that count the same riders. -/
theorem TallySet.Balanced.of_set {t u : TallySet} (ht : t.Balanced) {l : LaneId} {c : LaneCounters}
    (hlanes : u.lanes = t.lanes.set l c) (hriders : u.riders = t.riders) (hhours : u.hours = t.hours)
    (hpaid : c.paid = (t.lanes.get l).paid) (hfree : c.free = (t.lanes.get l).free)
    (hforced : c.forced = (t.lanes.get l).forced) (hunder : c.under = (t.lanes.get l).under) : u.Balanced := by
  refine ht.congr hriders hhours ?_ ?_
  · have htotal := TallySet.riderTotal_of_set hlanes
    simp only [LaneCounters.riderTotal, hpaid, hfree, hforced, hunder] at htotal
    omega
  · intro k
    rw [hlanes, Quad.get_set]
    split
    · rename_i hk
      subst hk
      rw [LaneCounters.RidersBelow, hpaid, hfree, hforced, hunder]
      exact id
    · exact id

/-- R120: one rider more in a lane's category, in riders and in an hour bin. -/
theorem TallySet.Balanced.rider {t u : TallySet} (ht : t.Balanced) {l : LaneId} {c : LaneCounters} {i : Nat} (hi : i < 24)
    (hlanes : u.lanes = t.lanes.set l c) (hriders : u.riders = bump t.riders) (hhours : u.hours = bumpAt t.hours i)
    (hc : c.RidersBelow → (t.lanes.get l).RidersBelow ∧ c.riderTotal = (t.lanes.get l).riderTotal + 1) : u.Balanced := by
  intro h1 h2 h3
  rw [hriders] at h1 ⊢
  rw [hhours] at h3 ⊢
  obtain ⟨hbump, hlt⟩ := bump_of_lt h1
  obtain ⟨hbins, hsum⟩ := bumpAt_balance hi h3
  have hlane := h2 l
  rw [hlanes, Quad.get_set_self] at hlane
  obtain ⟨hbefore, hone⟩ := hc hlane
  obtain ⟨heq, heq'⟩ := ht hlt (fun k => by
    have hk := h2 k
    rw [hlanes, Quad.get_set] at hk
    split at hk
    · rename_i hkl
      exact hkl ▸ hbefore
    · exact hk) hbins
  have htotal := TallySet.riderTotal_of_set hlanes
  omega

/-- R1: the wall hour is one of the 24 hour bins. -/
theorem State.wallHour_lt (s : State) : s.wallHour < 24 := by
  unfold State.wallHour State.wallMinute
  omega

/-- R120: what a counted rider makes of today's set. -/
theorem State.countRider_today (s : State) (l : LaneId) (cat : RiderCategory) :
    (s.countRider l cat).tally.today = { s.tally.today with
      lanes := s.tally.today.lanes.set l ((s.tally.today.lanes.get l).addRider cat)
      riders := bump s.tally.today.riders
      hours := bumpAt s.tally.today.hours s.wallHour } := rfl

theorem LaneCounters.addRider_below {c : LaneCounters} {cat : RiderCategory} (hcat : cat ≠ .paid)
    (h : (c.addRider cat).RidersBelow) : c.RidersBelow ∧ (c.addRider cat).riderTotal = c.riderTotal + 1 := by
  obtain ⟨h1, h2, h3, h4⟩ := h
  cases cat with
  | paid => exact absurd rfl hcat
  | free =>
    obtain ⟨hb, hlt⟩ := bump_of_lt h2
    refine ⟨⟨h1, hlt, h3, h4⟩, ?_⟩
    simp only [LaneCounters.addRider, LaneCounters.riderTotal, hb]
    omega
  | forced =>
    obtain ⟨hb, hlt⟩ := bump_of_lt h3
    refine ⟨⟨h1, h2, hlt, h4⟩, ?_⟩
    simp only [LaneCounters.addRider, LaneCounters.riderTotal, hb]
    omega
  | under =>
    obtain ⟨hb, hlt⟩ := bump_of_lt h4
    refine ⟨⟨h1, h2, h3, hlt⟩, ?_⟩
    simp only [LaneCounters.addRider, LaneCounters.riderTotal, hb]
    omega

/-- R101, R120: what a commit and its handover make of today's set: the paid count of the lane, riders and the hour bin. -/
theorem State.commit_today (s : State) (l : LaneId) (e : PassEntry) (m : AdmissionMarker) :
    ∃ n, ((s.commitEntry l e m).handRotation l .paid).tally.today = { s.tally.today with
      lanes := s.tally.today.lanes.set l
        { s.tally.today.lanes.get l with paid := bump (s.tally.today.lanes.get l).paid }
      newDays := n
      riders := bump s.tally.today.riders
      hours := bumpAt s.tally.today.hours s.wallHour } := by
  have htally : ∀ v : State, (v.handRotation l .paid).tally = (v.countRider l .paid).tally := fun _ => rfl
  have hhour : (s.commitEntry l e m).wallHour = s.wallHour := by
    simp [State.wallHour, State.wallMinute]
  have hcommit : ∃ n, (s.commitEntry l e m).tally.today = { s.tally.today with
      lanes := s.tally.today.lanes.set l
        { s.tally.today.lanes.get l with paid := bump (s.tally.today.lanes.get l).paid }
      newDays := n } := by
    simp only [State.commitEntry, State.countPaid]
    split
    · exact ⟨_, by simp; rfl⟩
    · exact ⟨s.tally.today.newDays, by simp⟩
  obtain ⟨n, hcommit⟩ := hcommit
  refine ⟨n, ?_⟩
  rw [htally, State.countRider_today, hcommit, hhour]
  simp [LaneCounters.addRider, Quad.set_set]

/-! ## Riders through every change (R121) -/

/-- The property reads today's set only. -/
theorem State.RidersBalanced.congr {s u : State} (hs : s.RidersBalanced) (h : u.tally.today = s.tally.today) :
    u.RidersBalanced := by
  rw [State.ridersBalanced_iff] at hs ⊢
  rw [h]
  exact hs

/-- A lapse counts no rider. -/
theorem State.RidersBalanced.lapse {s : State} (hs : s.RidersBalanced) (l : LaneId) (r : LapseReason) :
    (s.lapse l r).RidersBalanced := by
  cases hp : s.pendingPass l with
  | none =>
    rw [State.lapse_of_none hp]
    exact hs
  | some p =>
    rw [State.ridersBalanced_iff] at hs ⊢
    rw [(State.lapse_of_some hp r).2.2.1]
    exact hs.of_set rfl rfl rfl rfl rfl rfl rfl

theorem State.RidersBalanced.lapseAll {s : State} (hs : s.RidersBalanced) (r : LapseReason) :
    (s.lapseAll r).RidersBalanced := (((hs.lapse 0 r).lapse 1 r).lapse 2 r).lapse 3 r

/-- A cleared set has counted no rider. -/
theorem State.balanced_clearedSet (s : State) (day : Option Nat) : (s.clearedSet day).Balanced := by
  intro _ _ _
  refine ⟨?_, ?_⟩
  · simp [State.clearedSet, TallySet.zero, TallySet.riderTotal, LaneCounters.riderTotal, LaneCounters.zero]
  · simp [State.clearedSet, TallySet.zero]

/-- Every change of the state keeps the balance of riders. -/
theorem State.RidersBalanced.effect {s u : State} (hs : s.RidersBalanced) (h : Effect s u) : u.RidersBalanced := by
  have htoday := (s.ridersBalanced_iff).mp hs
  cases h
  case shut r reason _ => exact State.RidersBalanced.lapseAll (s := s.setRcc r) hs reason
  case shutLift r v reason _ =>
    exact State.RidersBalanced.lapseAll (s := (s.setRcc r).writeRecord (.lift v)) (hs.congr (by simp)) reason
  case fault l f x _ =>
    have hlatched : ((s.setLane l ((s.lane l).latch f)).writeRecord (.fault l x)).RidersBalanced := hs.congr (by simp)
    generalize (s.setLane l ((s.lane l).latch f)).writeRecord (.fault l x) = v at hlatched
    exact (State.RidersBalanced.lapse (s := v.setLane l { v.lane l with display := none }) hlatched l .fault).congr
      (by simp [State.enterFault])
  case lock l =>
    exact (State.RidersBalanced.lapse (s := s.setLane l { s.lane l with armOverride := .lock }) hs l .locked).congr
      (by simp)
  case lapse l reason => exact hs.lapse l reason
  case admission l p _ _ =>
    refine (State.ridersBalanced_iff _).mpr (htoday.of_set (l := l) (c := { s.tally.today.lanes.get l with
      admittedCount := bump (s.tally.today.lanes.get l).admittedCount }) ?_ ?_ ?_ rfl rfl rfl rfl)
    all_goals simp [State.admitPass]
  case count l f hf =>
    obtain ⟨-, hpaid, -, hfree, hforced, hunder⟩ := hf (s.tally.today.lanes.get l)
    exact (State.ridersBalanced_iff _).mpr (htoday.of_set rfl rfl rfl hpaid hfree hforced hunder)
  case rider l cat hcat =>
    exact (State.ridersBalanced_iff _).mpr
      (htoday.rider s.wallHour_lt rfl rfl rfl fun hc => LaneCounters.addRider_below hcat hc)
  case commit l e m _ _ =>
    obtain ⟨n, hcommit⟩ := s.commit_today l e m
    refine (State.ridersBalanced_iff _).mpr ?_
    rw [State.setLane, State.setLanes_tally, hcommit]
    refine htoday.rider s.wallHour_lt rfl rfl rfl ?_
    rintro ⟨h1, h2, h3, h4⟩
    obtain ⟨hb, hlt⟩ := bump_of_lt h1
    refine ⟨⟨hlt, h2, h3, h4⟩, ?_⟩
    simp only [LaneCounters.riderTotal, hb]
    omega
  case tally t hlanes hriders hhours =>
    refine (State.ridersBalanced_iff _).mpr (htoday.congr hriders hhours ?_ ?_)
    · simp [TallySet.riderTotal, hlanes]
    · simp [hlanes]
  case clearTally day => exact (State.ridersBalanced_iff _).mpr (s.balanced_clearedSet day)
  case settle k items i snap r expiry _ _ _ =>
    have hsettled : (s.settle k items).tally.today = { s.tally.today with
        refundsSettled := bump s.tally.today.refundsSettled
        payoutTotal := satAdd Config.payoutCeiling s.tally.today.payoutTotal items.payout } := by
      simp [State.settle, State.countSettlement]
    refine (State.ridersBalanced_iff _).mpr ?_
    rw [hsettled]
    exact htoday
  case cold rate1 rate0 =>
    refine (State.ridersBalanced_iff _).mpr fun _ _ _ => ⟨?_, ?_⟩
    · rfl
    · simp [State.coldReset, State.cold, TallySet.zero]
  all_goals exact hs.congr (by simp [State.setProductSlot, State.addPass, State.rewritePass, State.markPass,
    State.setStatus, fourInOrder])

/-! ## Admissions through every change (R112) -/

/-- R112 at one lane, of its counters and the number of admissions pending there. -/
def LaneCounters.AdmittedBalanced (c : LaneCounters) (pending : Nat) : Prop :=
  c.admittedBelowCeiling → c.admittedCount = c.paid + c.lapsed + pending

theorem State.pendingCount_of_none {s : State} {l : LaneId} (h : ∀ p, ¬ s.pendingAt p l) : s.pendingCount l = 0 := by
  simp [State.pendingCount, (s.pendingPass_eq_none_iff l).mpr h]

theorem State.pendingCount_of_some {s : State} {l : LaneId} {p : Nat} (h : s.pendingAt p l) : s.pendingCount l = 1 := by
  simp [State.pendingCount, State.pendingPass_isSome h]

/-- The number depends on who is pending. -/
theorem State.pendingCount_of_iff {s u : State} {l : LaneId} (h : ∀ p, u.pendingAt p l ↔ s.pendingAt p l) :
    u.pendingCount l = s.pendingCount l := by
  by_cases hs : ∃ p, s.pendingAt p l
  · obtain ⟨p, hp⟩ := hs
    rw [State.pendingCount_of_some hp, State.pendingCount_of_some ((h p).mpr hp)]
  · have hnone : ∀ p, ¬ s.pendingAt p l := fun p hp => hs ⟨p, hp⟩
    rw [State.pendingCount_of_none hnone, State.pendingCount_of_none fun p hp => hnone p ((h p).mp hp)]

/-- The blocks the balance reads. -/
theorem State.AdmittedBalanced.congr {s u : State} (hs : s.AdmittedBalanced)
    (hlanes : u.tally.today.lanes = s.tally.today.lanes) (hpbl : u.pbl.entries = s.pbl.entries) : u.AdmittedBalanced := by
  intro l h
  rw [hlanes] at h ⊢
  rw [State.pendingCount_of_iff fun p => State.pendingAt_congr hpbl p l]
  exact hs l h

/-- One lane's counters replaced; elsewhere the same admissions are pending. -/
theorem State.AdmittedBalanced.of_set {s u : State} (hs : s.AdmittedBalanced) {l : LaneId} {c : LaneCounters}
    (hlanes : u.tally.today.lanes = s.tally.today.lanes.set l c)
    (hother : ∀ k, k ≠ l → u.pendingCount k = s.pendingCount k) (hc : c.AdmittedBalanced (u.pendingCount l)) :
    u.AdmittedBalanced := by
  intro k h
  rw [hlanes] at h ⊢
  by_cases hk : k = l
  · subst hk
    rw [Quad.get_set_self] at h ⊢
    exact hc h
  · rw [Quad.get_set_ne _ _ _ _ hk] at h ⊢
    rw [hother k hk]
    exact hs k h

/-- R103: a lapse moves its admission from pending to lapsed. -/
theorem State.AdmittedBalanced.lapse {s : State} (hs : s.AdmittedBalanced) (l : LaneId) (r : LapseReason) :
    (s.lapse l r).AdmittedBalanced := by
  cases hp : s.pendingPass l with
  | none =>
    rw [State.lapse_of_none hp]
    exact hs
  | some p =>
    refine hs.of_set (l := l) (c := { s.counters l with lapsed := bump (s.counters l).lapsed }) ?_ ?_ ?_
    · rw [(State.lapse_of_some hp r).2.2.1]
      rfl
    · intro k hk
      simp [State.pendingCount, State.pendingPass_lapse, hk]
    · rintro ⟨h1, h2, h3⟩
      obtain ⟨hb, hlt⟩ := bump_of_lt h3
      have hbefore := hs l ⟨h1, h2, hlt⟩
      have hone : s.pendingCount l = 1 := by simp [State.pendingCount, hp]
      have hzero : (s.lapse l r).pendingCount l = 0 := by simp [State.pendingCount, State.pendingPass_lapse]
      rw [hone] at hbefore
      simp only [hzero, hb]
      exact hbefore

theorem State.AdmittedBalanced.lapseAll {s : State} (hs : s.AdmittedBalanced) (r : LapseReason) :
    (s.lapseAll r).AdmittedBalanced := (((hs.lapse 0 r).lapse 1 r).lapse 2 r).lapse 3 r

/-- R99: an admission adds one to admitted and one to pending. -/
theorem State.AdmittedBalanced.admission {s : State} (hs : s.AdmittedBalanced) {l : LaneId} {p : Nat}
    (hnone : ∀ q, ¬ s.pendingAt q l) : ((s.leaveSet l).admitPass l p).AdmittedBalanced := by
  have hpend := s.pendingAt_admitPass l p
  refine hs.of_set (l := l) (c := { s.tally.today.lanes.get l with
    admittedCount := bump (s.tally.today.lanes.get l).admittedCount }) ?_ ?_ ?_
  · simp [State.admitPass]
  · intro k hk
    exact State.pendingCount_of_iff fun q => by rw [hpend]; simp [hk]
  · rintro ⟨h1, h2, h3⟩
    obtain ⟨hb, hlt⟩ := bump_of_lt h1
    have hbefore := hs l ⟨hlt, h2, h3⟩
    rw [State.pendingCount_of_none hnone] at hbefore
    rw [State.pendingCount_of_some ((hpend p l).mpr (.inr ⟨rfl, rfl⟩))]
    show bump (s.tally.today.lanes.get l).admittedCount
      = (s.tally.today.lanes.get l).paid + (s.tally.today.lanes.get l).lapsed + 1
    rw [hb, hbefore]

/-- R101: a commit moves its admission from pending to paid. -/
theorem State.AdmittedBalanced.commit {s : State} (hs : s.AdmittedBalanced) (htables : s.AdmissionTables) {l : LaneId}
    {e : PassEntry} {m : AdmissionMarker} (h : s.pendingEntry l = some (e, m)) :
    (((s.commitEntry l e m).handRotation l .paid).setLane l
      { ((s.commitEntry l e m).handRotation l .paid).lane l with unlockTimer := none }).AdmittedBalanced := by
  obtain ⟨p, hp, hfind, -⟩ := State.pendingEntry_eq_some h
  obtain rfl := State.pass_of_findPass hfind
  have hpl := State.pendingAt_of_pendingPass hp
  obtain ⟨n, htoday⟩ := s.commit_today l e m
  have hpend : ∀ q k, ((s.commitEntry l e m).handRotation l .paid).pendingAt q k ↔ s.pendingAt q k ∧ q ≠ e.pass :=
    fun q k => (State.pendingAt_congr (by simp) q k).trans (s.pendingAt_commitEntry l e m q k)
  generalize (s.commitEntry l e m).handRotation l .paid = v at htoday hpend
  refine State.AdmittedBalanced.congr (s := v) (hs.of_set (l := l) (c := { s.tally.today.lanes.get l with
    paid := bump (s.tally.today.lanes.get l).paid }) ?_ ?_ ?_) rfl rfl
  · rw [htoday]
  · intro k hk
    refine State.pendingCount_of_iff fun q => ?_
    rw [hpend]
    refine ⟨And.left, fun hq => ⟨hq, ?_⟩⟩
    rintro rfl
    exact hk (htables.lane_unique hq hpl)
  · rintro ⟨h1, h2, h3⟩
    obtain ⟨hb, hlt⟩ := bump_of_lt h2
    have hbefore := hs l ⟨h1, hlt, h3⟩
    have hzero : v.pendingCount l = 0 := State.pendingCount_of_none fun q hq => by
      obtain ⟨hq, hne⟩ := (hpend q l).mp hq
      exact hne (htables.single q e.pass l hq hpl)
    rw [State.pendingCount_of_some hpl] at hbefore
    simp only [hzero, hb, hbefore]
    omega

/-- Every change of the state that keeps the correspondence of admissions keeps their balance. -/
theorem State.AdmittedBalanced.effect {s u : State} (hs : s.AdmittedBalanced) (hadm : s.AdmissionsKept)
    (h : Effect s u) : u.AdmittedBalanced := by
  obtain ⟨htables, hopen, -⟩ := s.admissionsKept_iff.mp hadm
  cases h
  case shut r reason _ => exact State.AdmittedBalanced.lapseAll (s := s.setRcc r) hs reason
  case shutLift r v reason _ =>
    exact State.AdmittedBalanced.lapseAll (s := (s.setRcc r).writeRecord (.lift v)) (hs.congr (by simp) (by simp)) reason
  case fault l f x _ =>
    have hlatched : ((s.setLane l ((s.lane l).latch f)).writeRecord (.fault l x)).AdmittedBalanced :=
      hs.congr (by simp) (by simp)
    generalize (s.setLane l ((s.lane l).latch f)).writeRecord (.fault l x) = v at hlatched
    exact (State.AdmittedBalanced.lapse (s := v.setLane l { v.lane l with display := none }) hlatched l .fault).congr
      (by simp [State.enterFault]) (by simp [State.enterFault])
  case lock l =>
    exact (State.AdmittedBalanced.lapse (s := s.setLane l { s.lane l with armOverride := .lock }) hs l .locked).congr
      (by simp) (by simp)
  case lapse l reason => exact hs.lapse l reason
  case passback b f hb hf =>
    intro l h
    have hsame : (s.setPbl b).pendingCount l = s.pendingCount l := by
      refine State.pendingCount_of_iff fun p => ?_
      rw [State.pendingAt, State.setPbl_pbl, hb, List.mem_filter]
      exact ⟨And.left, fun h => ⟨h, hf _ rfl⟩⟩
    rw [hsame]
    exact hs l h
  case admission l p hwait _ =>
    refine hs.admission fun q hq => ?_
    have hidle := (hopen q l hq).2.2.2.2.1
    exact absurd (hwait.symm.trans hidle) (by simp)
  case count l f hf =>
    obtain ⟨hadmitted, hpaid, hlapsed, -⟩ := hf (s.tally.today.lanes.get l)
    refine hs.of_set (l := l) (c := f (s.tally.today.lanes.get l)) rfl (fun _ _ => rfl) ?_
    rw [LaneCounters.AdmittedBalanced, LaneCounters.admittedBelowCeiling, hadmitted, hpaid, hlapsed]
    exact hs l
  case rider l cat _ =>
    refine hs.of_set (l := l) (c := (s.tally.today.lanes.get l).addRider cat) rfl (fun _ _ => rfl) ?_
    cases cat <;> exact hs l
  case commit l e m _ h => exact hs.commit htables h
  case tally t hlanes _ _ => exact hs.congr hlanes rfl
  case clearTally day =>
    intro l _
    have hcleared : (s.clearedSet day).lanes.get l = { LaneCounters.zero with admittedCount := s.pendingCount l } :=
      Quad.get_tabulate _ l
    have hpending : (s.setToday (s.clearedSet day)).pendingCount l = s.pendingCount l := rfl
    rw [State.setToday_tally, hcleared, hpending]
    exact (Nat.zero_add _).symm
  case settle k items i snap r expiry _ _ _ => exact hs.congr (by simp [State.settle, State.countSettlement]) (by simp)
  case cold rate1 rate0 =>
    intro l _
    have hnone : (s.coldReset rate1 rate0).pendingCount l = 0 :=
      State.pendingCount_of_none fun p hp => by simp [State.pendingAt, State.coldReset, State.cold] at hp
    rw [hnone]
    match l with
    | 0 | 1 | 2 | 3 => rfl
  all_goals exact hs.congr (by simp [State.setProductSlot, State.addPass, State.rewritePass, State.markPass,
    State.setStatus, fourInOrder]) (by simp [State.setProductSlot, State.addPass, State.rewritePass, State.markPass,
    State.setStatus, fourInOrder])

/-- Settles O59: each change a step makes keeps both balances. -/
theorem tallyBalancesKeptByEveryStep : Obligations.TallyBalancesKeptByEveryStep :=
  ⟨keptByStep_of_effects fun _ _ hs => hs.effect,
    keptByStep_of_effects fun _ _ hs h => ⟨hs.1.effect h, hs.2.effect hs.1 h⟩⟩

end Sys2Proof.Machine
end

section
/-!
PROOFS. The cold reset (R176): the values right after reset, what COLD_RESET returns, and the kept properties there.
-/

namespace Sys2Proof.Machine

/-! ## What the reset state holds, place by place -/

/-- R12: no season day carries a mark after a reset. -/
theorem State.markOf_reset (day : Nat) : State.reset.markOf day = .noMark := by
  rw [State.markOf, show State.reset.rcc.calendar = Vector.replicate 240 .noMark from rfl, Vector.getElem?_replicate]
  split <;> rfl

/-- R18: every product slot is empty after a reset. -/
theorem State.product?_reset (code : Nat) : State.reset.product? code = none := by
  rw [State.product?, State.productSlot, show State.reset.tariff = Vector.replicate 63 ProductSlot.empty from rfl,
    Vector.getElem?_replicate]
  split <;> rfl

/-- Table 4.9: the three input levels apart, every lane holds its cold values. -/
theorem State.lane_reset (l : LaneId) : State.reset.lane l = Lane.cold false false true := by
  match l with
  | 0 | 1 | 2 | 3 => rfl

theorem State.slot_reset (k : SlotId) : State.reset.slot k = QuoteSlot.cold := by
  match k with
  | 0 | 1 | 2 | 3 => rfl

theorem State.waiting_reset (l : LaneId) : State.reset.ae.waiting.get l = none := by
  match l with
  | 0 | 1 | 2 | 3 => rfl

/-- Table 4.9: a lane after a reset is OFF, and an OFF lane drives nothing. -/
theorem State.outputs_reset (l : LaneId) :
    State.reset.latchRelease l = false ∧ State.reset.lamps l = ⟨.dark, .dark, .dark⟩ ∧
      State.reset.buzzer l = .silent ∧ State.reset.laneState l = .off := by
  have hrole : (State.reset.lane l).role = .off := by rw [State.lane_reset]; rfl
  simp [State.latchRelease, State.lamps, State.buzzer, State.laneState, hrole]

theorem TallySet.lanes_zero (day : Option Nat) (l : LaneId) : (TallySet.zero day).lanes.get l = LaneCounters.zero := by
  match l with
  | 0 | 1 | 2 | 3 => rfl

/-- Settles O5: each block of the reset state is read off its definition. -/
theorem stateAfterReset : Obligations.StateAfterReset := by
  refine ⟨rfl, rfl, rfl, rfl, State.markOf_reset, State.product?_reset, rfl, rfl, ?lanes, rfl, rfl, rfl, rfl, ?sets,
    rfl, ?slots, rfl, rfl, ?mask, rfl, rfl, rfl, rfl, rfl, rfl, rfl⟩
  case lanes =>
    intro l
    obtain ⟨hrelease, hlamps, hbuzzer, hstate⟩ := State.outputs_reset l
    refine ⟨?_, hrelease, hlamps, hbuzzer, hstate, State.waiting_reset l⟩
    rw [State.lane_reset]
    rfl
  case sets =>
    intro day
    refine ⟨rfl, fun l => ?_⟩
    rw [TallySet.lanes_zero]
    rfl
  case slots =>
    intro k
    rw [State.slot_reset]
    rfl
  case mask =>
    intro kind
    cases kind <;> rfl

/-! ## COLD_RESET -/

theorem exec_coldReset (rate1 rate0 : Bool) (s : State) :
    exec (.coldReset rate1 rate0) s = .next (s.coldReset rate1 rate0).settled := rfl

/-- Nothing waits on the line after a cold reset, so the transmitter and the handler find nothing to do. -/
theorem State.settled_coldReset (s : State) (rate1 rate0 : Bool) :
    (s.coldReset rate1 rate0).settled = s.coldReset rate1 rate0 := by
  rw [State.settled_of_empty rfl]
  rfl

theorem State.lane_coldReset (s : State) (rate1 rate0 : Bool) (l : LaneId) :
    (s.coldReset rate1 rate0).lane l = Lane.cold (s.lane l).beamA (s.lane l).beamB (s.lane l).armRest :=
  Quad.get_map _ _ l

/-- Settles O6: the line, the lanes' input levels and the queue apart, every block is that of the reset state. -/
theorem coldResetReturnsEveryBlock : Obligations.ColdResetReturnsEveryBlock := by
  intro rate1 rate0 s
  refine ⟨s.coldReset rate1 rate0, by rw [exec_coldReset, State.settled_coldReset], rfl, fun l => ?_, rfl, ?_⟩
  · rw [State.lane_coldReset, State.lane_reset]
    rfl
  · rw [State.keepsAllBut_iff]
    simp [State.coldReset, State.cold, State.reset, State.setPending]

/-! ## The kept properties at reset -/

theorem State.clockKept_reset : State.reset.ClockKept := by
  simp [State.ClockKept, ClockBlock.Kept, State.reset, State.cold, ClockBlock.cold]

theorem State.offsetsKept_reset : State.reset.OffsetsKept := by
  refine ⟨⟨List.Pairwise.nil, Nat.zero_le _, fun e he => absurd he List.not_mem_nil⟩, ?_,
    fun e he => absurd he List.not_mem_nil⟩
  intro code p hp
  simp [State.product?_reset] at hp

theorem State.journalKept_reset : State.reset.JournalKept :=
  ⟨Nat.zero_le _, Nat.zero_le _, Nat.zero_lt_succ _, Nat.zero_le _⟩

theorem State.lineKept_reset : State.reset.LineKept :=
  ⟨by decide, Nat.zero_le _, by decide, fun _ => rfl, fun _ => ⟨rfl, rfl⟩⟩

theorem State.countingKept_reset : State.reset.CountingKept := by
  intro l
  rw [State.lane_reset]
  exact ⟨Nat.zero_le _, Nat.zero_le _, .inl rfl, fun _ => ⟨rfl, rfl, rfl⟩, fun _ => rfl⟩

theorem State.not_pendingAt_reset (p : Nat) (l : LaneId) : ¬ State.reset.pendingAt p l := List.not_mem_nil

theorem State.admissionsKept_reset : State.reset.AdmissionsKept := by
  refine ⟨List.Pairwise.nil, Nat.zero_le _, List.nodup_nil, ?_,
    fun p _ l hp => absurd hp (State.not_pendingAt_reset p l), fun p l hp => absurd hp (State.not_pendingAt_reset p l),
    ?_, fun e he => absurd he List.not_mem_nil⟩
  · intro p l
    exact ⟨fun hp => absurd hp (State.not_pendingAt_reset p l), fun ⟨_, he, _⟩ => absurd he List.not_mem_nil⟩
  · intro l r hr
    simp [State.waiting_reset] at hr

theorem State.not_busy_reset (c : Computation) : State.reset.rfc.busy ≠ some c := nofun

theorem State.calculatorKept_reset : State.reset.CalculatorKept := by
  refine ⟨List.nodup_nil, ?_, fun c hc => absurd hc (State.not_busy_reset c), ?_, fun _ => rfl⟩
  · intro k
    rw [State.slot_reset]
    exact ⟨fun h => absurd h List.not_mem_nil, fun h => nomatch h⟩
  · intro k hk
    rw [State.slot_reset] at hk
    exact hk.elim (fun h => nomatch h) (fun h => nomatch h)

theorem State.quotesKept_reset : State.reset.QuotesKept := by
  refine ⟨List.Pairwise.nil, ⟨?_, fun e he => absurd he List.not_mem_nil⟩, State.calculatorKept_reset, ?_,
    fun e he => absurd he List.not_mem_nil⟩
  · intro k i hi
    rw [State.slot_reset] at hi
    exact nomatch hi
  · intro _ k
    rw [State.slot_reset]
    rfl

theorem State.admittedBalanced_reset : State.reset.AdmittedBalanced := by
  intro l _
  have hcounters : State.reset.tally.today.lanes.get l = LaneCounters.zero := TallySet.lanes_zero _ l
  rw [hcounters, State.pendingCount_of_none fun p => State.not_pendingAt_reset p l]
  rfl

/-- Settles O52: the reset state holds empty tables, and every bound holds of its values. -/
theorem keptPropertiesHoldAtReset : Obligations.KeptPropertiesHoldAtReset :=
  ⟨State.clockKept_reset, State.offsetsKept_reset, State.journalKept_reset, List.nodup_nil, State.lineKept_reset,
    .inl rfl, State.countingKept_reset, State.admissionsKept_reset, State.quotesKept_reset,
    fun c hc => absurd hc (State.not_busy_reset c), fun _ => ⟨rfl, by decide⟩, State.admittedBalanced_reset⟩

end Sys2Proof.Machine
end

section
/-!
PROOFS. The line: how a request arrives and is taken (R182), and what the transmitter draws and sends (R185, R177).
-/

namespace Sys2Proof.Machine

/-! ## A request arrives (R182) -/

/-- A command that spells a request frame is the handler's. -/
theorem exec_of_frame {i : Instr} {f : InFrame} (hwf : WellFormed i) (h : encodeRequest i = some f) (s : State) :
    exec i s = handle i s := by
  cases i
  case badFormatFrame kind tag payload =>
    have hbad : isBadFormat { kind := kind, tag := tag, payload := payload } = true :=
      (Bool.and_eq_true_iff.mp (show badFormatOk kind tag payload = true from hwf)).2
    simp [exec, execBadFormatFrame, hbad]
  case coldReset | receiveCharacter | gapTimeout | framing | lineBreak | shiftingFrameDone | secondAdvance |
      passbackExpiry | holdExpiry | pollOutcome | grant | rotation | armRestChange | beamChange | unlockTimerExpiry |
      beamStuckTimerExpiry | armStuckTimerExpiry | displayTimeExpiry | alarmTimerExpiry | buzzerPatternEnd |
      matchTimerExpiry | computationCompletion => exact nomatch h
  all_goals rfl

/-- The frame of a request that waits joins the inbound buffers. -/
theorem State.joinRequest_of_room {s : State} {i : Instr} {f : InFrame} (h : encodeRequest i = some f)
    (hroom : s.lif.inbound.length < 2) :
    s.joinRequest i = s.setLif { s.lif with inbound := s.lif.inbound ++ [f] } := by
  simp [State.joinRequest, h, State.joinInbound, Config.inboundBuffers, hroom]

theorem State.joinRequest_of_full {s : State} {i : Instr} {f : InFrame} (h : encodeRequest i = some f)
    (hfull : 2 ≤ s.lif.inbound.length) :
    s.joinRequest i = s.setLif { s.lif with flags := { s.lif.flags with overrun := true } } := by
  simp [State.joinRequest, h, State.joinInbound, Config.inboundBuffers, Nat.not_lt.mpr hfull]

theorem State.replyRoom_eq_true_iff (s : State) : s.replyRoom = true ↔ s.lif.replies.length + s.reserved < 8 :=
  decide_eq_true_iff

theorem State.replyRoom_eq_false_iff (s : State) : s.replyRoom = false ↔ 8 ≤ s.lif.replies.length + s.reserved :=
  decide_eq_false_iff_not.trans Nat.not_lt

theorem step_of_empty {s : State} (h : s.pending = []) : step s = .next s.calculatorStep.settled := by
  simp [step, h, State.idle, finish]

theorem State.calculatorStep_of_idle {s : State} (h : s.rfc.busy = none) : s.calculatorStep = s := by
  simp [State.calculatorStep, h]

theorem State.calculatorStep_of_busy {s : State} {c : Computation} (h : s.rfc.busy = some c) :
    s.calculatorStep = s.setRfc { s.rfc with busy := some c.advance } := by
  simp [State.calculatorStep, h]

/-- R132: a computation of 120 steps makes no more. -/
theorem Computation.advance_eq (c : Computation) :
    c.advance =
      if c.steps < 120 then { c with steps := c.steps + 1, work := c.work.step c.snapshot c.steps } else c := rfl

/-- Settles O3: the three ways a request arrives, the three ways an event ends, and the idle part. -/
theorem bufferedRequestsWaitAndAreTaken : Obligations.BufferedRequestsWaitAndAreTaken := by
  refine ⟨?arrives, ?ends, fun i s => (s.owner_line i).2.1, ?idle⟩
  case arrives =>
    intro i f s hwf hf
    have hexec := exec_of_frame hwf hf s
    refine ⟨fun htakes => (asks_of_handle hexec htakes).2, fun hwaits hroom => ?_, fun hwaits hfull => ?_⟩
    · rw [ends, hexec, handle_waits hwaits, State.joinRequest_of_room hf hroom]
    · rw [ends, hexec, handle_waits hwaits, State.joinRequest_of_full hf hfull]
  case ends =>
    intro s
    exact ⟨State.settled_of_empty, fun hfull => State.settled_of_full (s.pump.replyRoom_eq_false_iff.mpr hfull),
      fun f rest hf hroom => State.settled_of_frame hf (s.pump.replyRoom_eq_true_iff.mpr hroom)⟩
  case idle =>
    intro s hs
    refine ⟨fun hidle => ?_, fun c d hbusy hd => ?_⟩
    · rw [step_of_empty hs, State.calculatorStep_of_idle hidle]
    · rw [step_of_empty hs, State.calculatorStep_of_busy hbusy, c.advance_eq, hd]

/-! ## The transmitter (R185) -/

theorem State.fillHolding_of_holding {s : State} {h : OutFrame} (hh : s.lif.holding = some h) : s.fillHolding = s := by
  simp [State.fillHolding, hh]

theorem State.fillHolding_of_reply {s : State} {r : OutFrame} {rest : List OutFrame} (hh : s.lif.holding = none)
    (hr : s.lif.replies = r :: rest) : s.fillHolding = s.setLif { s.lif with holding := some r, replies := rest } := by
  simp [State.fillHolding, hh, hr]

theorem State.fillHolding_of_notice {s : State} {x : PendingNotice} (hh : s.lif.holding = none)
    (hr : s.lif.replies = []) (hx : s.notices.pending.find? s.notices.eligible = some x) :
    s.fillHolding = (s.setLif { s.lif with holding := some (.notice x.key (s.noticeContent x)) }).setNotices
      { s.notices with pending := s.notices.pending.eraseP s.notices.eligible } := by
  simp [State.fillHolding, hh, hr, hx]

theorem State.fillHolding_of_none {s : State} (hh : s.lif.holding = none) (hr : s.lif.replies = [])
    (hx : s.notices.pending.find? s.notices.eligible = none) : s.fillHolding = s := by
  simp [State.fillHolding, hh, hr, hx]

/-- R185: the holding frame goes to an idle line. -/
theorem State.startShifting_of_idle {s : State} (h : s.lif.shifting = none) :
    s.startShifting = s.setLif { s.lif with shifting := s.lif.holding, holding := none } := by
  simp [State.startShifting, h]

/-- An idle line with an empty holding frame. -/
theorem LineInterface.eq_of_at_rest {x : LineInterface} (hs : x.shifting = none) (hh : x.holding = none) :
    { x with shifting := none, holding := none } = x := by
  cases x
  cases hs
  cases hh
  rfl

/-- On an idle line the frame drawn goes out, and the transmitter continues from there. -/
theorem State.pump_of_idle {s t : State} {f : OutFrame} (hfill : s.fillHolding.lif.shifting = none)
    (ht : s.fillHolding.setLif { s.fillHolding.lif with shifting := s.fillHolding.lif.holding, holding := none } = t)
    (hf : t.lif.shifting = some f) : s.pump = t.pump := by
  rw [State.pump_of_shifting hf, State.pump, State.startShifting_of_idle hfill, ht]

/-- What the transmitter does, by what stands on the line, in the holding frame and behind it. -/
theorem State.pump_cases (s : State) :
    (∀ f h, s.lif.shifting = some f → s.lif.holding = some h → s.pump = s) ∧
    (∀ f r rest, s.lif.shifting = some f → s.lif.holding = none → s.lif.replies = r :: rest →
      s.pump = s.setLif { s.lif with holding := some r, replies := rest }) ∧
    (∀ f x, s.lif.shifting = some f → s.lif.holding = none → s.lif.replies = [] →
      s.notices.pending.find? s.notices.eligible = some x →
      s.pump = (s.setLif { s.lif with holding := some (.notice x.key (s.noticeContent x)) }).setNotices
        { s.notices with pending := s.notices.pending.eraseP s.notices.eligible }) ∧
    (∀ f, s.lif.shifting = some f → s.lif.holding = none → s.lif.replies = [] →
      s.notices.pending.find? s.notices.eligible = none → s.pump = s) ∧
    (∀ h, s.lif.shifting = none → s.lif.holding = some h →
      s.pump = (s.setLif { s.lif with shifting := some h, holding := none }).pump) ∧
    (∀ r rest, s.lif.shifting = none → s.lif.holding = none → s.lif.replies = r :: rest →
      s.pump = (s.setLif { s.lif with shifting := some r, replies := rest }).pump) ∧
    (∀ x, s.lif.shifting = none → s.lif.holding = none → s.lif.replies = [] →
      s.notices.pending.find? s.notices.eligible = some x →
      s.pump = ((s.setLif { s.lif with shifting := some (.notice x.key (s.noticeContent x)) }).setNotices
        { s.notices with pending := s.notices.pending.eraseP s.notices.eligible }).pump) ∧
    (s.lif.shifting = none → s.lif.holding = none → s.lif.replies = [] →
      s.notices.pending.find? s.notices.eligible = none → s.pump = s) := by
  refine ⟨?_, ?_, ?_, ?_, ?_, ?_, ?_, ?_⟩
  · intro f h hs hh
    rw [State.pump_of_shifting hs, State.fillHolding_of_holding hh]
  · intro f r rest hs hh hr
    rw [State.pump_of_shifting hs, State.fillHolding_of_reply hh hr]
  · intro f x hs hh hr hx
    rw [State.pump_of_shifting hs, State.fillHolding_of_notice hh hr hx]
  · intro f hs hh hr hx
    rw [State.pump_of_shifting hs, State.fillHolding_of_none hh hr hx]
  · intro h hs hh
    have hfill := State.fillHolding_of_holding hh
    exact State.pump_of_idle (f := h) (by rw [hfill, hs]) (by rw [hfill, hh]) rfl
  · intro r rest hs hh hr
    have hfill := State.fillHolding_of_reply hh hr
    exact State.pump_of_idle (f := r) (by rw [hfill]; exact hs) (by rw [hfill]; simp [State.setLif, hh]) rfl
  · intro x hs hh hr hx
    have hfill := State.fillHolding_of_notice hh hr hx
    exact State.pump_of_idle (f := .notice x.key (s.noticeContent x)) (by rw [hfill]; exact hs)
      (by rw [hfill]; simp [State.setLif, State.setNotices, hh]) rfl
  · intro hs hh hr hx
    have hfill := State.fillHolding_of_none hh hr hx
    have hidle : s.setLif { s.lif with shifting := none, holding := none } = s :=
      congrArg s.setLif (LineInterface.eq_of_at_rest hs hh)
    rw [State.pump, hfill, State.startShifting_of_idle hs, hh, hidle, hfill]

/-! ## The characters of a frame (R177) -/

@[simp] theorem byteOf_eq (n : Nat) : byteOf n = [BitVec.ofNat 8 n] := by
  simp [byteOf, bytesOf]

/-- R177: as many shifts as the list has places. -/
theorem foldl_crcShift {α : Type} (xs : List α) (c : BitVec 16) :
    xs.foldl (fun c _ => crcShift c) c = crcShifts xs.length c := by
  induction xs generalizing c with
  | nil => rfl
  | cons x xs ih => exact ih (crcShift c)

/-- R177: the check register takes a byte to its high byte and is shifted eight times. -/
theorem checkWord_snoc (bs : List Byte) (b : Byte) :
    checkWord (bs ++ [b]) =
      (List.range 8).foldl (fun (c : BitVec 16) _ => if c.msb then (c <<< 1) ^^^ 0x1021 else c <<< 1)
        (checkWord bs ^^^ (b.setWidth 16 <<< 8)) := by
  have hshifts := foldl_crcShift (List.range 8) (checkWord bs ^^^ (b.setWidth 16 <<< 8))
  rw [List.length_range] at hshifts
  rw [checkWord, List.foldl_append]
  exact hshifts.symm

theorem replyFrame_wire (kind tag : Byte) (st : StatusCode) (d : ReplyData) :
    (replyFrame kind tag st d).wire =
      frameBytes (kind ||| 0x80) tag (BitVec.ofNat 8 st.code :: d.bytes) := by
  simp [replyFrame, OutFrame.wire, OutFrame.kind, OutFrame.tag, OutFrame.payload]

theorem notice_wire (key : NoticeKey) (c : NoticeContent) :
    (OutFrame.notice key c).wire =
      frameBytes 0x7F 0 (BitVec.ofNat 8 key.kind.code :: BitVec.ofNat 8 key.subject :: c.bytes) := by
  simp [OutFrame.wire, OutFrame.kind, OutFrame.tag, OutFrame.payload]

/-- Settles O4: the code tables, the bytes of a frame with their check word, and the transmitter's turn. -/
theorem transmitterOrder : Obligations.TransmitterOrder := by
  refine ⟨rfl, fun _ _ => rfl, ?reply, ?notice, ⟨rfl, checkWord_snoc, by decide +kernel⟩, State.pump_cases⟩
  case reply =>
    rintro kind tag st d body check rfl rfl
    rw [replyFrame_wire]
    rfl
  case notice =>
    rintro key c body check rfl rfl
    rw [notice_wire]
    rfl

end Sys2Proof.Machine
end

section
/-!
PROOFS. One event that ends several admissions (R104): the lapses at a list of lanes, block by block, and the records
they write.
-/

namespace Sys2Proof.Machine

/-! ## Records written with the raises they bring -/

/-- Between the two states the records were written in this order, each with its raises. -/
def State.wrote (s u : State) (bodies : List RecordBody) : Prop :=
  (u.journal, u.notices) = bodies.foldl (recordAndRaise s.stamp) (s.journal, s.notices)

theorem State.wrote_nil {s u : State} (hj : u.journal = s.journal) (hn : u.notices = s.notices) : s.wrote u [] := by
  simp [State.wrote, hj, hn]

/-- Two spells of writing at one stamp are one. -/
theorem State.wrote.append {s t u : State} {bs cs : List RecordBody} (h : s.wrote t bs) (hstamp : t.stamp = s.stamp)
    (k : t.wrote u cs) : s.wrote u (bs ++ cs) := by
  rw [State.wrote, k, hstamp, h, List.foldl_append]

/-- A record that is no drop brings JOURNAL_HIGH alone. -/
theorem State.wrote_of_writeRecord {s u : State} {b : RecordBody} (hb : ∀ p k r, b ≠ .quoteDropped p k r)
    (hj : u.journal = s.journal.write s.stamp b)
    (hn : u.notices = if (s.journal.write s.stamp b).isHigh then s.notices.raise .journalHigh else s.notices) :
    s.wrote u [b] := by
  rw [State.wrote, hj, hn, List.foldl_cons, List.foldl_nil]
  cases b
  case quoteDropped p k r => exact absurd rfl (hb p k r)
  all_goals rfl

/-- The journal's part of what was written. -/
theorem foldl_recordAndRaise_fst (stamp : Nat) (bs : List RecordBody) (x : Journal × NoticeLatch) :
    (bs.foldl (recordAndRaise stamp) x).1 = bs.foldl (fun j b => j.write stamp b) x.1 := by
  induction bs generalizing x with
  | nil => rfl
  | cons b bs ih => exact ih _

theorem State.wrote.journal_eq {s u : State} {bs : List RecordBody} (h : s.wrote u bs) :
    u.journal = bs.foldl (fun j b => j.write s.stamp b) s.journal := by
  rw [← foldl_recordAndRaise_fst s.stamp bs (s.journal, s.notices), ← h]

/-! ## The lapse at one lane, whether or not an admission is pending there -/

theorem State.lapse_passes (s : State) (l : LaneId) (r : LapseReason) :
    (s.lapse l r).passes =
      s.passes.map fun e => { e with marker := if s.pendingPass l = some e.pass then none else e.marker } := by
  cases h : s.pendingPass l with
  | none => simp [State.lapse_of_none h]
  | some p =>
    rw [(State.lapse_of_some h r).1, updateIn]
    refine List.map_congr_left fun e _ => ?_
    by_cases he : e.pass = p
    · simp [he]
    · simp [he, Ne.symm he]

/-- R103: the PENDING entry of the lane, if any, leaves the Passback List. -/
theorem State.lapse_pbl (s : State) (l : LaneId) (r : LapseReason) :
    (s.lapse l r).pbl = { s.pbl with entries := s.pbl.entries.filter fun e => !(e.phase == .pending l) } := by
  cases h : s.pendingPass l with
  | some p => exact (State.lapse_of_some h r).2.1
  | none =>
    have hall : s.pbl.entries.filter (fun e => !(e.phase == .pending l)) = s.pbl.entries := by
      rw [State.pendingPass, Option.map_eq_none_iff, List.find?_eq_none] at h
      exact List.filter_eq_self.mpr fun e he => by simpa using h e he
    rw [State.lapse_of_none h, hall]

/-- R103: the LAPSED record of the admission pending, if any. -/
theorem State.lapse_wrote (s : State) (l : LaneId) (r : LapseReason) :
    s.wrote (s.lapse l r) ([l].filterMap fun k => (s.pendingPass k).map fun p => .lapsed k p r) := by
  cases h : s.pendingPass l with
  | none =>
    rw [State.lapse_of_none h]
    simpa [h] using State.wrote_nil rfl rfl
  | some p =>
    obtain ⟨-, -, -, hj, hn, -⟩ := State.lapse_of_some h r
    simpa [h] using State.wrote_of_writeRecord (fun _ _ _ => by simp) hj hn

/-! ## The lapses at a list of lanes -/

/-- The lapse of one lane after another. -/
def State.lapseEach (s : State) (ls : List LaneId) (r : LapseReason) : State := ls.foldl (fun s l => s.lapse l r) s

theorem State.lapseAll_eq (s : State) (r : LapseReason) : s.lapseAll r = s.lapseEach fourInOrder r := rfl

theorem State.lapseEach_cons (s : State) (l : LaneId) (ls : List LaneId) (r : LapseReason) :
    s.lapseEach (l :: ls) r = (s.lapse l r).lapseEach ls r := rfl

@[simp] theorem State.lapseEach_rcc (s : State) (ls : List LaneId) (r : LapseReason) :
    (s.lapseEach ls r).rcc = s.rcc := by
  induction ls generalizing s with
  | nil => rfl
  | cons l ls ih => rw [State.lapseEach_cons, ih]; simp

theorem State.pendingPass_lapse_of_ne {s : State} {l k : LaneId} {r : LapseReason} (h : k ≠ l) :
    (s.lapse l r).pendingPass k = s.pendingPass k := by
  simp [State.pendingPass_lapse, h]

theorem State.lane_lapseEach (s : State) (ls : List LaneId) (r : LapseReason) (k : LaneId) :
    (s.lapseEach ls r).lane k =
      if k ∈ ls ∧ (s.pendingPass k).isSome then { s.lane k with unlockTimer := none } else s.lane k := by
  induction ls generalizing s with
  | nil => simp [State.lapseEach]
  | cons l ls ih =>
    rw [State.lapseEach_cons, ih, State.lane_lapse, State.pendingPass_lapse]
    by_cases hk : k = l
    · subst hk
      simp
    · simp [hk]

theorem State.counters_lapseEach (s : State) {ls : List LaneId} (hls : ls.Nodup) (r : LapseReason) (k : LaneId) :
    (s.lapseEach ls r).counters k = if k ∈ ls then s.lapsedCounters k else s.counters k := by
  induction ls generalizing s with
  | nil => simp [State.lapseEach]
  | cons l ls ih =>
    obtain ⟨hl, hrest⟩ := List.nodup_cons.mp hls
    rw [State.lapseEach_cons, ih _ hrest, State.lapsedCounters, State.counters_lapse, State.pendingPass_lapse]
    by_cases hk : k = l
    · subst hk
      simp [hl]
    · simp [hk, State.lapsedCounters]

/-- R103: of the tally nothing but today's lane counters differs. -/
theorem State.tally_lapseEach (s : State) (ls : List LaneId) (r : LapseReason) :
    (s.lapseEach ls r).tally = { s.tally with today := { s.tally.today with
      lanes := (s.lapseEach ls r).tally.today.lanes } } := by
  induction ls generalizing s with
  | nil => rfl
  | cons l ls ih =>
    have hone := s.tally_lapse l r
    rw [State.lapseEach_cons, ih, hone]

theorem State.passes_lapseEach (s : State) {ls : List LaneId} (hls : ls.Nodup) (r : LapseReason) :
    (s.lapseEach ls r).passes = s.passes.map fun e =>
      { e with marker := if some e.pass ∈ ls.map s.pendingPass then none else e.marker } := by
  induction ls generalizing s with
  | nil => simp [State.lapseEach]
  | cons l ls ih =>
    obtain ⟨hl, hrest⟩ := List.nodup_cons.mp hls
    have hsame : ls.map (s.lapse l r).pendingPass = ls.map s.pendingPass :=
      List.map_congr_left fun k hk => State.pendingPass_lapse_of_ne fun h => hl (h ▸ hk)
    rw [State.lapseEach_cons, ih _ hrest, hsame, State.lapse_passes, List.map_map]
    refine List.map_congr_left fun e _ => ?_
    by_cases he : s.pendingPass l = some e.pass
    · simp [he]
    · simp [he, Ne.symm he]

theorem State.pbl_lapseEach (s : State) (ls : List LaneId) (r : LapseReason) :
    (s.lapseEach ls r).pbl =
      { s.pbl with entries := s.pbl.entries.filter fun e => ls.all fun l => !(e.phase == .pending l) } := by
  induction ls generalizing s with
  | nil =>
    show s.pbl = { s.pbl with entries := s.pbl.entries.filter fun _ => true }
    rw [filter_const_true]
  | cons l ls ih =>
    rw [State.lapseEach_cons, ih, State.lapse_pbl]
    simp only [List.filter_filter, List.all_cons, Bool.and_comm]

theorem State.wrote_lapseEach (s : State) {ls : List LaneId} (hls : ls.Nodup) (r : LapseReason) :
    s.wrote (s.lapseEach ls r) (ls.filterMap fun k => (s.pendingPass k).map fun p => .lapsed k p r) := by
  induction ls generalizing s with
  | nil => exact State.wrote_nil rfl rfl
  | cons l ls ih =>
    obtain ⟨hl, hrest⟩ := List.nodup_cons.mp hls
    have hsame : ls.filterMap (fun k => ((s.lapse l r).pendingPass k).map fun p => RecordBody.lapsed k p r) =
        ls.filterMap fun k => (s.pendingPass k).map fun p => .lapsed k p r :=
      filterMap_congr_mem fun k hk => by
        have hne : k ≠ l := fun h => hl (h ▸ hk)
        rw [State.pendingPass_lapse_of_ne hne]
    have hthen := ih (s.lapse l r) hrest
    rw [hsame] at hthen
    have happend := (s.lapse_wrote l r).append (State.stamp_congr (by simp)) hthen
    rw [← List.filterMap_append] at happend
    exact happend

/-! ## The lapse of every lane (R104) -/

theorem fourInOrder_nodup : fourInOrder.Nodup := by decide

@[simp] theorem mem_fourInOrder (l : Fin 4) : l ∈ fourInOrder := by
  revert l
  decide

theorem State.lane_lapseAll (s : State) (r : LapseReason) (k : LaneId) :
    (s.lapseAll r).lane k =
      { s.lane k with unlockTimer := if (s.pendingPass k).isSome then none else (s.lane k).unlockTimer } := by
  rw [State.lapseAll_eq, State.lane_lapseEach]
  cases (s.pendingPass k).isSome <;> simp

theorem State.counters_lapseAll (s : State) (r : LapseReason) (k : LaneId) :
    (s.lapseAll r).counters k = s.lapsedCounters k := by
  rw [State.lapseAll_eq, State.counters_lapseEach s fourInOrder_nodup]
  simp

theorem State.tally_lapseAll (s : State) (r : LapseReason) :
    (s.lapseAll r).tally = { s.tally with today := { s.tally.today with lanes := (s.lapseAll r).tally.today.lanes } } :=
  s.tally_lapseEach fourInOrder r

/-- R104: with every lane lapsed the COMMITTED entries remain. -/
theorem State.pbl_lapseAll (s : State) (r : LapseReason) :
    (s.lapseAll r).pbl = { s.pbl with entries := s.pbl.entries.filter PassbackEntry.isCommitted } := by
  have hcommitted : ∀ e ∈ s.pbl.entries,
      (fourInOrder.all fun l => !(e.phase == .pending l)) = e.isCommitted := by
    intro e _
    cases h : e.phase with
    | committed c => simp [PassbackEntry.isCommitted, h]
    | pending l => simp [PassbackEntry.isCommitted, h]
  rw [State.lapseAll_eq, State.pbl_lapseEach, List.filter_congr hcommitted]

end Sys2Proof.Machine
end

section
/-!
PROOFS. The modes (R15, R16), the site configuration and the calendar (R8, R12), the lift status (R10, R11) and the
passback interval (R105, R109).
-/

namespace Sys2Proof.Machine

/-! ## A reply behind an effect -/

/-- The reply joins the line the effect has left, and no other block changes with it. -/
theorem State.answer_spec {s w : State} {bs : List Block} (k : RequestKind) (tag : Byte) (st : StatusCode)
    (d : ReplyData) (hlif : w.lif = s.lif) (h : s.keepsAllBut w bs) :
    s.repliesWith (w.answer k tag st d) k tag st d ∧ s.keepsAllBut (w.answer k tag st d) (.lif :: bs) := by
  refine ⟨by simp [State.repliesWith, hlif], ?_⟩
  have hanswer := State.keepsAllBut_mono (cs := .lif :: bs) (w.onlyAnswers_answer k tag st d).2 (by simp)
  exact State.keepsAllBut_trans (State.keepsAllBut_mono h fun b hb => List.mem_cons_of_mem _ hb) hanswer

theorem State.answerCode_spec {s w : State} {bs : List Block} (k : RequestKind) (tag : Byte) (st : StatusCode)
    (hlif : w.lif = s.lif) (h : s.keepsAllBut w bs) :
    s.repliesWith (w.answerCode k tag st) k tag st .nothing ∧ s.keepsAllBut (w.answerCode k tag st) (.lif :: bs) :=
  State.answer_spec k tag st .nothing hlif h

theorem State.recorded.answerCode {s u : State} {b : RecordBody} (h : s.recorded u b) (k : RequestKind) (tag : Byte)
    (st : StatusCode) : s.recorded (u.answerCode k tag st) b := by
  obtain ⟨hj, hn⟩ := h
  exact ⟨by simpa using hj, by simpa using hn⟩

/-- A record is written at the stamp, which the changes of mode, lift and site leave. -/
theorem State.recorded_of_rcc {s t : State} (b : RecordBody) (hstamp : t.stamp = s.stamp) (hj : t.journal = s.journal)
    (hn : t.notices = s.notices) : s.recorded (t.writeRecord b) b := by
  obtain ⟨hjw, hnw⟩ := t.recorded_writeRecord b
  rw [hstamp, hj] at hjw hnw
  exact ⟨hjw, by rw [hnw, hn]⟩

/-! ## RUN and SETUP (R15, R16) -/

theorem exec_run (tag : Byte) (s : State) : exec (.run tag) s = handle (.run tag) s := rfl

theorem exec_setup (tag : Byte) (s : State) : exec (.setup tag) s = handle (.setup tag) s := rfl

theorem State.clockRunning_eq_true_iff (s : State) : s.clockRunning = true ↔ s.rcc.clock.state = .running := by
  simp [State.clockRunning]

theorem State.changeMode_keepsAllBut (s : State) (m : Mode) (cause : ModeCause) :
    s.keepsAllBut (s.changeMode m cause) [.rcc, .journal, .notices] := by
  rw [State.keepsAllBut_iff]
  simp [State.changeMode]

theorem State.recorded_changeMode (s : State) (m : Mode) (cause : ModeCause) :
    s.recorded (s.changeMode m cause) (.mode m cause) :=
  State.recorded_of_rcc (t := s.setRcc { s.rcc with mode := m }) (.mode m cause) rfl rfl rfl

/-- The move to a mode, answered. -/
theorem State.changeMode_answer_spec (s : State) (m : Mode) (k : RequestKind) (tag : Byte) :
    ((s.changeMode m .request).answerCode k tag .ok).rcc = { s.rcc with mode := m } ∧
      s.recorded ((s.changeMode m .request).answerCode k tag .ok) (.mode m .request) ∧
      s.repliesWith ((s.changeMode m .request).answerCode k tag .ok) k tag .ok .nothing ∧
      s.keepsAllBut ((s.changeMode m .request).answerCode k tag .ok) [.lif, .rcc, .journal, .notices] :=
  ⟨by simp, (s.recorded_changeMode m .request).answerCode k tag .ok,
    State.answerCode_spec k tag .ok (by simp [State.changeMode]) (s.changeMode_keepsAllBut m .request)⟩

theorem State.workInFlight_of_one {s : State} {i : Fin 4} (h : (s.pendingPass i).isSome ∨ (s.slot i).state ≠ .free) :
    s.workInFlight = true := by
  rw [State.workInFlight, List.any_eq_true]
  exact ⟨i, mem_fourInOrder i, by simpa using h⟩

/-- Settles O8: the two requests by the clock, the mode and the work in flight. -/
theorem modeRequestsMoveTheMode : Obligations.ModeRequestsMoveTheMode := by
  refine ⟨fun tag s htakes => ⟨s.runRequest tag, asks_of_handle (exec_run tag s) htakes, ?_, ?_, ?_⟩,
    fun tag s htakes => ⟨s.setupRequest tag, asks_of_handle (exec_setup tag s) htakes, ?_, ?_, ?_⟩⟩
  · intro hstopped
    have hrun : s.clockRunning = false := by simpa [State.clockRunning] using hstopped
    rw [State.runRequest, if_pos hrun]
    exact s.onlyAnswers_answerCode _ _ _
  · intro hclock hmode
    have hrun := s.clockRunning_eq_true_iff.mpr hclock
    rw [State.runRequest, if_neg (by simp [hrun]), if_pos hmode]
    exact s.onlyAnswers_answerCode _ _ _
  · intro hclock hmode
    have hrun := s.clockRunning_eq_true_iff.mpr hclock
    rw [State.runRequest, if_neg (by simp [hrun]), if_neg (by simp [hmode])]
    exact s.changeMode_answer_spec .run .run tag
  · intro hmode
    rw [State.setupRequest, if_pos hmode]
    exact s.onlyAnswers_answerCode _ _ _
  · intro i hmode hwork
    rw [State.setupRequest, if_neg (by simp [hmode]), if_pos (State.workInFlight_of_one hwork)]
    exact s.onlyAnswers_answerCode _ _ _
  · intro hmode hidle
    have hwork := s.workInFlight_eq_false_iff.mpr hidle
    rw [State.setupRequest, if_neg (by simp [hmode]), if_neg (by simp [hwork])]
    exact s.changeMode_answer_spec .setup .setup tag

/-! ## SITE_CONFIG and CALENDAR_MARK (R8, R12) -/

theorem exec_siteConfig (tag : Byte) (f : SiteFields) (s : State) :
    exec (.siteConfig tag f) s = handle (.siteConfig tag f) s := rfl

theorem exec_calendarMark (tag day mark : Byte) (s : State) :
    exec (.calendarMark tag day mark) s = handle (.calendarMark tag day mark) s := rfl

/-- Section 10.9: the mark byte names the marks in their order. -/
theorem dayMarkOf_eq (b : Byte) : dayMarkOf b = ([.noMark, .closedEarly, .closedAllDay] : List DayMark)[b.toNat]? := by
  unfold dayMarkOf
  match b.toNat with
  | 0 | 1 | 2 => rfl
  | _ + 3 => rfl

theorem siteOf_eq_none_of_out_of_range {f : SiteFields} (h : ¬ SiteFieldsInRange f) : siteOf f = none := by
  cases hs : siteOf f with
  | none => rfl
  | some c => exact absurd ((siteOf_eq_some_iff f c).mp hs).1 h

/-- A change of the clock block alone. -/
theorem State.setRcc_keepsAllBut (s : State) (x : ClockBlock) : s.keepsAllBut (s.setRcc x) [.rcc] := by
  rw [State.keepsAllBut_iff]
  simp

/-- R12: the day marked carries its mark, and no other day's mark changes. -/
theorem State.markOf_setIfInBounds {s u : State} {day : Nat} {m : DayMark}
    (hu : u.rcc.calendar = s.rcc.calendar.setIfInBounds day m) (hday : day ≤ 239) :
    u.markOf day = m ∧ ∀ d, d ≠ day → u.markOf d = s.markOf d := by
  constructor
  · have hlt : day < 240 := by omega
    simp [State.markOf, hu, Vector.getElem?_setIfInBounds_self_of_lt hlt]
  · intro d hd
    rw [State.markOf, State.markOf, hu, Vector.getElem?_setIfInBounds_ne (Ne.symm hd)]

/-- Settles O9: the seven fields together, and one mark of the calendar. -/
theorem siteConfigAndCalendarMark : Obligations.SiteConfigAndCalendarMark := by
  refine ⟨dayMarkOf_eq,
    fun tag f s htakes => ⟨s.siteConfigRequest tag f, asks_of_handle (exec_siteConfig tag f s) htakes, ?_, ?_, ?_⟩,
    fun tag day mark s htakes =>
      ⟨s.calendarMarkRequest tag day.toNat mark, asks_of_handle (exec_calendarMark tag day mark s) htakes, ?_, ?_⟩⟩
  · intro hmode
    rw [State.siteConfigRequest, hmode]
    exact s.onlyAnswers_answerCode _ _ _
  · intro hmode hrange
    rw [State.siteConfigRequest, hmode, siteOf_eq_none_of_out_of_range hrange]
    exact s.onlyAnswers_answerCode _ _ _
  · intro hmode hrange
    rw [State.siteConfigRequest, hmode, (siteOf_eq_some_iff f _).mpr ⟨hrange, rfl⟩]
    exact ⟨by simp, State.answerCode_spec .siteConfig tag .ok (by simp) (s.setRcc_keepsAllBut _)⟩
  · intro hbad
    rw [State.calendarMarkRequest]
    cases hm : dayMarkOf mark with
    | none => exact s.onlyAnswers_answerCode _ _ _
    | some m =>
      have hday : 239 < day.toNat := hbad.resolve_right (by simp [hm])
      simp only [if_pos hday]
      exact s.onlyAnswers_answerCode _ _ _
  · intro m hday hm
    rw [State.calendarMarkRequest, hm]
    simp only [if_neg (Nat.not_lt.mpr hday)]
    obtain ⟨hmark, hothers⟩ := State.markOf_setIfInBounds (s := s) (m := m) (u := (s.setRcc { s.rcc with
      calendar := s.rcc.calendar.setIfInBounds day.toNat m }).answerCode .calendarMark tag .ok) (by simp) hday
    exact ⟨hmark, hothers, by simp, State.answerCode_spec .calendarMark tag .ok (by simp) (s.setRcc_keepsAllBut _)⟩

/-! ## LIFT_STATUS (R10, R11) -/

theorem exec_liftStatus (tag value : Byte) (s : State) :
    exec (.liftStatus tag value) s = handle (.liftStatus tag value) s := rfl

/-- Section 10.9: the lift status byte names the statuses in their order. -/
theorem liftStatusOf_eq (b : Byte) : liftStatusOf b = ([.isOpen, .hold, .closed] : List LiftStatus)[b.toNat]? := by
  unfold liftStatusOf
  match b.toNat with
  | 0 | 1 | 2 => rfl
  | _ + 3 => rfl

/-- R10: the lift status takes a value, with its LIFT record. -/
def State.writeLift (s : State) (v : LiftStatus) : State := (s.setRcc { s.rcc with lift := v }).writeRecord (.lift v)

theorem State.changeLift_eq (s : State) (v : LiftStatus) :
    s.changeLift v = if v = .closed then (s.writeLift v).lapseAll .liftClosed else s.writeLift v := rfl

theorem State.recorded_writeLift (s : State) (v : LiftStatus) : s.recorded (s.writeLift v) (.lift v) :=
  State.recorded_of_rcc (t := s.setRcc { s.rcc with lift := v }) (.lift v) rfl rfl rfl

@[simp] theorem State.writeLift_rcc (s : State) (v : LiftStatus) : (s.writeLift v).rcc = { s.rcc with lift := v } := by
  simp [State.writeLift]

theorem State.writeLift_keepsAllBut (s : State) (v : LiftStatus) :
    s.keepsAllBut (s.writeLift v) [.rcc, .journal, .notices] := by
  rw [State.keepsAllBut_iff]
  simp [State.writeLift]

/-- R104: the lanes are taken in order 0 to 3. -/
theorem State.lapseAll_four (s : State) (r : LapseReason) :
    s.lapseAll r = (((s.lapse 0 r).lapse 1 r).lapse 2 r).lapse 3 r := rfl

/-- Settles O11: the value named, the status held, and what another status brings. -/
theorem liftStatusChanges : Obligations.LiftStatusChanges := by
  refine ⟨liftStatusOf_eq, fun tag value s htakes =>
    ⟨s.liftStatusRequest tag value, asks_of_handle (exec_liftStatus tag value s) htakes, ?_, ?_, ?_, ?_⟩⟩
  · intro hunknown
    rw [State.liftStatusRequest, hunknown]
    exact s.onlyAnswers_answerCode _ _ _
  · intro hheld
    rw [State.liftStatusRequest, hheld]
    simp only [if_true]
    exact s.onlyAnswers_answerCode _ _ _
  · intro v hv hother hopen
    rw [State.liftStatusRequest, hv]
    simp only [if_neg (Ne.symm hother), State.changeLift_eq, if_neg hopen]
    exact ⟨by simp, (s.recorded_writeLift v).answerCode _ _ _,
      State.answerCode_spec .liftStatus tag .ok (by simp [State.writeLift]) (s.writeLift_keepsAllBut v)⟩
  · intro hv hopen
    rw [State.liftStatusRequest, hv]
    simp only [if_neg hopen, State.changeLift_eq, if_true]
    refine ⟨s.writeLift .closed, by simp, s.recorded_writeLift .closed, s.writeLift_keepsAllBut .closed,
      by rw [State.lapseAll_four], ?_⟩
    intro l
    rw [State.pendingPass_congr (s := (s.writeLift .closed).lapseAll .liftClosed) (by simp)]
    exact State.pendingPass_lapseAll _ l _

/-! ## PASSBACK_SET and PASSBACK_EXPIRY (R105, R109) -/

theorem exec_passbackSet (tag : Byte) (interval : U16) (s : State) :
    exec (.passbackSet tag interval) s = handle (.passbackSet tag interval) s := rfl

theorem exec_passbackExpiry (s : State) : exec .passbackExpiry s = .next s.expirePassback.settled := rfl

theorem State.expirePassback_pbl (s : State) :
    s.expirePassback.pbl =
      { s.pbl with entries := s.pbl.entries.filter fun x => x.staysAt s.stamp s.pbl.interval } := by
  rw [State.expirePassback_eq]
  simp

theorem State.setPbl_keepsAllBut (s : State) (x : PassbackList) : s.keepsAllBut (s.setPbl x) [.pbl] := by
  rw [State.keepsAllBut_iff]
  simp

/-- Settles O13: the new interval and what is due under it; and what is due under the interval held. -/
theorem passbackIntervalAndExpiry : Obligations.PassbackIntervalAndExpiry := by
  refine ⟨fun tag interval s htakes =>
    ⟨s.passbackSetRequest tag interval.toNat, asks_of_handle (exec_passbackSet tag interval s) htakes, ?_, ?_⟩, ?_⟩
  · intro hlong
    rw [State.passbackSetRequest, if_pos hlong]
    exact s.onlyAnswers_answerCode _ _ _
  · intro hrange
    rw [State.passbackSetRequest, if_neg (Nat.not_lt.mpr hrange), State.expirePassback_eq]
    exact ⟨by simp [State.stamp], State.answerCode_spec .passbackSet tag .ok (by simp)
      (State.keepsAllBut_trans (s.setPbl_keepsAllBut _) (State.setPbl_keepsAllBut _ _))⟩
  · intro s
    rw [ends, exec_passbackExpiry, State.expirePassback_eq]

end Sys2Proof.Machine
end

section
/-!
PROOFS. The clock in motion: the end of a day and of the season (R3, R4, R126), the second advance (R2) and SET_CLOCK
(R5, R6), each with the expiries that the moved stamp brings (R109, R152).
-/

namespace Sys2Proof.Machine

/-! ## What the moved stamp brings -/

/-- R152: the slots are taken in order 0 to 3. -/
theorem State.expireHolds_four (s : State) :
    s.expireHolds = (((s.expireHold 0).expireHold 1).expireHold 2).expireHold 3 := rfl

theorem State.stampMoved_eq (s : State) : s.stampMoved = s.expirePassback.expireHolds := rfl

/-- R152: no hold is due at the stamp reached, read off the slots before the event. -/
theorem State.expireHolds_of_later {s w : State} {n : Nat} (hquotes : w.quotes = s.quotes) (hstamp : w.stamp = n)
    (h : ∀ k i x r e, (s.slot k).state = .quoted i x r e → n < e) : w.expireHolds = w := by
  refine State.expireHolds_of_none_due fun k i x r e hk => ?_
  rw [State.slot_congr hquotes] at hk
  rw [hstamp]
  exact h k i x r e hk

/-- R109: an expiry on a list just cleared finds nothing due. -/
theorem State.expirePassback_of_cleared {s : State} {x : PassbackList} (h : s.pbl = { x with
      entries := x.entries.filter fun e => !e.isCommitted }) :
    s.expirePassback.pbl = { x with entries := x.entries.filter fun e => !e.isCommitted } := by
  rw [State.expirePassback_pbl, h]
  simp only [filter_cleared_staysAt]

/-! ## The cleared set -/

/-- R125: the preset reads the pending admissions alone. -/
theorem State.clearedSet_congr {s u : State} (h : ∀ l, u.pendingPass l = s.pendingPass l) (day : Option Nat) :
    u.clearedSet day = s.clearedSet day := by
  simp [State.clearedSet, State.pendingCount, h]

theorem State.pendingPass_clearCommitted (s : State) (l : LaneId) : s.clearCommitted.pendingPass l = s.pendingPass l := by
  simp only [State.pendingPass, State.clearCommitted, State.setPbl, List.find?_filter]
  congr 2
  funext e
  rw [Bool.eq_iff_iff]
  cases h : e.phase <;> simp [PassbackEntry.isCommitted, h]

/-- R127: with no admission pending a cleared set is all zeros. -/
theorem State.clearedSet_of_none_pending {s : State} (h : ∀ l, s.pendingPass l = none) (day : Option Nat) :
    s.clearedSet day = TallySet.zero day := by
  have hlanes : (Quad.tabulate fun l => { LaneCounters.zero with admittedCount := s.pendingCount l }) =
      (TallySet.zero day).lanes := by
    refine Quad.ext_get fun l => ?_
    rw [Quad.get_tabulate, TallySet.lanes_zero, State.pendingCount, h l]
    rfl
  rw [State.clearedSet, hlanes]

/-! ## The end of a day (R3, R126) -/

theorem State.moveTally_journal (s : State) (day : Nat) :
    (s.moveTally day).journal = s.journal.write s.stamp (.dayRoll day s.tally.today.riders s.tally.today.newDays
      s.tally.today.refundsSettled s.tally.today.payoutTotal) := by
  simp only [State.moveTally, State.setToday_frame, State.writeRecord_journal]
  rfl

theorem State.moveTally_notices (s : State) (day : Nat) :
    (s.moveTally day).notices =
      if (s.moveTally day).journal.isHigh then s.notices.raise .journalHigh else s.notices := by
  rw [State.moveTally_journal]
  simp only [State.moveTally, State.setToday_frame, State.writeRecord_notices]
  rfl

theorem State.moveTally_tally (s : State) (day : Nat) :
    (s.moveTally day).tally = { today := s.clearedSet (some s.today), previous := s.tally.today } := by
  have hset : ∀ t : State, t.pbl = s.pbl → ∀ d, t.clearedSet d = s.clearedSet d :=
    fun t ht => State.clearedSet_congr fun l => State.pendingPass_congr ht l
  simp only [State.moveTally, State.setToday_tally]
  rw [hset _ (by simp)]
  simp [State.today]

/-- R3: the blocks after a day has been announced. -/
theorem State.announceDay_spec (s : State) (day : Nat) :
    (s.announceDay day).pbl = { s.pbl with entries := s.pbl.entries.filter fun e => !e.isCommitted } ∧
    (s.announceDay day).tally = { today := s.clearedSet (some s.today), previous := s.tally.today } ∧
    (s.announceDay day).journal = s.journal.write s.stamp (.dayRoll day s.tally.today.riders s.tally.today.newDays
      s.tally.today.refundsSettled s.tally.today.payoutTotal) ∧
    (s.announceDay day).notices =
      (if (s.announceDay day).journal.isHigh then s.notices.raise .journalHigh else s.notices).raise .dayRolled := by
  have hjournal : (s.announceDay day).journal = (s.clearCommitted.moveTally day).journal := by simp [State.announceDay]
  refine ⟨by simp [State.announceDay, State.clearCommitted], ?_, ?_, ?_⟩
  · have hset := State.clearedSet_congr s.pendingPass_clearCommitted (some s.today)
    have htally := s.clearCommitted.moveTally_tally day
    simp only [State.announceDay, State.raise_frame, htally]
    rw [show s.clearCommitted.today = s.today from rfl, hset]
    rfl
  · rw [hjournal, State.moveTally_journal]
    rfl
  · rw [hjournal, State.announceDay, State.raise_notices, State.moveTally_notices]
    rfl

/-! ## The second advance (R2, R3, R4) -/

theorem exec_secondAdvance (s : State) : exec .secondAdvance s = .next s.advanceSecond.settled := rfl

theorem State.advanceSecond_of_stopped {s : State} (h : s.rcc.clock.state ≠ .running) : s.advanceSecond = s := by
  unfold State.advanceSecond
  cases hs : s.rcc.clock.state
  case running => exact absurd hs h
  all_goals rfl

theorem State.advanceSecond_of_second {s : State} (h : s.rcc.clock.state = .running)
    (hsec : s.rcc.clock.second < 86399) :
    s.advanceSecond = (s.setClockTo .running s.rcc.clock.day (s.rcc.clock.second + 1)).stampMoved := by
  rw [State.advanceSecond, h]
  simp only [if_pos hsec]

theorem State.advanceSecond_of_day {s : State} (h : s.rcc.clock.state = .running) (hsec : s.rcc.clock.second = 86399)
    (hday : s.rcc.clock.day < 239) : s.advanceSecond = s.rollOver.stampMoved := by
  rw [State.advanceSecond, h, hsec]
  simp only [Nat.lt_irrefl, if_false, if_pos hday]

theorem State.advanceSecond_of_season {s : State} (h : s.rcc.clock.state = .running)
    (hsec : s.rcc.clock.second = 86399) (hday : s.rcc.clock.day = 239) : s.advanceSecond = s.endSeason.stampMoved := by
  rw [State.advanceSecond, h, hsec, hday]
  simp only [Nat.lt_irrefl, if_false]

/-- R2: a second of a day: the clock moves, and the Passback List expires at the new stamp. -/
theorem State.secondWithinDay_spec {s : State} (h : s.rcc.clock.state = .running) {w : State}
    (hw : w = (s.setClockTo .running s.rcc.clock.day (s.rcc.clock.second + 1)).expirePassback) :
    w.rcc = { s.rcc with clock := { s.rcc.clock with second := s.rcc.clock.second + 1 } } ∧
    w.stamp = s.stamp + 1 ∧
    w.pbl = { s.pbl with entries := s.pbl.entries.filter fun x => x.staysAt (s.stamp + 1) s.pbl.interval } ∧
    s.keepsAllBut w [.rcc, .pbl] := by
  have hrcc : w.rcc = { s.rcc with clock := { s.rcc.clock with second := s.rcc.clock.second + 1 } } := by
    rw [hw]
    simp [h]
  refine ⟨hrcc, by simp [State.stamp, hrcc, Nat.add_assoc], ?_, ?_⟩
  · rw [hw, State.expirePassback_pbl]
    simp [State.stamp, Nat.add_assoc]
  · rw [hw, State.keepsAllBut_iff]
    simp

/-- R3: the last second of a day but the season's last. -/
theorem State.rollOver_spec {s : State} (h : s.rcc.clock.state = .running) (hsec : s.rcc.clock.second = 86399)
    {w : State} (hw : w = s.rollOver.expirePassback) :
    w.rcc = { s.rcc with clock := { state := .running, day := s.rcc.clock.day + 1, second := 0 } } ∧
    w.stamp = s.stamp + 1 ∧
    w.tally = { today := s.clearedSet (some (s.rcc.clock.day + 1)), previous := s.tally.today } ∧
    w.pbl = { s.pbl with entries := s.pbl.entries.filter fun x => !x.isCommitted } ∧
    w.journal = s.journal.write (s.stamp + 1) (.dayRoll s.rcc.clock.day s.tally.today.riders s.tally.today.newDays
      s.tally.today.refundsSettled s.tally.today.payoutTotal) ∧
    w.notices = (if w.journal.isHigh then s.notices.raise .journalHigh else s.notices).raise .dayRolled ∧
    s.keepsAllBut w [.rcc, .pbl, .tally, .journal, .notices] := by
  have hrcc : w.rcc = { s.rcc with clock := { state := .running, day := s.rcc.clock.day + 1, second := 0 } } := by
    rw [hw]
    simp [h]
  have hnext : (s.rcc.clock.day + 1) * Config.secondsPerDay + 0 = s.stamp + 1 := by
    show (s.rcc.clock.day + 1) * 86400 + 0 = s.rcc.clock.day * 86400 + s.rcc.clock.second + 1
    omega
  obtain ⟨hpbl, htally, hjournal, hnotices⟩ :=
    (s.setClockTo s.rcc.clock.state (s.today + 1) 0).announceDay_spec s.today
  have hstamp : (s.setClockTo s.rcc.clock.state (s.today + 1) 0).stamp = s.stamp + 1 := by
    rw [State.stamp, State.setClockTo_rcc]
    exact hnext
  refine ⟨hrcc, ?_, ?_, ?_, ?_, ?_, ?_⟩
  · rw [State.stamp, hrcc]
    exact hnext
  · rw [hw, State.expirePassback_frame _ |>.2.2.2.2.2.2.2.1, State.rollOver, htally]
    rfl
  · rw [hw]
    exact State.expirePassback_of_cleared hpbl
  · rw [hstamp] at hjournal
    simp only [hw, State.expirePassback_frame]
    exact hjournal
  · simp only [hw, State.expirePassback_frame]
    exact hnotices
  · rw [hw, State.keepsAllBut_iff]
    simp

/-! ## The end of the season (R4) -/

/-- R4: the clock set EXPIRED, then every pending admission lapsed. -/
def State.seasonLapsed (s : State) : State := (s.setClockTo .expired 239 86399).lapseAll .seasonEnd

theorem State.endSeason_eq (s : State) : s.endSeason = (s.seasonLapsed.announceDay 239).raise .clockExpired := rfl

/-- The lapses of the season's end, read off the state before it. -/
theorem State.seasonLapsed_spec (s : State) :
    s.seasonLapsed.rcc = { s.rcc with clock := { state := .expired, day := 239, second := 86399 } } ∧
    s.seasonLapsed.pbl = { s.pbl with entries := s.pbl.entries.filter PassbackEntry.isCommitted } ∧
    s.seasonLapsed.tally = { s.tally with today := { s.tally.today with lanes := s.seasonLapsed.tally.today.lanes } } ∧
    (∀ l, s.seasonLapsed.tally.today.lanes.get l = s.lapsedCounters l) ∧
    (∀ l, s.seasonLapsed.lane l =
      { s.lane l with unlockTimer := if (s.pendingPass l).isSome then none else (s.lane l).unlockTimer }) ∧
    (∀ l, s.seasonLapsed.pendingPass l = none) :=
  ⟨by simp [State.seasonLapsed], State.pbl_lapseAll _ _, State.tally_lapseAll _ _, State.counters_lapseAll _ _,
    State.lane_lapseAll _ _, fun l => State.pendingPass_lapseAll _ l _⟩

/-- R104: the lapses end the markers of the admissions pending, and nothing else of the Pass Table differs. -/
theorem State.markersEnded_of_lapseAll {s t u : State} {r : LapseReason} (hpbl : t.pbl = s.pbl)
    (hpasses : t.passes = s.passes) (hu : u.passes = (t.lapseAll r).passes) : s.markersEnded u := by
  have hmap : u.passes = s.passes.map fun e =>
      { e with marker := if some e.pass ∈ fourInOrder.map s.pendingPass then none else e.marker } := by
    rw [hu, State.lapseAll_eq, State.passes_lapseEach t fourInOrder_nodup, hpasses,
      show t.pendingPass = s.pendingPass from funext (State.pendingPass_congr hpbl)]
  constructor
  · rw [hmap, List.map_map]
    rfl
  · intro l pass hp e he
    have hpass := State.pass_of_findPass he
    have hmem := State.mem_of_findPass he
    rw [hmap, List.mem_map] at hmem
    obtain ⟨d, -, rfl⟩ := hmem
    have hpending : some d.pass ∈ fourInOrder.map s.pendingPass :=
      List.mem_map.mpr ⟨l, mem_fourInOrder l, hp.trans (congrArg some hpass.symm)⟩
    simp only [if_pos hpending]

/-- R4, R126: the blocks at the season's end, once the admissions have lapsed. -/
theorem State.endSeason_spec (s : State) {w : State} (hw : w = s.endSeason.expirePassback) :
    w.rcc = { s.rcc with clock := { state := .expired, day := 239, second := 86399 } } ∧
    w.tally = { today := TallySet.zero (some 239), previous := s.seasonLapsed.tally.today } ∧
    w.pbl = { s.pbl with entries := [] } ∧
    w.journal = s.seasonLapsed.journal.write (239 * 86400 + 86399) (.dayRoll 239 s.tally.today.riders
      s.tally.today.newDays s.tally.today.refundsSettled s.tally.today.payoutTotal) ∧
    w.notices = ((if w.journal.isHigh then s.seasonLapsed.notices.raise .journalHigh
      else s.seasonLapsed.notices).raise .dayRolled).raise .clockExpired ∧
    s.seasonLapsed.keepsAllBut w [.pbl, .tally, .journal, .notices] := by
  obtain ⟨hrcc, hpbl, htally, -, -, hnone⟩ := s.seasonLapsed_spec
  obtain ⟨hpbl', htally', hjournal', hnotices'⟩ := s.seasonLapsed.announceDay_spec 239
  have htoday : s.seasonLapsed.today = 239 := by simp [State.today, hrcc]
  have hstamp : s.seasonLapsed.stamp = 239 * 86400 + 86399 := by simp [State.stamp, hrcc, Config.secondsPerDay]
  have hempty : (s.pbl.entries.filter PassbackEntry.isCommitted).filter (fun e => !e.isCommitted) = [] := by
    simp [List.filter_filter]
  refine ⟨by simp [hw], ?_, ?_, ?_, ?_, ?_⟩
  · simp only [hw, State.endSeason_eq, State.expirePassback_frame, State.raise_frame]
    rw [htally', State.clearedSet_of_none_pending hnone, htoday]
  · have hcleared : s.endSeason.pbl = { s.seasonLapsed.pbl with
        entries := s.seasonLapsed.pbl.entries.filter fun e => !e.isCommitted } := by
      rw [State.endSeason_eq, State.raise_frame _ _ |>.2.2.2.2.2.2.2.1, hpbl']
    rw [hw, State.expirePassback_of_cleared hcleared, hpbl]
    simp only [hempty]
  · simp only [hw, State.endSeason_eq, State.expirePassback_frame, State.raise_frame]
    rw [hjournal', hstamp, htally]
  · simp only [hw, State.endSeason_eq, State.expirePassback_frame, State.raise_frame, State.raise_notices]
    rw [hnotices']
  · rw [hw, State.keepsAllBut_iff, State.endSeason_eq]
    simp

/-! ## Notices through the holds dropped (R150, R170) -/

/-- A notice that is neither JOURNAL_HIGH nor a QUOTE_ENDED stays pending through a hold's expiry. -/
theorem State.mem_notices_expireHold {s : State} {y : PendingNotice} (hy : y ∈ s.notices.pending)
    (hhigh : y.key ≠ .journalHigh) (hended : ∀ k, y.key ≠ .quoteEnded k) (k : SlotId) :
    y ∈ (s.expireHold k).notices.pending := by
  have hdrop : ∀ p next, y ∈ (s.dropTo k p .expired next).notices.pending := by
    intro p next
    obtain ⟨-, -, -, -, hnotices⟩ := s.dropTo_spec k p .expired next
    rw [hnotices]
    refine NoticeLatch.mem_raise_of_ne _ ?_ (hended k)
    split
    · exact NoticeLatch.mem_raise_of_ne _ hy hhigh
    · exact hy
  rw [State.expireHold]
  split
  · cases hi : (s.slot k).state.identity? with
    | none =>
      unfold State.dropQuote
      cases hs : (s.slot k).state <;> simp_all [SlotState.identity?]
    | some i =>
      rw [State.dropQuote_eq hi]
      exact hdrop _ _
  · exact hy

theorem State.mem_notices_expireHolds {s : State} {y : PendingNotice} (hy : y ∈ s.notices.pending)
    (hhigh : y.key ≠ .journalHigh) (hended : ∀ k, y.key ≠ .quoteEnded k) : y ∈ s.expireHolds.notices.pending := by
  have hone : ∀ {t : State}, y ∈ t.notices.pending → ∀ k, y ∈ (t.expireHold k).notices.pending :=
    fun ht k => State.mem_notices_expireHold ht hhigh hended k
  rw [State.expireHolds_four]
  exact hone (hone (hone (hone hy 0) 1) 2) 3

theorem foldl_recordAndRaise_mask (stamp : Nat) (bs : List RecordBody) (x : Journal × NoticeLatch) :
    (bs.foldl (recordAndRaise stamp) x).2.mask = x.2.mask := by
  induction bs generalizing x with
  | nil => rfl
  | cons b bs ih =>
    have hhigh : ∀ j : Journal, (if j.isHigh then x.2.raise .journalHigh else x.2).mask = x.2.mask := by
      intro j
      split <;> simp
    rw [List.foldl_cons, ih]
    cases b <;> simp [recordAndRaise, hhigh]

theorem State.wrote.mask_eq {s u : State} {bs : List RecordBody} (h : s.wrote u bs) :
    u.notices.mask = s.notices.mask := by
  rw [← foldl_recordAndRaise_mask s.stamp bs (s.journal, s.notices), ← h]

/-- The second advance at the end of a day but the season's last. -/
theorem State.dayEnds {s u : State} (hrun : s.rcc.clock.state = .running) (hsec : s.rcc.clock.second = 86399)
    (hday : s.rcc.clock.day < 239) (hu : u = s.advanceSecond) :
    (∃ w, w.rcc = { s.rcc with clock := { state := .running, day := s.rcc.clock.day + 1, second := 0 } } ∧
      w.tally = { today := s.clearedSet (some (s.rcc.clock.day + 1)), previous := s.tally.today } ∧
      w.pbl = { s.pbl with entries := s.pbl.entries.filter fun x => !x.isCommitted } ∧
      w.journal = s.journal.write (s.stamp + 1)
        (.dayRoll s.rcc.clock.day s.tally.today.riders s.tally.today.newDays s.tally.today.refundsSettled
          s.tally.today.payoutTotal) ∧
      w.notices = (if w.journal.isHigh then s.notices.raise .journalHigh else s.notices).raise .dayRolled ∧
      s.keepsAllBut w [.rcc, .pbl, .tally, .journal, .notices] ∧
      u = (((w.expireHold 0).expireHold 1).expireHold 2).expireHold 3) ∧
    s.keepsAllBut u [.rcc, .passes, .pbl, .tally, .rfc, .quotes, .journal, .notices] ∧
    ((∀ k i x r e, (s.slot k).state = .quoted i x r e → s.stamp + 1 < e) →
      s.keepsAllBut u [.rcc, .pbl, .tally, .journal, .notices]) := by
  rw [State.advanceSecond_of_day hrun hsec hday, State.stampMoved_eq] at hu
  generalize hw : s.rollOver.expirePassback = w at hu
  obtain ⟨hrcc, hstamp, htally, hpbl, hjournal, hnotices, hframe⟩ := State.rollOver_spec hrun hsec hw.symm
  have hquotes : w.quotes = s.quotes := hframe .quotes (by simp)
  refine ⟨⟨w, hrcc, htally, hpbl, hjournal, hnotices, hframe, by rw [hu, State.expireHolds_four]⟩, ?_, ?_⟩
  · rw [hu]
    refine State.keepsAllBut_trans (State.keepsAllBut_mono hframe (by simp)) ?_
    rw [State.keepsAllBut_iff]
    simp
  · intro hlater
    rw [hu, State.expireHolds_of_later hquotes hstamp hlater]
    exact hframe

/-- The second advance that ends the season. -/
theorem State.seasonEnds {s u : State} (hrun : s.rcc.clock.state = .running) (hsec : s.rcc.clock.second = 86399)
    (hday : s.rcc.clock.day = 239) (hu : u = s.advanceSecond) :
    (∃ x w, x = (((((s.setRcc { s.rcc with
          clock := { state := .expired, day := 239, second := 86399 } }).lapse 0 .seasonEnd).lapse 1
            .seasonEnd).lapse 2 .seasonEnd).lapse 3 .seasonEnd) ∧
      w.tally = { today := TallySet.zero (some 239), previous := x.tally.today } ∧
      w.pbl = { s.pbl with entries := [] } ∧
      w.journal = x.journal.write (239 * 86400 + 86399)
        (.dayRoll 239 s.tally.today.riders s.tally.today.newDays s.tally.today.refundsSettled
          s.tally.today.payoutTotal) ∧
      w.notices = ((if w.journal.isHigh then x.notices.raise .journalHigh else x.notices).raise
        .dayRolled).raise .clockExpired ∧
      x.keepsAllBut w [.pbl, .tally, .journal, .notices] ∧
      u = (((w.expireHold 0).expireHold 1).expireHold 2).expireHold 3) ∧
    u.rcc = { s.rcc with clock := { state := .expired, day := 239, second := 86399 } } ∧
    u.pbl = { s.pbl with entries := [] } ∧
    u.tally.today = TallySet.zero (some 239) ∧
    u.tally.previous = { s.tally.today with lanes := u.tally.previous.lanes } ∧
    (∀ l, u.tally.previous.lanes.get l = s.lapsedCounters l) ∧
    (∀ l, u.lane l = { s.lane l with
      unlockTimer := if (s.pendingPass l).isSome then none else (s.lane l).unlockTimer }) ∧
    PendingNotice.clockExpired ∈ u.notices.pending ∧ PendingNotice.dayRolled ∈ u.notices.pending ∧
    s.keepsAllBut u [.rcc, .passes, .lanes, .pbl, .tally, .rfc, .quotes, .journal, .notices] ∧
    ((∀ k i x r e, (s.slot k).state = .quoted i x r e → s.stamp < e) →
      s.markersEnded u ∧ u.notices.mask = s.notices.mask ∧
      s.keepsAllBut u [.rcc, .passes, .lanes, .pbl, .tally, .journal, .notices]) := by
  rw [State.advanceSecond_of_season hrun hsec hday, State.stampMoved_eq] at hu
  generalize hw : s.endSeason.expirePassback = w at hu
  obtain ⟨-, -, htallyx, hcounters, hlanes, -⟩ := s.seasonLapsed_spec
  obtain ⟨hrcc, htally, hpbl, hjournal, hnotices, hframe⟩ := s.endSeason_spec hw.symm
  have hframex : s.keepsAllBut s.seasonLapsed [.rcc, .passes, .lanes, .pbl, .tally, .journal, .notices] := by
    rw [State.keepsAllBut_iff]
    simp [State.seasonLapsed]
  have hframew : s.keepsAllBut w [.rcc, .passes, .lanes, .pbl, .tally, .journal, .notices] :=
    State.keepsAllBut_trans hframex (State.keepsAllBut_mono hframe (by simp))
  have hexpire : w.keepsAllBut u [.passes, .rfc, .quotes, .journal, .notices] := by
    rw [hu, State.keepsAllBut_iff]
    simp
  have hutally : u.tally = w.tally := hexpire .tally (by simp)
  have hstamp : w.stamp = s.stamp := by
    rw [State.stamp, State.stamp, hrcc, hsec, hday]
  refine ⟨⟨s.seasonLapsed, w, ?_, htally, hpbl, hjournal, hnotices, hframe, by rw [hu, State.expireHolds_four]⟩,
    (hexpire .rcc (by simp)).trans hrcc, (hexpire .pbl (by simp)).trans hpbl, by rw [hutally, htally], ?_, ?_, ?_, ?_,
    ?_, ?_, ?_⟩
  · rw [State.seasonLapsed, State.lapseAll_four, State.setClockTo]
  · rw [hutally, htally, htallyx]
  · intro l
    rw [hutally, htally]
    exact hcounters l
  · intro l
    rw [State.lane_congr (hexpire .lanes (by simp)), State.lane_congr (hframe .lanes (by simp))]
    exact hlanes l
  · rw [hu]
    refine State.mem_notices_expireHolds ?_ (by simp [PendingNotice.key]) (by simp [PendingNotice.key])
    rw [hnotices]
    exact NoticeLatch.key_mem_raise _ _
  · rw [hu]
    refine State.mem_notices_expireHolds ?_ (by simp [PendingNotice.key]) (by simp [PendingNotice.key])
    rw [hnotices]
    exact NoticeLatch.mem_raise_of_ne _ (NoticeLatch.key_mem_raise _ _) (by simp [PendingNotice.key])
  · exact State.keepsAllBut_trans (State.keepsAllBut_mono hframew (by simp)) (State.keepsAllBut_mono hexpire (by simp))
  · intro hlater
    have hsame : u = w := by rw [hu, State.expireHolds_of_later (hframew .quotes (by simp)) hstamp hlater]
    refine ⟨?_, ?_, by rw [hsame]; exact hframew⟩
    · exact State.markersEnded_of_lapseAll (t := s.setClockTo .expired 239 86399) (r := .seasonEnd) (by simp) (by simp)
        (by rw [hsame]; exact hframe .passes (by simp))
    · have hmask := State.wrote.mask_eq
        (State.wrote_lapseEach (s.setClockTo .expired 239 86399) fourInOrder_nodup .seasonEnd)
      rw [hsame, hnotices]
      simp only [NoticeLatch.raise_mask]
      split
      · exact (NoticeLatch.raise_mask _ _).trans hmask
      · exact hmask

/-- Settles O12: the stopped clock, a second within a day, the end of a day and the end of the season. -/
theorem secondAdvanceAndDayEnd : Obligations.SecondAdvanceAndDayEnd := by
  refine ⟨fun s => ⟨s.advanceSecond, exec_secondAdvance s, State.advanceSecond_of_stopped, ?_⟩,
    fun s hrun hsec => ⟨s.advanceSecond, exec_secondAdvance s, fun hday => State.dayEnds hrun hsec hday rfl,
      fun hday => State.seasonEnds hrun hsec hday rfl⟩⟩
  intro hrun hsec
  rw [State.advanceSecond_of_second hrun hsec, State.stampMoved_eq]
  generalize hw : (s.setClockTo .running s.rcc.clock.day (s.rcc.clock.second + 1)).expirePassback = w
  obtain ⟨hrcc, hstamp, hpbl, hframe⟩ := State.secondWithinDay_spec hrun hw.symm
  refine ⟨⟨w, hrcc, hpbl, hframe, w.expireHolds_four⟩, ?_, fun hlater => ?_⟩
  · refine State.keepsAllBut_trans (State.keepsAllBut_mono hframe (by simp)) ?_
    rw [State.keepsAllBut_iff]
    simp
  · rw [State.expireHolds_of_later (hframe .quotes (by simp)) hstamp hlater]
    exact hframe

end Sys2Proof.Machine
end

section
/-!
PROOFS. SET_CLOCK (R5, R6): the clock set in SETUP, and moved in RUN, with the expiries that the moved stamp brings.
-/

namespace Sys2Proof.Machine

theorem exec_setClock (tag day : Byte) (second : U24) (s : State) :
    exec (.setClock tag day second) s = handle (.setClock tag day second) s := rfl

/-- R5: the clock runs from the values carried, the COMMITTED entries go and today's set stands for the new day. -/
def State.clockSet (s : State) (day second : Nat) : State :=
  let t := (s.setClockTo .running day second).clearCommitted
  t.setToday { t.tally.today with day := some day }

/-- R6: the clock moves, over a day's end if the day is a later one. -/
def State.clockMoved (s : State) (day second : Nat) : State :=
  let t := s.setClockTo .running day second
  if s.rcc.clock.day < day then t.announceDay s.rcc.clock.day else t

theorem State.setClockRequest_of_setup {s : State} (tag : Byte) {day second : Nat}
    (hrange : day ≤ 239 ∧ second ≤ 86399) (hmode : s.rcc.mode = .setup) :
    s.setClockRequest tag day second =
      (s.clockSet day second).expirePassback.expireHolds.answerCode .setClock tag .ok := by
  rw [State.setClockRequest, if_neg (by omega), hmode]
  rfl

theorem State.setClockRequest_of_run {s : State} (tag : Byte) {day second : Nat}
    (hrange : day ≤ 239 ∧ second ≤ 86399) (hmode : s.rcc.mode = .run) (hday : s.rcc.clock.day ≤ day) :
    s.setClockRequest tag day second =
      (s.clockMoved day second).expirePassback.expireHolds.answerCode .setClock tag .ok := by
  rw [State.setClockRequest, if_neg (by omega), hmode]
  simp only [if_neg (Nat.not_lt.mpr hday)]
  rfl

/-- The clock and the frame of a state reached by setting or moving the clock. -/
def State.MovedTo (s w : State) (day second : Nat) : Prop :=
  w.rcc = { s.rcc with clock := { state := .running, day := day, second := second } } ∧
    s.keepsAllBut w [.rcc, .pbl, .tally, .journal, .notices]

theorem State.MovedTo.stamp_eq {s w : State} {day second : Nat} (h : s.MovedTo w day second) :
    w.stamp = day * 86400 + second := by
  rw [State.stamp, h.1]
  rfl

/-- R109, R152: after the expiries that the moved stamp brings, the request is answered. -/
theorem State.MovedTo.answered {s w : State} {day second stamp : Nat} (h : s.MovedTo w day second)
    (hstamp : stamp = day * 86400 + second) (tag : Byte) :
    ((∀ k i x r e, (s.slot k).state = .quoted i x r e → stamp < e) →
      w.expireHolds.answerCode .setClock tag .ok = w.answerCode .setClock tag .ok) ∧
    s.repliesWith (w.expireHolds.answerCode .setClock tag .ok) .setClock tag .ok .nothing ∧
    s.keepsAllBut (w.expireHolds.answerCode .setClock tag .ok)
      [.lif, .rcc, .passes, .pbl, .tally, .rfc, .quotes, .journal, .notices] ∧
    ((∀ k i x r e, (s.slot k).state = .quoted i x r e → stamp < e) →
      s.keepsAllBut (w.expireHolds.answerCode .setClock tag .ok) [.lif, .rcc, .pbl, .tally, .journal, .notices]) := by
  have hframe := h.2
  have hlater : (∀ k i x r e, (s.slot k).state = .quoted i x r e → stamp < e) → w.expireHolds = w :=
    State.expireHolds_of_later (hframe .quotes (by simp)) (h.stamp_eq.trans hstamp.symm)
  have hexpire : w.keepsAllBut w.expireHolds [.passes, .rfc, .quotes, .journal, .notices] := by
    rw [State.keepsAllBut_iff]
    simp
  have hboth : s.keepsAllBut w.expireHolds [.rcc, .passes, .pbl, .tally, .rfc, .quotes, .journal, .notices] :=
    State.keepsAllBut_trans (State.keepsAllBut_mono hframe (by simp)) (State.keepsAllBut_mono hexpire (by simp))
  obtain ⟨hreply, hkeep⟩ := State.answerCode_spec .setClock tag .ok (hboth .lif (by simp)) hboth
  refine ⟨fun hnone => by rw [hlater hnone], hreply, hkeep, fun hnone => ?_⟩
  rw [hlater hnone]
  exact (State.answerCode_spec .setClock tag .ok (hframe .lif (by simp)) hframe).2

/-- R5: the blocks after the clock has been set in SETUP. -/
theorem State.clockSet_spec (s : State) (day second : Nat) {w : State} (hw : w = (s.clockSet day second).expirePassback) :
    s.MovedTo w day second ∧
    w.pbl = { s.pbl with entries := s.pbl.entries.filter fun x => !x.isCommitted } ∧
    w.tally = { s.tally with today := { s.tally.today with day := some day } } ∧
    w.journal = s.journal ∧ w.notices = s.notices := by
  have hcleared : (s.clockSet day second).pbl =
      { s.pbl with entries := s.pbl.entries.filter fun e => !e.isCommitted } := by
    simp [State.clockSet, State.clearCommitted]
  refine ⟨⟨by simp [hw, State.clockSet], ?_⟩, ?_, by simp [hw, State.clockSet], by simp [hw, State.clockSet],
    by simp [hw, State.clockSet]⟩
  · rw [hw, State.keepsAllBut_iff]
    simp [State.clockSet]
  · rw [hw]
    exact State.expirePassback_of_cleared hcleared

/-- R6: the same day. -/
theorem State.clockMoved_same_day {s : State} {day second : Nat} (hday : day = s.rcc.clock.day) {w : State}
    (hw : w = (s.clockMoved day second).expirePassback) :
    s.MovedTo w day second ∧
    w.pbl = { s.pbl with
      entries := s.pbl.entries.filter fun x => x.staysAt (day * 86400 + second) s.pbl.interval } ∧
    w.tally = s.tally ∧ w.journal = s.journal ∧ w.notices = s.notices := by
  have hsame : s.clockMoved day second = s.setClockTo .running day second := by simp [State.clockMoved, hday]
  rw [hsame] at hw
  refine ⟨⟨by simp [hw], ?_⟩, ?_, by simp [hw], by simp [hw], by simp [hw]⟩
  · rw [hw, State.keepsAllBut_iff]
    simp
  · rw [hw, State.expirePassback_pbl]
    simp [State.stamp, Config.secondsPerDay]

/-- R6: a later day makes the rollover effects for the day being left. -/
theorem State.clockMoved_later_day {s : State} {day second : Nat} (hday : s.rcc.clock.day < day) {w : State}
    (hw : w = (s.clockMoved day second).expirePassback) :
    s.MovedTo w day second ∧
    w.pbl = { s.pbl with entries := s.pbl.entries.filter fun x => !x.isCommitted } ∧
    w.tally = { today := s.clearedSet (some day), previous := s.tally.today } ∧
    w.journal = s.journal.write (day * 86400 + second)
      (.dayRoll s.rcc.clock.day s.tally.today.riders s.tally.today.newDays s.tally.today.refundsSettled
        s.tally.today.payoutTotal) ∧
    w.notices = (if w.journal.isHigh then s.notices.raise .journalHigh else s.notices).raise .dayRolled := by
  have hlater : s.clockMoved day second = (s.setClockTo .running day second).announceDay s.rcc.clock.day := by
    simp [State.clockMoved, hday]
  obtain ⟨hpbl, htally, hjournal, hnotices⟩ := (s.setClockTo .running day second).announceDay_spec s.rcc.clock.day
  rw [hlater] at hw
  refine ⟨⟨by simp [hw], ?_⟩, ?_, ?_, ?_, ?_⟩
  · rw [hw, State.keepsAllBut_iff]
    simp
  · rw [hw]
    exact State.expirePassback_of_cleared hpbl
  · simp only [hw, State.expirePassback_frame]
    exact htally
  · simp only [hw, State.expirePassback_frame]
    exact hjournal
  · simp only [hw, State.expirePassback_frame]
    exact hnotices

/-- Settles O10: out of range, backward, and the three ways the clock is set, each followed by what has come due. -/
theorem setClockByMode : Obligations.SetClockByMode := by
  intro tag day second s htakes
  refine ⟨s.setClockRequest tag day.toNat second.toNat, asks_of_handle (exec_setClock tag day second s) htakes,
    ?_, ?_, ?_⟩
  · intro hrange
    rw [State.setClockRequest, if_pos hrange]
    exact s.onlyAnswers_answerCode _ _ _
  · intro hday hsec hmode hback
    rw [State.setClockRequest, if_neg (by omega), hmode]
    simp only [if_pos hback]
    exact s.onlyAnswers_answerCode _ _ _
  · intro stamp hday hsec hforward hstamp
    cases hmode : s.rcc.mode with
    | setup =>
      rw [State.setClockRequest_of_setup tag ⟨hday, hsec⟩ hmode]
      generalize hw : (s.clockSet day.toNat second.toNat).expirePassback = w
      obtain ⟨hmoved, hpbl, htally, hjournal, hnotices⟩ := s.clockSet_spec day.toNat second.toNat hw.symm
      obtain ⟨hnone, hreply, hkeep, hkeepnone⟩ := hmoved.answered hstamp tag
      exact ⟨⟨w, hmoved.1, hmoved.2, by rw [State.expireHolds_four], hnone, fun _ => ⟨hpbl, htally, hjournal, hnotices⟩,
        nofun, nofun⟩, hreply, hkeep, hkeepnone⟩
    | run =>
      have hle := hforward hmode
      rw [State.setClockRequest_of_run tag ⟨hday, hsec⟩ hmode hle]
      generalize hw : (s.clockMoved day.toNat second.toNat).expirePassback = w
      obtain hlt | heq := Nat.lt_or_eq_of_le hle
      · obtain ⟨hmoved, hpbl, htally, hjournal, hnotices⟩ := State.clockMoved_later_day hlt hw.symm
        obtain ⟨hnone, hreply, hkeep, hkeepnone⟩ := hmoved.answered hstamp tag
        rw [← hstamp] at hjournal
        exact ⟨⟨w, hmoved.1, hmoved.2, by rw [State.expireHolds_four], hnone, nofun, fun _ h => by omega,
          fun _ _ => ⟨hpbl, htally, hjournal, hnotices⟩⟩, hreply, hkeep, hkeepnone⟩
      · obtain ⟨hmoved, hpbl, htally, hjournal, hnotices⟩ := State.clockMoved_same_day heq.symm hw.symm
        obtain ⟨hnone, hreply, hkeep, hkeepnone⟩ := hmoved.answered hstamp tag
        rw [← hstamp] at hpbl
        exact ⟨⟨w, hmoved.1, hmoved.2, by rw [State.expireHolds_four], hnone, nofun,
          fun _ _ => ⟨hpbl, htally, hjournal, hnotices⟩, fun _ h => by omega⟩, hreply, hkeep, hkeepnone⟩

end Sys2Proof.Machine
end

section
/-!
PROOFS. RESTART (R17): the withdrawals (R91, R111), the drops of the open quotes (R150) and the records the restart
writes, stage by stage of `State.warmRestart_eq`.
-/

namespace Sys2Proof.Machine

/-! ## The withdrawal of a list of lanes (R91) -/

/-- The withdrawal of one lane's request after another. -/
def State.withdrawEach (s : State) (ls : List LaneId) : State := ls.foldl (fun s l => s.withdraw l) s

theorem State.withdrawAll_eq (s : State) : s.withdrawAll = s.withdrawEach fourInOrder := rfl

theorem State.withdrawEach_cons (s : State) (l : LaneId) (ls : List LaneId) :
    s.withdrawEach (l :: ls) = (s.withdraw l).withdrawEach ls := rfl

theorem State.waiting_withdraw (s : State) (l k : LaneId) :
    (s.withdraw l).ae.waiting.get k = if k = l then none else s.ae.waiting.get k := by
  rw [(s.withdraw_spec l).1, Quad.get_set]

theorem State.busyReplies_congr {s u : State} {l : LaneId} (h : u.ae.waiting.get l = s.ae.waiting.get l) :
    u.busyReplies l = s.busyReplies l := by
  rw [State.busyReplies, State.busyReplies, h]

theorem State.waiting_withdrawEach (s : State) (ls : List LaneId) (k : LaneId) :
    (s.withdrawEach ls).ae.waiting.get k = if k ∈ ls then none else s.ae.waiting.get k := by
  induction ls generalizing s with
  | nil => simp [State.withdrawEach]
  | cons l ls ih =>
    rw [State.withdrawEach_cons, ih, State.waiting_withdraw]
    by_cases hk : k = l <;> simp [hk]

/-- R91: each TEST withdrawn is answered BUSY, in the order of the lanes. -/
theorem State.lif_withdrawEach (s : State) {ls : List LaneId} (hls : ls.Nodup) :
    (s.withdrawEach ls).lif = { s.lif with replies := s.lif.replies ++ ls.flatMap s.busyReplies } := by
  induction ls generalizing s with
  | nil => simp [State.withdrawEach]
  | cons l ls ih =>
    obtain ⟨hl, hrest⟩ := List.nodup_cons.mp hls
    have hsame : ls.flatMap (s.withdraw l).busyReplies = ls.flatMap s.busyReplies := by
      refine flatMap_congr_mem fun k hk => State.busyReplies_congr ?_
      have hne : k ≠ l := fun h => hl (h ▸ hk)
      rw [State.waiting_withdraw, if_neg hne]
    rw [State.withdrawEach_cons, ih _ hrest, hsame, (s.withdraw_spec l).2]
    simp [List.append_assoc]

/-! ## The restart of one slot -/

/-- R150: what is recorded of the quote a slot loses to a restart. -/
def QuoteSlot.restarted (x : QuoteSlot) : QuoteSlot where
  state := .free
  lastEnding := match x.state.identity? with
    | some i => some { pass := i.pass, reason := .restart }
    | none => x.lastEnding

/-- The pass a slot names (R147). -/
def State.namedBy (s : State) (k : SlotId) : Option Nat := (s.slot k).state.identity?.map QuoteIdentity.pass

theorem State.restartSlot_of_none {s : State} {k : SlotId} (h : (s.slot k).state.identity? = none) :
    s.restartSlot k = s.setSlot k { s.slot k with state := .free } := by
  have hself : (s.slot k).state = .free → s = s.setSlot k { s.slot k with state := .free } := by
    intro hfree
    have hslot : ({ s.slot k with state := .free } : QuoteSlot) = s.slot k := by rw [← hfree]
    rw [hslot, State.setSlot, State.slot, Quad.set_get]
    rfl
  unfold State.restartSlot
  cases hs : (s.slot k).state with
  | free => exact hself hs
  | cancelling => rfl
  | queued | computing | quoted => simp [hs, SlotState.identity?] at h

theorem State.restartSlot_quotes (s : State) (k : SlotId) :
    (s.restartSlot k).quotes = s.quotes.set k (s.slot k).restarted := by
  cases hi : (s.slot k).state.identity? with
  | none =>
    rw [State.restartSlot_of_none hi, State.setSlot, State.setQuotes_quotes, QuoteSlot.restarted, hi]
  | some i =>
    rw [State.restartSlot_eq hi, (s.dropTo_spec k i.pass .restart .free).2.2.1, QuoteSlot.restarted, hi]

theorem State.restartSlot_passes (s : State) (k : SlotId) :
    (s.restartSlot k).passes =
      s.passes.map fun e => { e with status := if s.namedBy k = some e.pass then .active else e.status } := by
  cases hi : (s.slot k).state.identity? with
  | none =>
    rw [State.restartSlot_of_none hi]
    simp [State.setSlot, State.namedBy, hi]
  | some i =>
    rw [State.restartSlot_eq hi, (s.dropTo_spec k i.pass .restart .free).1, updateIn]
    refine List.map_congr_left fun e _ => ?_
    by_cases he : e.pass = i.pass
    · simp [State.namedBy, hi, he]
    · simp [State.namedBy, hi, he, Ne.symm he]

/-- R150, R163: the QUOTE_DROPPED record of the quote lost, with QUOTE_ENDED behind it. -/
theorem State.restartSlot_wrote (s : State) (k : SlotId) :
    s.wrote (s.restartSlot k) ([k].filterMap fun j => (s.namedBy j).map fun p => .quoteDropped p j .restart) := by
  cases hi : (s.slot k).state.identity? with
  | none =>
    rw [State.restartSlot_of_none hi]
    simpa [State.namedBy, hi] using State.wrote_nil (by simp [State.setSlot]) (by simp [State.setSlot])
  | some i =>
    obtain ⟨-, -, -, hj, hn⟩ := s.dropTo_spec k i.pass .restart .free
    rw [State.restartSlot_eq hi, State.wrote, hj, hn]
    simp [State.namedBy, hi, recordAndRaise]

/-! ## The restart of a list of slots -/

/-- The restart of one slot after another. -/
def State.restartEach (s : State) (ks : List SlotId) : State := ks.foldl (fun s k => s.restartSlot k) s

theorem State.restartEach_cons (s : State) (k : SlotId) (ks : List SlotId) :
    s.restartEach (k :: ks) = (s.restartSlot k).restartEach ks := rfl

theorem State.restartSlots_eq (s : State) :
    s.restartSlots = (s.restartEach fourInOrder).setRfc { busy := none, queue := [] } := rfl

theorem State.slot_restartSlot_of_ne {s : State} {k j : SlotId} (h : j ≠ k) :
    (s.restartSlot k).slot j = s.slot j := by
  rw [State.slot, State.restartSlot_quotes, Quad.get_set, if_neg h, State.slot]

theorem State.namedBy_restartSlot_of_ne {s : State} {k j : SlotId} (h : j ≠ k) :
    (s.restartSlot k).namedBy j = s.namedBy j := by
  rw [State.namedBy, State.slot_restartSlot_of_ne h, State.namedBy]

theorem State.restartEach_keepsAllBut (s : State) (ks : List SlotId) :
    s.keepsAllBut (s.restartEach ks) [.passes, .rfc, .quotes, .journal, .notices] := by
  induction ks generalizing s with
  | nil => exact State.keepsAllBut_refl s _
  | cons k ks ih =>
    refine State.keepsAllBut_trans ?_ (ih (s.restartSlot k))
    rw [State.keepsAllBut_iff]
    simp

theorem State.slot_restartEach (s : State) {ks : List SlotId} (hks : ks.Nodup) (j : SlotId) :
    (s.restartEach ks).slot j = if j ∈ ks then (s.slot j).restarted else s.slot j := by
  induction ks generalizing s with
  | nil => simp [State.restartEach]
  | cons k ks ih =>
    obtain ⟨hk, hrest⟩ := List.nodup_cons.mp hks
    rw [State.restartEach_cons, ih _ hrest]
    by_cases hj : j = k
    · subst hj
      rw [if_neg hk, if_pos List.mem_cons_self, State.slot, State.restartSlot_quotes, Quad.get_set_self]
    · rw [State.slot_restartSlot_of_ne hj]
      simp [hj]

theorem State.passes_restartEach (s : State) {ks : List SlotId} (hks : ks.Nodup) :
    (s.restartEach ks).passes = s.passes.map fun e =>
      { e with status := if some e.pass ∈ ks.map s.namedBy then .active else e.status } := by
  induction ks generalizing s with
  | nil => simp [State.restartEach]
  | cons k ks ih =>
    obtain ⟨hk, hrest⟩ := List.nodup_cons.mp hks
    have hsame : ks.map (s.restartSlot k).namedBy = ks.map s.namedBy :=
      List.map_congr_left fun j hj => State.namedBy_restartSlot_of_ne fun h => hk (h ▸ hj)
    rw [State.restartEach_cons, ih _ hrest, hsame, State.restartSlot_passes, List.map_map]
    refine List.map_congr_left fun e _ => ?_
    by_cases he : s.namedBy k = some e.pass
    · simp [he]
    · simp [he, Ne.symm he]

theorem State.wrote_restartEach (s : State) {ks : List SlotId} (hks : ks.Nodup) :
    s.wrote (s.restartEach ks) (ks.filterMap fun j => (s.namedBy j).map fun p => .quoteDropped p j .restart) := by
  induction ks generalizing s with
  | nil => exact State.wrote_nil rfl rfl
  | cons k ks ih =>
    obtain ⟨hk, hrest⟩ := List.nodup_cons.mp hks
    have hsame : ks.filterMap (fun j => ((s.restartSlot k).namedBy j).map fun p => RecordBody.quoteDropped p j .restart) =
        ks.filterMap fun j => (s.namedBy j).map fun p => .quoteDropped p j .restart :=
      filterMap_congr_mem fun j hj => by
        have hne : j ≠ k := fun h => hk (h ▸ hj)
        rw [State.namedBy_restartSlot_of_ne hne]
    have hthen := ih (s.restartSlot k) hrest
    rw [hsame] at hthen
    have happend := (s.restartSlot_wrote k).append (State.stamp_congr (by simp)) hthen
    rw [← List.filterMap_append] at happend
    exact happend

/-! ## The stages of the restart -/

/-- R17, steps 1 and 2, block by block. -/
theorem State.restartAdmissions_spec (s : State) {a : State} (ha : a = s.restartAdmissions) :
    a.passes = s.passes.map (fun e =>
      { e with marker := if some e.pass ∈ fourInOrder.map s.pendingPass then none else e.marker }) ∧
    (∀ l, a.lane l =
      { s.lane l with unlockTimer := if (s.pendingPass l).isSome then none else (s.lane l).unlockTimer }) ∧
    (∀ l, a.ae.waiting.get l = none) ∧
    a.pbl = { s.pbl with entries := s.pbl.entries.filter PassbackEntry.isCommitted } ∧
    a.tally = { s.tally with today := { s.tally.today with lanes := a.tally.today.lanes } } ∧
    (∀ l, a.counters l = s.lapsedCounters l) ∧
    a.lif = { s.lif with replies := s.lif.replies ++ fourInOrder.flatMap s.busyReplies } ∧
    (s.setNotices { s.notices with pending := [] }).wrote a
      (fourInOrder.filterMap fun l => (s.pendingPass l).map fun p => .lapsed l p .restart) ∧
    s.keepsAllBut a [.lif, .passes, .lanes, .ae, .pbl, .tally, .journal, .notices] := by
  have hcleared : s.keepsAllBut (s.setNotices { s.notices with pending := [] }).withdrawAll [.lif, .ae, .notices] := by
    rw [State.keepsAllBut_iff]
    simp
  have hlif := (s.setNotices { s.notices with pending := [] }).lif_withdrawEach fourInOrder_nodup
  have hwaiting := (s.setNotices { s.notices with pending := [] }).waiting_withdrawEach fourInOrder
  have hquiet : (s.setNotices { s.notices with pending := [] }).wrote
      (s.setNotices { s.notices with pending := [] }).withdrawAll [] := State.wrote_nil (by simp) (by simp)
  have hstamp : (s.setNotices { s.notices with pending := [] }).withdrawAll.stamp =
      (s.setNotices { s.notices with pending := [] }).stamp := State.stamp_congr (by simp)
  rw [← State.withdrawAll_eq] at hlif hwaiting
  rw [State.restartAdmissions] at ha
  generalize (s.setNotices { s.notices with pending := [] }).withdrawAll = w at *
  have hpending : w.pendingPass = s.pendingPass := funext (State.pendingPass_congr (hcleared .pbl (by simp)))
  have hlapsed := hquiet.append hstamp (w.wrote_lapseEach fourInOrder_nodup .restart)
  have htally : w.tally = s.tally := hcleared .tally (by simp)
  have hframe : w.keepsAllBut a [.passes, .lanes, .pbl, .tally, .journal, .notices] := by
    rw [ha, State.keepsAllBut_iff]
    simp
  refine ⟨?_, ?_, ?_, ?_, ?_, ?_, ?_, ?_, ?_⟩
  · rw [ha, State.lapseAll_eq, State.passes_lapseEach w fourInOrder_nodup, hpending, hcleared .passes (by simp)]
  · intro l
    rw [ha, State.lane_lapseAll, hpending, State.lane_congr (hcleared .lanes (by simp))]
  · intro l
    rw [hframe .ae (by simp), hwaiting l, if_pos (mem_fourInOrder l)]
  · rw [ha, State.pbl_lapseAll, hcleared .pbl (by simp)]
  · rw [ha, State.tally_lapseAll, htally]
  · intro l
    rw [ha, State.counters_lapseAll, State.lapsedCounters, State.lapsedCounters, hpending, State.counters_congr htally]
  · rw [hframe .lif (by simp), hlif]
    rfl
  · rw [ha, State.lapseAll_eq]
    rw [hpending] at hlapsed
    exact hlapsed
  · exact State.keepsAllBut_trans (State.keepsAllBut_mono hcleared (by simp)) (State.keepsAllBut_mono hframe (by simp))

theorem Transfer.restart_eq (t : Transfer) :
    t.restart = { t with condition := if t.condition = .isOpen then .restarted else t.condition } := by
  unfold Transfer.restart
  split <;> rfl

/-- R17, step 4: the LIFT record, where the lift was not CLOSED, and the MODE record. -/
theorem State.restartModes_spec (s : State) {u : State} (hu : u = s.restartModes) :
    u.rcc = { s.rcc with mode := .setup, lift := .closed } ∧ u.xfer = s.xfer.restart ∧
    s.wrote u ((if s.rcc.lift = .closed then [] else [.lift .closed]) ++ [.mode .setup .restart]) ∧
    s.keepsAllBut u [.rcc, .xfer, .journal, .notices] := by
  have hlift : s.wrote s.restartLift (if s.rcc.lift = .closed then [] else [.lift .closed]) := by
    unfold State.restartLift
    split
    · exact State.wrote_nil rfl rfl
    · obtain ⟨hj, hn⟩ := s.recorded_writeLift .closed
      exact State.wrote_of_writeRecord (fun _ _ _ => by simp) hj hn
  have hliftrcc : s.restartLift.rcc = { s.rcc with lift := .closed } := by
    unfold State.restartLift
    split
    · rename_i hclosed
      rw [← hclosed]
    · simp
  obtain ⟨hj, hn⟩ := s.restartLift.recorded_changeMode .setup .restart
  have hmode : s.restartLift.wrote u [.mode .setup .restart] := by
    refine State.wrote_of_writeRecord (fun _ _ _ => by simp) ?_ ?_
    · rw [hu, State.restartModes, State.setXfer_journal, hj]
    · rw [hu, State.restartModes, State.setXfer_notices, hn]
  have hstamp : s.restartLift.stamp = s.stamp := by
    rw [State.stamp, State.stamp, hliftrcc]
  refine ⟨?_, ?_, hlift.append hstamp hmode, ?_⟩
  · rw [hu, State.restartModes, State.setXfer_rcc, State.changeMode_rcc, hliftrcc]
  · simp [hu, State.restartModes]
  · rw [hu, State.keepsAllBut_iff]
    simp [State.restartModes]

theorem State.lane_restartLanes (s : State) (l : LaneId) : s.restartLanes.lane l = (s.lane l).restart :=
  Quad.get_map _ _ l

theorem State.restartLanes_keepsAllBut (s : State) : s.keepsAllBut s.restartLanes [.lanes] := by
  rw [State.keepsAllBut_iff]
  simp [State.restartLanes]

/-- R17: the warm restart, block by block. -/
theorem State.warmRestart_spec (s : State) {u : State} (hu : u = s.warmRestart) :
    u.rcc = { s.rcc with mode := .setup, lift := .closed } ∧
    u.passes = s.passes.map (fun e => { e with
      marker := if some e.pass ∈ fourInOrder.map s.pendingPass then none else e.marker
      status := if some e.pass ∈ fourInOrder.map s.namedBy then .active else e.status }) ∧
    u.xfer = s.xfer.restart ∧
    (∀ l, u.lane l = Lane.restart
      { s.lane l with unlockTimer := if (s.pendingPass l).isSome then none else (s.lane l).unlockTimer }) ∧
    (∀ l, u.ae.waiting.get l = none) ∧ u.ae.pointer = 0 ∧
    u.pbl = { s.pbl with entries := s.pbl.entries.filter PassbackEntry.isCommitted } ∧
    u.tally = { s.tally with today := { s.tally.today with lanes := u.tally.today.lanes } } ∧
    (∀ l, u.counters l = s.lapsedCounters l) ∧
    u.rfc = { busy := none, queue := [] } ∧ (∀ k, u.slot k = (s.slot k).restarted) ∧
    (s.setNotices { s.notices with pending := [] }).wrote u
      (fourInOrder.filterMap (fun l => (s.pendingPass l).map fun p => .lapsed l p .restart) ++
        fourInOrder.filterMap (fun k => (s.namedBy k).map fun p => .quoteDropped p k .restart) ++
        ((if s.rcc.lift = .closed then [] else [.lift .closed]) ++ [.mode .setup .restart])) ∧
    u.lif = { s.lif with replies := s.lif.replies ++ fourInOrder.flatMap s.busyReplies } ∧
    u.tariff = s.tariff ∧ u.pending = s.pending := by
  rw [State.warmRestart_eq] at hu
  generalize ha : s.restartAdmissions = a at hu
  obtain ⟨hpasses, hlanes, hwaiting, hpbl, htally, hcounters, hlif, hlapsed, hframea⟩ := s.restartAdmissions_spec ha.symm
  generalize hb : (a.setAe { a.ae with pointer := 0 }) = b at hu
  have hframeb : a.keepsAllBut b [.ae] := by
    rw [← hb, State.keepsAllBut_iff]
    simp
  have haeb : b.ae = { a.ae with pointer := 0 } := by simp [← hb]
  have hsame : ∀ k, b.slot k = s.slot k := fun k =>
    State.slot_congr ((hframeb .quotes (by simp)).trans (hframea .quotes (by simp))) k
  have hnamed : b.namedBy = s.namedBy := funext fun k => by rw [State.namedBy, hsame, State.namedBy]
  have hdropped := b.wrote_restartEach fourInOrder_nodup
  have hslots := b.slot_restartEach fourInOrder_nodup
  have hstatus := b.passes_restartEach fourInOrder_nodup
  have hframec := b.restartEach_keepsAllBut fourInOrder
  rw [State.restartSlots_eq] at hu
  generalize b.restartEach fourInOrder = c at hu hdropped hslots hstatus hframec
  generalize hd : (c.setRfc { busy := none, queue := [] }).restartModes = d at hu
  obtain ⟨hrcc, hxfer, hmodes, hframed⟩ := State.restartModes_spec _ hd.symm
  have hframee : d.keepsAllBut u [.lanes] := by
    rw [hu]
    exact d.restartLanes_keepsAllBut
  have hrccc : c.rcc = s.rcc :=
    ((hframec .rcc (by simp)).trans (hframeb .rcc (by simp))).trans (hframea .rcc (by simp))
  have hkeep : ∀ x, x ∉ [Block.rcc, .passes, .xfer, .lanes, .ae, .rfc, .quotes, .journal, .notices] →
      Block.same a u x := by
    have hcd : c.keepsAllBut (c.setRfc { busy := none, queue := [] }) [.rfc] := by
      rw [State.keepsAllBut_iff]
      simp
    exact State.keepsAllBut_trans (State.keepsAllBut_mono hframeb (by simp)) (State.keepsAllBut_trans
      (State.keepsAllBut_mono hframec (by simp)) (State.keepsAllBut_trans (State.keepsAllBut_mono hcd (by simp))
        (State.keepsAllBut_trans (State.keepsAllBut_mono hframed (by simp)) (State.keepsAllBut_mono hframee (by simp)))))
  have hutally : u.tally = a.tally := hkeep .tally (by simp)
  have hae : u.ae = { a.ae with pointer := 0 } :=
    ((((hframee .ae (by simp)).trans (hframed .ae (by simp))).trans (by simp)).trans (hframec .ae (by simp))).trans haeb
  refine ⟨?_, ?_, ?_, ?_, ?_, ?_, ?_, ?_, ?_, ?_, ?_, ?_, ?_, ?_, ?_⟩
  · rw [hframee .rcc (by simp), hrcc, State.setRfc_rcc, hrccc]
  · rw [hframee .passes (by simp), hframed .passes (by simp), State.setRfc_passes, hstatus, hframeb .passes (by simp),
      hpasses, hnamed, List.map_map]
    rfl
  · rw [hframee .xfer (by simp), hxfer, State.setRfc_xfer, hframec .xfer (by simp), hframeb .xfer (by simp),
      hframea .xfer (by simp)]
  · intro l
    have hlane : d.lane l = a.lane l := State.lane_congr (((hframed .lanes (by simp)).trans (by simp)).trans
      ((hframec .lanes (by simp)).trans (hframeb .lanes (by simp)))) l
    rw [hu, State.lane_restartLanes, hlane, hlanes]
  · intro l
    rw [hae]
    exact hwaiting l
  · rw [hae]
  · rw [hkeep .pbl (by simp), hpbl]
  · rw [hutally]
    exact htally
  · intro l
    rw [State.counters_congr hutally]
    exact hcounters l
  · rw [hframee .rfc (by simp), hframed .rfc (by simp), State.setRfc_rfc]
  · intro k
    have hslot : u.slot k = c.slot k :=
      State.slot_congr (((hframee .quotes (by simp)).trans (hframed .quotes (by simp))).trans (by simp)) k
    rw [hslot, hslots, if_pos (mem_fourInOrder k), hsame]
  · have hquiet : c.wrote (c.setRfc { busy := none, queue := [] }) [] := State.wrote_nil (by simp) (by simp)
    have hstampab : b.stamp = a.stamp := State.stamp_congr (hframeb .rcc (by simp))
    have hstamps : a.stamp = s.stamp := State.stamp_congr (hframea .rcc (by simp))
    have hstampc : c.stamp = s.stamp := State.stamp_congr hrccc
    have hab : a.wrote b [] := State.wrote_nil (hframeb .journal (by simp)) (hframeb .notices (by simp))
    have hue : d.wrote u [] := State.wrote_nil (hframee .journal (by simp)) (hframee .notices (by simp))
    have hstampd : d.stamp = (c.setRfc { busy := none, queue := [] }).stamp := by
      rw [State.stamp, hrcc]
      rfl
    rw [hnamed] at hdropped
    rw [State.setRfc_rcc, hrccc] at hmodes
    have hcu := (hquiet.append rfl hmodes).append hstampd hue
    have hfirst := (hlapsed.append hstamps (hab.append hstampab hdropped)).append hstampc hcu
    simpa only [List.nil_append, List.append_nil] using hfirst
  · rw [hkeep .lif (by simp), hlif]
  · rw [hkeep .tariff (by simp), hframea .tariff (by simp)]
  · rw [hkeep .pending (by simp), hframea .pending (by simp)]

/-! ## The request -/

theorem exec_restart (tag : Byte) (s : State) : exec (.restart tag) s = handle (.restart tag) s := rfl

/-- Table 4.9: a lane after the restart, field by field. -/
theorem Lane.restart_eq (x : Lane) :
    x.restart = { x with
      armOverride := .auto, greenOverride := .auto, amberOverride := .auto, redOverride := .auto,
      buzzerOverride := .auto, display := none, alarmTimer := false
      pattern := if x.pattern = .alarm then .silence else x.pattern
      detector := .idle, rotations := [], entries := [] } := rfl

/-- Settles O7: the stages of the restart together, and the reply behind them. -/
theorem restartEndsWorkInFlight : Obligations.RestartEndsWorkInFlight := by
  intro tag s htakes
  refine ⟨s.restartRequest tag, asks_of_handle (exec_restart tag s) htakes, ?_⟩
  rw [State.restartRequest]
  generalize hu : s.warmRestart = u
  obtain ⟨hrcc, hpasses, hxfer, hlanes, hwaiting, hpointer, hpbl, htally, hcounters, hrfc, hslots, hwrote, hlif, htariff,
    hpending⟩ := s.warmRestart_spec hu.symm
  have hnone : ∀ l, u.pendingPass l = none := fun l => by
    rw [State.pendingPass, Option.map_eq_none_iff, List.find?_eq_none, hpbl]
    intro e he
    rw [List.mem_filter] at he
    cases hphase : e.phase with
    | pending k => simp [PassbackEntry.isCommitted, hphase] at he
    | committed c => simp
  refine ⟨hrcc, ?_, hxfer.trans s.xfer.restart_eq, ?_, fun l => ⟨hnone l, hwaiting l⟩, hpointer, hpbl, htally, hcounters,
    hrfc, hslots, ?_, ?_, htariff, hpending⟩
  · exact hpasses
  · intro l
    rw [State.lane_congr (s := u) (by simp), hlanes, Lane.restart_eq]
  · rintro records rfl
    have hrecords : fourInOrder.filterMap (fun k =>
          (s.slot k).state.identity?.map fun i => RecordBody.quoteDropped i.pass k .restart) =
        fourInOrder.filterMap (fun k => (s.namedBy k).map fun p => .quoteDropped p k .restart) :=
      filterMap_congr_mem fun k _ => by rw [State.namedBy, Option.map_map]; rfl
    rw [hrecords, List.append_assoc _ _ [RecordBody.mode _ _]]
    exact ⟨hwrote.journal_eq, hwrote⟩
  · rw [State.answerCode_lif, hlif]
    simp [fourInOrder, List.append_assoc]

end Sys2Proof.Machine
end

section
/-!
PROOFS. The Tariff Table (R21, R23, R24), and PASS_PUT, PASS_BLOCK and PASS_DELETE (R33 to R36, R38).
-/

namespace Sys2Proof.Machine

/-! ## PRODUCT_PUT and PRODUCT_CLEAR -/

theorem exec_productPut (tag code : Byte) (f : ProductFields) (s : State) :
    exec (.productPut tag code f) s = handle (.productPut tag code f) s := rfl

theorem exec_productClear (tag code : Byte) (s : State) :
    exec (.productClear tag code) s = handle (.productClear tag code) s := rfl

theorem legalCode_eq_true_iff (code : Nat) : legalCode code = true ↔ 1 ≤ code ∧ code ≤ 63 := by
  simp [legalCode]

theorem State.productNamed_eq_true_iff (s : State) (code : Nat) :
    s.productNamed code = true ↔ ∃ e ∈ s.passes, e.product = code := by
  simp [State.productNamed]

theorem productOf_eq_none_of_unnamed {f : ProductFields} (h : ¬ ∃ p, NamesProduct f p) : productOf f = none := by
  cases hp : productOf f with
  | none => rfl
  | some p => exact absurd ⟨p, (productOf_eq_some_iff f p).mp hp⟩ h

/-- Past the mode and the ranges, a put is refused or writes its slot. -/
theorem State.productPutRequest_of_named {s : State} (tag : Byte) {code : Nat} {f : ProductFields} {p : Product}
    (hmode : s.rcc.mode = .setup) (hcode : legalCode code = true) (hp : NamesProduct f p) :
    s.productPutRequest tag code f =
      if s.changesShape code p then s.answerCode .productPut tag .busy
      else (s.setProductSlot code { record := some p, kept := none }).answerCode .productPut tag .ok := by
  rw [State.productPutRequest, hmode, (productOf_eq_some_iff f p).mpr hp]
  simp [hcode]

theorem State.productClearRequest_of_legal {s : State} (tag : Byte) {code : Nat} (hmode : s.rcc.mode = .setup)
    (hcode : legalCode code = true) :
    s.productClearRequest tag code =
      (s.setProductSlot code { record := none, kept := (s.productSlot code).shape }).answerCode .productClear tag .ok := by
  rw [State.productClearRequest, hmode]
  simp [hcode]

/-- R18: one slot written, and the request answered. -/
theorem State.setProductSlot_answer_spec (s : State) (k : RequestKind) (tag : Byte) {code : Nat} (x : ProductSlot)
    (hcode : legalCode code = true) :
    ((s.setProductSlot code x).answerCode k tag .ok).productSlot code = x ∧
      (∀ c, legalCode c = true → c ≠ code →
        ((s.setProductSlot code x).answerCode k tag .ok).productSlot c = s.productSlot c) ∧
      s.repliesWith ((s.setProductSlot code x).answerCode k tag .ok) k tag .ok .nothing ∧
      s.keepsAllBut ((s.setProductSlot code x).answerCode k tag .ok) [.lif, .tariff] := by
  have hslot : ∀ c, legalCode c = true → ((s.setProductSlot code x).answerCode k tag .ok).productSlot c =
      if c = code then x else s.productSlot c :=
    fun c hc => s.productSlot_setProductSlot x code c hcode hc
  refine ⟨by rw [hslot code hcode, if_pos rfl], fun c hc hne => by rw [hslot c hc, if_neg hne], ?_⟩
  refine State.answerCode_spec k tag .ok (by simp [State.setProductSlot]) ?_
  rw [State.keepsAllBut_iff]
  simp [State.setProductSlot]

/-- Settles O14: the refusals in their order, and the one slot written. -/
theorem productPutAndClear : Obligations.ProductPutAndClear := by
  refine ⟨⟨fun _ => rfl, fun _ => rfl, rfl, legalCode_eq_true_iff, State.productNamed_eq_true_iff⟩,
    fun tag code f s htakes => ⟨s.productPutRequest tag code.toNat f,
      asks_of_handle (exec_productPut tag code f s) htakes, ?_, ?_, ?_, ?_⟩,
    fun tag code s htakes => ⟨s.productClearRequest tag code.toNat,
      asks_of_handle (exec_productClear tag code s) htakes, ?_, ?_, ?_⟩⟩
  · intro hmode
    rw [State.productPutRequest, hmode]
    exact s.onlyAnswers_answerCode _ _ _
  · intro hmode hbad
    rw [State.productPutRequest, hmode]
    by_cases hcode : legalCode code.toNat = false
    · simp only [if_pos hcode]
      exact s.onlyAnswers_answerCode _ _ _
    · simp only [if_neg hcode, productOf_eq_none_of_unnamed (hbad.resolve_left hcode)]
      exact s.onlyAnswers_answerCode _ _ _
  · intro p hmode hcode hp hnamed hshape
    have hchanges : s.changesShape code.toNat p = true := by simp [State.changesShape, hnamed, hshape]
    rw [State.productPutRequest_of_named tag hmode hcode hp, if_pos hchanges]
    exact s.onlyAnswers_answerCode _ _ _
  · intro p hmode hcode hp hshape
    have hsame : ¬ s.changesShape code.toNat p = true := by
      simp only [State.changesShape, Bool.and_eq_true, bne_iff_ne, not_and]
      exact fun hnamed hne => hne (hshape hnamed)
    rw [State.productPutRequest_of_named tag hmode hcode hp, if_neg hsame]
    obtain ⟨hslot, hothers, hrest⟩ :=
      s.setProductSlot_answer_spec .productPut tag { record := some p, kept := none } hcode
    exact ⟨by rw [State.product?, hslot], hothers, hrest⟩
  · intro hmode
    rw [State.productClearRequest, hmode]
    exact s.onlyAnswers_answerCode _ _ _
  · intro hmode hcode
    rw [State.productClearRequest, hmode]
    simp only [if_pos hcode]
    exact s.onlyAnswers_answerCode _ _ _
  · intro hmode hcode
    rw [State.productClearRequest_of_legal tag hmode hcode]
    obtain ⟨hslot, hothers, hrest⟩ := s.setProductSlot_answer_spec .productClear tag
      { record := none, kept := (s.productSlot code.toNat).shape } hcode
    exact ⟨by rw [State.product?, hslot], by rw [hslot]; rfl, hothers, hrest⟩

/-! ## PASS_PUT (R33, R34, R35) -/

theorem exec_passPut (tag : Byte) (r : PassRecord) (s : State) :
    exec (.passPut tag r) s = handle (.passPut tag r) s := rfl

theorem PassEntry.sameWindow_eq_true_iff (e : PassEntry) (r : PassRecord) :
    e.sameWindow r = true ↔ e.product = r.product.toNat ∧ e.start = r.start.toNat := by
  simp [PassEntry.sameWindow]

theorem PassEntry.rewrite_eq (e : PassEntry) (r : PassRecord) (st : PassStatus) :
    e.rewrite r st = replacedEntry e r st := by
  simp [PassEntry.rewrite, replacedEntry, e.sameWindow_eq_true_iff]

theorem PassEntry.differs_eq_false_iff (e : PassEntry) (r : PassRecord) (st : PassStatus) :
    e.differs r st = false ↔ SameAsRecord e r st := by
  simp [PassEntry.differs, SameAsRecord, PassEntry.sameWindow, and_assoc]

theorem putOutcome_of_same {e : PassEntry} {r : PassRecord} {st : PassStatus} (h : SameAsRecord e r st) :
    putOutcome e r st = .unchanged := by
  simp [putOutcome, (e.differs_eq_false_iff r st).mpr h]

theorem putOutcome_of_different {e : PassEntry} {r : PassRecord} {st : PassStatus} (h : ¬ SameAsRecord e r st) :
    putOutcome e r st = .replaced := by
  have hdiffers : e.differs r st = true := by
    rw [← Bool.not_eq_false]
    exact fun hd => h ((e.differs_eq_false_iff r st).mp hd)
  simp [putOutcome, hdiffers]

/-- R34: the pass added is found, and every other pass as before. -/
theorem State.findPass_addPass {s : State} {r : PassRecord} (st : PassStatus) (h : s.findPass r.pass.toNat = none)
    (q : Nat) : (s.addPass r st).findPass q = if q = r.pass.toNat then some (addedEntry r st) else s.findPass q :=
  find_insertEntry (newEntry r st) q s.passes h

/-- R35: the pass rewritten is found, and every other pass as before. -/
theorem State.findPass_rewritePass (s : State) (r : PassRecord) (st : PassStatus) (q : Nat) :
    (s.rewritePass r st).findPass q =
      if q = r.pass.toNat then (s.findPass q).map fun e => replacedEntry e r st else s.findPass q := by
  simp only [← PassEntry.rewrite_eq]
  exact s.findPass_updatePass r.pass.toNat q _ fun _ => rfl

theorem State.addPass_keepsAllBut (s : State) (r : PassRecord) (st : PassStatus) :
    s.keepsAllBut (s.addPass r st) [.passes] := by
  rw [State.keepsAllBut_iff]
  simp [State.addPass]

theorem State.rewritePass_keepsAllBut (s : State) (r : PassRecord) (st : PassStatus) :
    s.keepsAllBut (s.rewritePass r st) [.passes] := by
  rw [State.keepsAllBut_iff]
  simp [State.rewritePass]

@[simp] theorem State.findPass_answer (s : State) (k : RequestKind) (tag : Byte) (st : StatusCode) (d : ReplyData)
    (p : Nat) : (s.answer k tag st d).findPass p = s.findPass p :=
  State.findPass_congr (by simp) p

/-- Settles O15: the refusals in order, the entry added, and the entry rewritten. -/
theorem passPutAddsOrReplaces : Obligations.PassPutAddsOrReplaces := by
  intro tag r s htakes
  refine ⟨s.passPutRequest tag r, asks_of_handle (exec_passPut tag r s) htakes, ?_, ?_, ?_, ?_, ?_, ?_⟩
  · intro hbad
    rw [State.passPutRequest, (s.recordStatus?_eq_none_iff r).mpr hbad]
    exact s.onlyAnswers_answerCode _ _ _
  · intro st e hst he hmarked
    rw [State.passPutRequest, (s.recordStatus?_eq_some_iff r st).mpr hst, he]
    simp only [if_pos hmarked]
    exact s.onlyAnswers_answerCode _ _ _
  · intro st e hst he hfree hheld
    rw [State.passPutRequest, (s.recordStatus?_eq_some_iff r st).mpr hst, he]
    simp only [hfree, hheld, Option.isSome_none, Bool.false_eq_true, if_false, if_true]
    exact s.onlyAnswers_answerCode _ _ _
  · intro st hst he hfull
    rw [State.passPutRequest, (s.recordStatus?_eq_some_iff r st).mpr hst, he]
    have hcapacity : Config.passCapacity ≤ s.passes.length := hfull
    simp only [if_pos hcapacity]
    exact s.onlyAnswers_answerCode _ _ _
  · intro st hst he hroom
    rw [State.passPutRequest, (s.recordStatus?_eq_some_iff r st).mpr hst, he]
    have hcapacity : ¬ Config.passCapacity ≤ s.passes.length := Nat.not_le.mpr hroom
    simp only [if_neg hcapacity]
    refine ⟨?_, ?_, by simp [State.addPass], State.answer_spec .passPut tag .ok _ (by simp [State.addPass])
      (s.addPass_keepsAllBut r st)⟩
    · rw [State.findPass_answer, State.findPass_addPass st he, if_pos rfl]
    · intro q hq
      rw [State.findPass_answer, State.findPass_addPass st he, if_neg hq]
  · intro st e hst he hfree hheld
    rw [State.passPutRequest, (s.recordStatus?_eq_some_iff r st).mpr hst, he]
    simp only [hfree, hheld, Option.isSome_none, Bool.false_eq_true, if_false]
    have hanswer := fun d => State.answer_spec .passPut tag .ok d (by simp [State.rewritePass])
      (s.rewritePass_keepsAllBut r st)
    refine ⟨?_, ?_, by simp [State.rewritePass], ?_, ?_, (hanswer _).2⟩
    · rw [State.findPass_answer, State.findPass_rewritePass, if_pos rfl, he]
      rfl
    · intro q hq
      rw [State.findPass_answer, State.findPass_rewritePass, if_neg hq]
    · intro hsame
      rw [putOutcome_of_same hsame]
      exact (hanswer _).1
    · intro hother
      rw [putOutcome_of_different hother]
      exact (hanswer _).1

/-! ## PASS_BLOCK and PASS_DELETE (R36, R38) -/

theorem exec_passBlock (tag : Byte) (pass : U32) (s : State) :
    exec (.passBlock tag pass) s = handle (.passBlock tag pass) s := rfl

theorem exec_passDelete (tag : Byte) (pass : U32) (s : State) :
    exec (.passDelete tag pass) s = handle (.passDelete tag pass) s := rfl

theorem legalPass_eq_true_iff (pass : Nat) : legalPass pass = true ↔ 1 ≤ pass ∧ pass ≤ 4294967294 := by
  simp [legalPass]

/-- The common checks of section 2.6, for a request that is `withEntry` of an action. -/
theorem State.withEntry_refusals (s : State) (k : RequestKind) (tag : Byte) (pass : Nat) (act : PassEntry → State) :
    (legalPass pass = false → s.onlyAnswers (s.withEntry k tag pass act) k tag .badValue .nothing) ∧
    (legalPass pass = true → s.findPass pass = none →
      s.onlyAnswers (s.withEntry k tag pass act) k tag .notFound .nothing) := by
  constructor
  · intro hillegal
    rw [State.withEntry_of_illegal _ _ _ _ hillegal]
    exact s.onlyAnswers_answerCode _ _ _
  · intro hlegal habsent
    rw [State.withEntry_of_absent _ _ _ hlegal habsent]
    exact s.onlyAnswers_answerCode _ _ _

/-- R36: the block by the status of the entry found. -/
theorem State.passBlockRequest_spec {s : State} (tag : Byte) {pass : Nat} {e : PassEntry}
    (hl : legalPass pass = true) (hf : s.findPass pass = some e) {u : State} (hu : u = s.passBlockRequest tag pass) :
    (e.status = .active →
      u.findPass pass = some { e with status := .blocked } ∧ (∀ q, q ≠ pass → u.findPass q = s.findPass q) ∧
      s.repliesWith u .passBlock tag .ok .nothing ∧ s.keepsAllBut u [.lif, .passes]) ∧
    (e.status = .blocked → s.onlyAnswers u .passBlock tag .ok .nothing) ∧
    (e.isHeld = true → s.onlyAnswers u .passBlock tag .held .nothing) ∧
    (e.status = .refunded → s.onlyAnswers u .passBlock tag .alreadyRefunded .nothing) := by
  rw [State.passBlockRequest, State.withEntry_of_found _ _ _ hl hf] at hu
  subst hu
  refine ⟨fun hs => ?_, fun hs => ?_, fun hheld => ?_, fun hs => ?_⟩
  · rw [hs]
    exact State.setStatus_answerCode_spec _ _ _ _ hf
  · rw [hs]
    exact s.onlyAnswers_answerCode _ _ _
  · cases hs : e.status with
    | refundHold k => exact s.onlyAnswers_answerCode _ _ _
    | active | blocked | refunded => simp [PassEntry.isHeld, hs] at hheld
  · rw [hs]
    exact s.onlyAnswers_answerCode _ _ _

theorem State.removePass_keepsAllBut (s : State) (pass : Nat) :
    s.keepsAllBut (s.setPasses (removeEntry pass s.passes)) [.passes] := by
  rw [State.keepsAllBut_iff]
  simp

/-- R38: the entry leaves the table, and every other pass is found as before. -/
theorem State.findPass_removePass (s : State) (pass q : Nat) :
    (s.setPasses (removeEntry pass s.passes)).findPass q = if q = pass then none else s.findPass q :=
  find_removeEntry pass q s.passes

theorem State.passDeleteRequest_spec {s : State} (tag : Byte) {pass : Nat} {e : PassEntry}
    (hl : legalPass pass = true) (hf : s.findPass pass = some e) {u : State} (hu : u = s.passDeleteRequest tag pass) :
    (e.marker.isSome → s.onlyAnswers u .passDelete tag .pending .nothing) ∧
    (e.marker = none → e.isHeld = true → s.onlyAnswers u .passDelete tag .held .nothing) ∧
    (e.marker = none → e.isHeld = false →
      u.findPass pass = none ∧ (∀ q, q ≠ pass → u.findPass q = s.findPass q) ∧
      s.repliesWith u .passDelete tag .ok (.entryCount u.passes.length) ∧ s.keepsAllBut u [.lif, .passes]) := by
  rw [State.passDeleteRequest, State.withEntry_of_found _ _ _ hl hf] at hu
  subst hu
  refine ⟨fun hmarked => ?_, fun hfree hheld => ?_, fun hfree hheld => ?_⟩
  · rw [if_pos hmarked]
    exact s.onlyAnswers_answerCode _ _ _
  · simp only [hfree, hheld, Option.isSome_none, Bool.false_eq_true, if_false, if_true]
    exact s.onlyAnswers_answerCode _ _ _
  · simp only [hfree, hheld, Option.isSome_none, Bool.false_eq_true, if_false]
    refine ⟨?_, ?_, State.answer_spec .passDelete tag .ok _ (by simp) (s.removePass_keepsAllBut pass)⟩
    · rw [State.findPass_answer, State.findPass_removePass, if_pos rfl]
    · intro q hq
      rw [State.findPass_answer, State.findPass_removePass, if_neg hq]

/-- Settles O16: the common checks, and the two actions by the entry found. -/
theorem passBlockAndDelete : Obligations.PassBlockAndDelete := by
  refine ⟨legalPass_eq_true_iff,
    fun tag pass s htakes => ⟨s.passBlockRequest tag pass.toNat, asks_of_handle (exec_passBlock tag pass s) htakes,
      (s.withEntry_refusals _ _ _ _).1, (s.withEntry_refusals _ _ _ _).2, fun e hl hf =>
        State.passBlockRequest_spec tag hl hf rfl⟩,
    fun tag pass s htakes => ⟨s.passDeleteRequest tag pass.toNat, asks_of_handle (exec_passDelete tag pass s) htakes,
      (s.withEntry_refusals _ _ _ _).1, (s.withEntry_refusals _ _ _ _).2, fun e hl hf =>
        State.passDeleteRequest_spec tag hl hf rfl⟩⟩

end Sys2Proof.Machine
end

section
/-!
PROOFS. USAGE_MERGE (R40, R41, R42): what one item of the list does to the usage part, and the whole list.
-/

namespace Sys2Proof.Machine

/-! ## One item -/

/-- The days of a usage part; an absent one has none (R28). -/
def daysOf (u : Option Usage) : List Nat := (u.map (·.days)).getD []

theorem inWindow_eq_true_iff (start window day : Nat) :
    inWindow start window day = true ↔ start ≤ day ∧ day < start + window := by
  simp only [inWindow, Bool.and_eq_true, decide_eq_true_eq]
  exact Iff.rfl

theorem length_insertOffset {x : Nat} {ds : List Nat} (h : x ∉ ds) : (insertOffset x ds).length = ds.length + 1 := by
  induction ds with
  | nil => rfl
  | cons d ds ih =>
    obtain ⟨hd, hrest⟩ := not_or.mp (mt List.mem_cons.mpr h)
    rw [insertOffset]
    split
    · rfl
    · rw [List.length_cons, ih hrest, List.length_cons]

/-- R41, R42: the usage part an in-window day finds. -/
theorem usageAt_spec (u : Option Usage) (day : Nat) :
    (usageAt u day).days = daysOf u ∧ (usageAt u day).rides = (u.map (·.rides)).getD 0 ∧
    (usageAt u day).last = u.bind (·.last) ∧ (usageAt u day).firstUse ≤ day ∧
    (∀ o, u = some o → (usageAt u day).firstUse ≤ o.firstUse) ∧
    ((usageAt u day).firstUse = day ∨ ∃ o, u = some o ∧ (usageAt u day).firstUse = o.firstUse) := by
  cases u with
  | none => exact ⟨rfl, rfl, rfl, Nat.le_refl _, nofun, .inl rfl⟩
  | some v =>
    refine ⟨rfl, rfl, rfl, Nat.min_le_right _ _, ?_, ?_⟩
    · rintro o ⟨⟩
      exact Nat.min_le_left _ _
    · obtain hle | hle := Nat.le_total v.firstUse day
      · exact .inr ⟨v, rfl, Nat.min_eq_left hle⟩
      · exact .inl (Nat.min_eq_right hle)

/-- R41: a day outside the window is counted and nothing else. -/
theorem mergeItem_outside {p : Product} {start : Nat} {day : Nat} (h : inWindow start p.window day = false)
    (t : MergeTotals) : mergeItem p start t day = { t with outside := t.outside + 1 } := by
  rw [mergeItem, if_pos h]

/-- R41, R42: a day of the window joins the set of a DAYS product, once; `n` is 1 where it joins. -/
theorem mergeItem_inside {p : Product} {start : Nat} {day : Nat} (h : inWindow start p.window day = true)
    (t : MergeTotals) :
    ∃ n ds, mergeItem p start t day =
        { t with usage := some { usageAt t.usage day with days := ds }, added := t.added + n, known := t.known + (1 - n) } ∧
      n ≤ 1 ∧ ds.length = (daysOf t.usage).length + n ∧
      (∀ o, o ∈ ds ↔ o ∈ daysOf t.usage ∨ (p.kind.isDays = true ∧ o = day - start)) ∧
      (p.kind.isDays = false → n = 0 ∧ ds = daysOf t.usage) := by
  have hdays := (usageAt_spec t.usage day).1
  rw [mergeItem, if_neg (by simp [h])]
  by_cases hjoins : p.kind.isDays = true ∧ day - start ∉ (usageAt t.usage day).days
  · rw [if_pos hjoins]
    refine ⟨1, _, rfl, Nat.le_refl 1, ?_, fun o => ?_, fun hseason => ?_⟩
    · rw [length_insertOffset hjoins.2, hdays]
    · rw [mem_insertOffset, hdays]
      simp [hjoins.1, or_comm]
    · exact absurd hjoins.1 (by simp [hseason])
  · rw [if_neg hjoins]
    refine ⟨0, (usageAt t.usage day).days, rfl, Nat.zero_le 1, by rw [hdays, Nat.add_zero], fun o => ?_,
      fun _ => ⟨rfl, hdays⟩⟩
    rw [hdays] at hjoins ⊢
    constructor
    · exact .inl
    · rintro (ho | ⟨hkind, rfl⟩)
      · exact ho
      · exact Classical.byContradiction fun hnew => hjoins ⟨hkind, hnew⟩

/-! ## The whole list -/

/-- What a merge of the days `ds` into the usage part `u` has come to (R40, R41, R42). -/
structure Merged (p : Product) (start : Nat) (u : Option Usage) (ds : List Nat) (t : MergeTotals) : Prop where
  counted : t.added + t.known + t.outside = ds.length
  outside : t.outside = ds.countP fun d => !(inWindow start p.window d)
  rest : ∀ v, t.usage = some v → v.rides = (u.map (·.rides)).getD 0 ∧ v.last = u.bind (·.last)
  lowered : ∀ old, u = some old → ∃ v, t.usage = some v ∧ v.firstUse ≤ old.firstUse
  kept : ∀ o ∈ daysOf u, o ∈ daysOf t.usage
  joined : ∀ o ∈ daysOf t.usage, o ∈ daysOf u ∨
    (p.kind.isDays = true ∧ ∃ d ∈ ds, inWindow start p.window d = true ∧ o = d - start)
  reached : ∀ d ∈ ds, inWindow start p.window d = true →
    ∃ v, t.usage = some v ∧ v.firstUse ≤ d ∧ (p.kind.isDays = true → d - start ∈ v.days)
  first : ∀ v, t.usage = some v → (∃ old, u = some old ∧ v.firstUse = old.firstUse) ∨
    ∃ d ∈ ds, v.firstUse = d ∧ inWindow start p.window d = true
  season : p.kind.isDays = false → t.added = 0 ∧ daysOf t.usage = daysOf u
  size : (daysOf t.usage).length = (daysOf u).length + t.added

theorem Merged.nil (p : Product) (start : Nat) (u : Option Usage) :
    Merged p start u [] { usage := u, added := 0, known := 0, outside := 0 } where
  counted := rfl
  outside := rfl
  rest v hv := by cases hv; exact ⟨rfl, rfl⟩
  lowered old hold := ⟨old, hold, Nat.le_refl _⟩
  kept _ ho := ho
  joined _ ho := .inl ho
  reached _ hd := absurd hd List.not_mem_nil
  first v hv := .inl ⟨v, hv, rfl⟩
  season _ := ⟨rfl, rfl⟩
  size := rfl

/-- A day outside the window adds to one count. -/
theorem Merged.outside_item {p : Product} {start : Nat} {u : Option Usage} {ds : List Nat} {t : MergeTotals}
    (ht : Merged p start u ds t) {day : Nat} (h : inWindow start p.window day = false) :
    Merged p start u (ds ++ [day]) { t with outside := t.outside + 1 } where
  counted := by
    have := ht.counted
    simp only [List.length_append, List.length_singleton]
    omega
  outside := by simp [List.countP_append, h, ht.outside]
  rest := ht.rest
  lowered := ht.lowered
  kept := ht.kept
  joined o ho := (ht.joined o ho).imp_right fun ⟨hk, d, hd, hin⟩ => ⟨hk, d, List.mem_append_left _ hd, hin⟩
  reached d hd hin := by
    obtain hd | hd := List.mem_append.mp hd
    · exact ht.reached d hd hin
    · rw [List.mem_singleton.mp hd, h] at hin
      exact absurd hin (by simp)
  first v hv := (ht.first v hv).imp_right fun ⟨d, hd, hin⟩ => ⟨d, List.mem_append_left _ hd, hin⟩
  season := ht.season
  size := ht.size

/-- A day of the window takes the usage part to the form `mergeItem_inside` gives. -/
theorem Merged.inside_item {p : Product} {start : Nat} {u : Option Usage} {ds : List Nat} {t : MergeTotals}
    (ht : Merged p start u ds t) {day : Nat} (h : inWindow start p.window day = true) {n : Nat} {os : List Nat}
    (hn : n ≤ 1) (hlen : os.length = (daysOf t.usage).length + n)
    (hmem : ∀ o, o ∈ os ↔ o ∈ daysOf t.usage ∨ (p.kind.isDays = true ∧ o = day - start))
    (hseason : p.kind.isDays = false → n = 0 ∧ os = daysOf t.usage) :
    Merged p start u (ds ++ [day]) { t with
      usage := some { usageAt t.usage day with days := os }, added := t.added + n, known := t.known + (1 - n) } := by
  obtain ⟨-, hrides, hlast, hday, hold, hfrom⟩ := usageAt_spec t.usage day
  have hcounted := ht.counted
  have hsize := ht.size
  constructor
  case counted =>
    simp only [List.length_append, List.length_singleton]
    omega
  case outside => simp [List.countP_append, h, ht.outside]
  case rest =>
    rintro v ⟨⟩
    refine ⟨hrides.trans ?_, hlast.trans ?_⟩
    · cases hu : t.usage with
      | some w => exact (ht.rest w hu).1
      | none =>
        cases u with
        | none => rfl
        | some o => obtain ⟨w, hw, -⟩ := ht.lowered o rfl; simp [hu] at hw
    · cases hu : t.usage with
      | some w => exact (ht.rest w hu).2
      | none =>
        cases u with
        | none => rfl
        | some o => obtain ⟨w, hw, -⟩ := ht.lowered o rfl; simp [hu] at hw
  case lowered =>
    intro o ho
    obtain ⟨w, hw, hle⟩ := ht.lowered o ho
    exact ⟨_, rfl, Nat.le_trans (hold w hw) hle⟩
  case kept => exact fun o ho => (hmem o).mpr (.inl (ht.kept o ho))
  case joined =>
    intro o ho
    obtain ho | ⟨hk, rfl⟩ := (hmem o).mp ho
    · exact (ht.joined o ho).imp_right fun ⟨hk, d, hd, hin⟩ => ⟨hk, d, List.mem_append_left _ hd, hin⟩
    · exact .inr ⟨hk, day, List.mem_append_right _ (List.mem_singleton_self _), h, rfl⟩
  case reached =>
    intro d hd hin
    refine ⟨_, rfl, ?_⟩
    obtain hd | hd := List.mem_append.mp hd
    · obtain ⟨w, hw, hle, hdays⟩ := ht.reached d hd hin
      refine ⟨Nat.le_trans (hold w hw) hle, fun hk => (hmem _).mpr (.inl ?_)⟩
      rw [hw]
      exact hdays hk
    · rw [List.mem_singleton.mp hd]
      exact ⟨hday, fun hk => (hmem _).mpr (.inr ⟨hk, rfl⟩)⟩
  case first =>
    rintro v ⟨⟩
    obtain heq | ⟨w, hw, heq⟩ := hfrom
    · exact .inr ⟨day, List.mem_append_right _ (List.mem_singleton_self _), heq, h⟩
    · refine (ht.first w hw).imp ?_ ?_
      · rintro ⟨o, ho, hwo⟩
        exact ⟨o, ho, heq.trans hwo⟩
      · rintro ⟨d, hd, hwd, hin⟩
        exact ⟨d, List.mem_append_left _ hd, heq.trans hwd, hin⟩
  case season =>
    intro hk
    obtain ⟨hadded, hdays⟩ := ht.season hk
    obtain ⟨hn0, hos⟩ := hseason hk
    exact ⟨by simp [hadded, hn0], hos.trans hdays⟩
  case size =>
    show os.length = (daysOf u).length + (t.added + n)
    omega

/-- R41, R42: the merge of a list, item by item. -/
theorem merged_foldl (p : Product) (start : Nat) (u : Option Usage) (ds : List Nat) :
    Merged p start u ds (ds.foldl (mergeItem p start) { usage := u, added := 0, known := 0, outside := 0 }) := by
  suffices h : ∀ rs : List Nat, Merged p start u rs.reverse
      (rs.reverse.foldl (mergeItem p start) { usage := u, added := 0, known := 0, outside := 0 }) by
    simpa only [List.reverse_reverse] using h ds.reverse
  intro rs
  induction rs with
  | nil => exact Merged.nil p start u
  | cons day ds ih =>
    rw [List.reverse_cons]
    generalize ds.reverse = ds at ih ⊢
    rw [List.foldl_append, List.foldl_cons, List.foldl_nil]
    cases h : inWindow start p.window day with
    | false =>
      rw [mergeItem_outside h]
      exact ih.outside_item h
    | true =>
      obtain ⟨n, os, heq, hn, hlen, hmem, hseason⟩ := mergeItem_inside h
        (ds.foldl (mergeItem p start) { usage := u, added := 0, known := 0, outside := 0 })
      rw [heq]
      exact ih.inside_item h hn hlen hmem hseason

/-! ## The request -/

theorem exec_usageMerge (tag : Byte) (pass : U32) (days : List Byte) (s : State) :
    exec (.usageMerge tag pass days) s = handle (.usageMerge tag pass days) s := rfl

theorem usageMergeLengthOk_eq_true_iff (days : List Byte) :
    usageMergeLengthOk days = true ↔ 1 ≤ days.length ∧ days.length ≤ 16 := by
  simp [usageMergeLengthOk]

theorem State.mergeDays_of_absent {s : State} {e : PassEntry} (h : s.product? e.product = none) (ds : List Nat) :
    s.mergeDays e ds = { usage := e.usage, added := 0, known := 0, outside := ds.length } := by
  rw [State.mergeDays, h]

theorem State.mergeDays_of_product {s : State} {e : PassEntry} {p : Product} (h : s.product? e.product = some p)
    (ds : List Nat) : Merged p e.start e.usage ds (s.mergeDays e ds) := by
  rw [State.mergeDays, h]
  exact merged_foldl p e.start e.usage ds

/-- Past the checks, the list is merged into the entry found. -/
theorem State.usageMergeRequest_of_found {s : State} (tag : Byte) {pass : Nat} {days : List Byte} {e : PassEntry}
    (hlen : 1 ≤ days.length ∧ days.length ≤ 16) (hl : legalPass pass = true) (hdays : ∀ d ∈ days, d.toNat ≤ 239)
    (hf : s.findPass pass = some e) :
    s.usageMergeRequest tag pass days = s.mergeInto tag e (days.map (·.toNat)) := by
  have hok := (usageMergeLengthOk_eq_true_iff days).mpr hlen
  have hany : days.any (fun d => decide (239 < d.toNat)) = false := by simpa using hdays
  simp [State.usageMergeRequest, hok, hl, hany, hf]

/-- R40: the usage part of one entry, and the reply with the counts. -/
theorem State.mergeInto_spec {s : State} (tag : Byte) {pass : Nat} {e : PassEntry} (hf : s.findPass pass = some e)
    (ds : List Nat) {t : MergeTotals} (ht : t = s.mergeDays e ds) {u : State} (hu : u = s.mergeInto tag e ds) :
    u.findPass pass = some { e with usage := t.usage } ∧ (∀ q, q ≠ pass → u.findPass q = s.findPass q) ∧
    u.passes.length = s.passes.length ∧
    s.repliesWith u .usageMerge tag .ok (.mergeCounts t.added t.known t.outside (daysOf t.usage).length) ∧
    s.keepsAllBut u [.lif, .passes] := by
  subst hu ht
  have hpass := State.pass_of_findPass hf
  have hfind : ∀ q, (s.updatePass e.pass fun x => { x with usage := (s.mergeDays e ds).usage }).findPass q =
      if q = pass then (s.findPass q).map (fun x => { x with usage := (s.mergeDays e ds).usage }) else s.findPass q := by
    intro q
    rw [← hpass]
    exact s.findPass_updatePass e.pass q _ fun _ => rfl
  have hframe : s.keepsAllBut (s.updatePass e.pass fun x => { x with usage := (s.mergeDays e ds).usage }) [.passes] := by
    rw [State.keepsAllBut_iff]
    simp
  refine ⟨?_, ?_, by simp [State.mergeInto], State.answer_spec .usageMerge tag .ok _ (by simp) hframe⟩
  · rw [State.mergeInto, State.findPass_answer, hfind, if_pos rfl, hf]
    rfl
  · intro q hq
    rw [State.mergeInto, State.findPass_answer, hfind, if_neg hq]

/-- R41, R42: the totals of a merge into an entry, product present or absent. -/
theorem State.mergeDays_spec (s : State) (e : PassEntry) (days : List Byte) {t : MergeTotals}
    (ht : t = s.mergeDays e (days.map (·.toNat))) :
    t.added + t.known + t.outside = days.length ∧
    (s.product? e.product = none → t.outside = days.length ∧ t.usage = e.usage) ∧
    (∀ v, t.usage = some v → v.rides = (e.usage.map (·.rides)).getD 0 ∧ v.last = e.usage.bind (·.last)) ∧
    (∀ old, e.usage = some old → ∃ v, t.usage = some v ∧ v.firstUse ≤ old.firstUse) ∧
    (∀ p, s.product? e.product = some p →
      t.outside = days.countP (fun d => !(e.start ≤ d.toNat && d.toNat < e.start + p.window)) ∧
      (∀ o ∈ e.daysUsed, o ∈ daysOf t.usage) ∧
      (∀ o ∈ daysOf t.usage, o ∈ e.daysUsed ∨
        (p.kind.isDays = true ∧ ∃ d ∈ days, d.toNat = e.start + o ∧ o < p.window)) ∧
      (∀ d ∈ days, e.start ≤ d.toNat → d.toNat < e.start + p.window →
        ∃ v, t.usage = some v ∧ v.firstUse ≤ d.toNat ∧ (p.kind.isDays = true → d.toNat - e.start ∈ v.days)) ∧
      (∀ v, t.usage = some v → (∃ old, e.usage = some old ∧ v.firstUse = old.firstUse) ∨
        ∃ d ∈ days, v.firstUse = d.toNat ∧ e.start ≤ d.toNat ∧ d.toNat < e.start + p.window) ∧
      (p.kind.isDays = false → t.added = 0 ∧ daysOf t.usage = e.daysUsed) ∧
      (daysOf t.usage).length = e.daysUsed.length + t.added) := by
  cases hp : s.product? e.product with
  | none =>
    rw [State.mergeDays_of_absent hp] at ht
    subst ht
    refine ⟨by simp, fun _ => ⟨by simp, rfl⟩, ?_, fun old hold => ⟨old, hold, Nat.le_refl _⟩, nofun⟩
    intro v hv
    have hv' : e.usage = some v := hv
    simp [hv']
  | some p =>
    have hm := State.mergeDays_of_product hp (days.map (·.toNat))
    rw [← ht] at hm
    refine ⟨by simpa using hm.counted, nofun, hm.rest, hm.lowered, ?_⟩
    rintro _ ⟨⟩
    refine ⟨?_, hm.kept, ?_, ?_, ?_, hm.season, hm.size⟩
    · have hcount := hm.outside
      rw [List.countP_map] at hcount
      refine hcount.trans (List.countP_congr fun d _ => ?_)
      rw [Function.comp_apply, Bool.not_eq_true', ← Bool.not_eq_true, inWindow_eq_true_iff]
      simp only [Bool.not_eq_true', Bool.and_eq_false_iff, decide_eq_false_iff_not]
      omega
    · intro o ho
      refine (hm.joined o ho).imp_right ?_
      rintro ⟨hk, d, hd, hin, rfl⟩
      obtain ⟨b, hb, rfl⟩ := List.mem_map.mp hd
      obtain ⟨hlow, hhigh⟩ := (inWindow_eq_true_iff _ _ _).mp hin
      exact ⟨hk, b, hb, by omega, by omega⟩
    · intro d hd hlow hhigh
      exact hm.reached d.toNat (List.mem_map_of_mem hd) ((inWindow_eq_true_iff _ _ _).mpr ⟨hlow, hhigh⟩)
    · intro v hv
      refine (hm.first v hv).imp_right ?_
      rintro ⟨d, hd, hfirst, hin⟩
      obtain ⟨b, hb, rfl⟩ := List.mem_map.mp hd
      exact ⟨b, hb, hfirst, (inWindow_eq_true_iff _ _ _).mp hin⟩

/-- Settles O18: the refusals of the whole list, and the totals of its merge. -/
theorem usageMergeAddsDays : Obligations.UsageMergeAddsDays := by
  intro tag pass days s htakes
  refine ⟨s.usageMergeRequest tag pass.toNat days, asks_of_handle (exec_usageMerge tag pass days s) htakes,
    ?_, ?_, ?_, ?_⟩
  · intro hlen
    have hbad : usageMergeLengthOk days = false := by
      rw [← Bool.not_eq_true, usageMergeLengthOk_eq_true_iff]
      omega
    rw [State.usageMergeRequest, if_pos hbad]
    exact s.onlyAnswers_answerCode _ _ _
  · intro h1 h16 hbad
    have hok := (usageMergeLengthOk_eq_true_iff days).mpr ⟨h1, h16⟩
    rw [State.usageMergeRequest, if_neg (by simp [hok])]
    by_cases hl : legalPass pass.toNat = false
    · rw [if_pos hl]
      exact s.onlyAnswers_answerCode _ _ _
    · have hany : days.any (fun d => decide (239 < d.toNat)) = true := by simpa using hbad.resolve_left hl
      rw [if_neg hl, if_pos hany]
      exact s.onlyAnswers_answerCode _ _ _
  · intro h1 h16 hl hdays hf
    have hok := (usageMergeLengthOk_eq_true_iff days).mpr ⟨h1, h16⟩
    have hany : days.any (fun d => decide (239 < d.toNat)) = false := by simpa using hdays
    simp only [State.usageMergeRequest, hok, hl, hany, hf, Bool.true_eq_false, Bool.false_eq_true, if_false]
    exact s.onlyAnswers_answerCode _ _ _
  · intro e h1 h16 hl hdays hf
    rw [State.usageMergeRequest_of_found tag ⟨h1, h16⟩ hl hdays hf]
    generalize ht : s.mergeDays e (days.map (·.toNat)) = t
    obtain ⟨hfound, hothers, hlength, hreply, hkeep⟩ := State.mergeInto_spec tag hf _ ht.symm rfl
    obtain ⟨hcounted, habsent, hrest, hlowered, hproduct⟩ := s.mergeDays_spec e days ht.symm
    exact ⟨t.usage, t.added, t.known, t.outside, (daysOf t.usage).length, hfound, hothers, hlength, hreply, hkeep,
      hcounted, rfl, habsent, hrest, hlowered, hproduct⟩

end Sys2Proof.Machine
end

section
/-!
PROOFS. The Transfer Engine: XFER_OPEN, XFER_ABORT and XFER_STATUS (R45, R55, R56), one transfer record (R46 to R51),
and XFER_CHUNK with the sweeps (R52 to R54).
-/

namespace Sys2Proof.Machine

/-! ## XFER_OPEN, XFER_ABORT, XFER_STATUS -/

theorem exec_xferOpen (tag mode purge : Byte) (count : U16) (s : State) :
    exec (.xferOpen tag mode purge count) s = handle (.xferOpen tag mode purge count) s := rfl

theorem exec_xferAbort (tag : Byte) (s : State) : exec (.xferAbort tag) s = handle (.xferAbort tag) s := rfl

theorem exec_xferStatus (tag : Byte) (s : State) : exec (.xferStatus tag) s = handle (.xferStatus tag) s := rfl

theorem transferModeOf_eq (b : Byte) : transferModeOf b = ([.load, .verify] : List TransferMode)[b.toNat]? := by
  unfold transferModeOf
  match b.toNat with
  | 0 | 1 => rfl
  | _ + 2 => rfl

/-- Section 10.9: a two-valued byte. -/
theorem boolOf_eq (b : Byte) : boolOf b = [false, true][b.toNat]? := by
  unfold boolOf
  match b.toNat with
  | 0 | 1 => rfl
  | _ + 2 => rfl

theorem State.xferOpenRequest_of_bad {s : State} (tag : Byte) {mode purge : Byte} {count : Nat}
    (h : transferModeOf mode = none ∨ boolOf purge = none ∨ count < 1 ∨ 4096 < count) :
    s.xferOpenRequest tag mode purge count = s.answerCode .xferOpen tag .badValue := by
  rw [State.xferOpenRequest]
  cases hm : transferModeOf mode with
  | none => rfl
  | some m =>
    cases hp : boolOf purge with
    | none => rfl
    | some p =>
      have hcount : count < 1 ∨ 4096 < count := by simpa [hm, hp] using h
      simp only [if_pos hcount]

theorem State.xferOpenRequest_of_named {s : State} (tag : Byte) {mode purge : Byte} {count : Nat} {m : TransferMode}
    {p : Bool} (hm : transferModeOf mode = some m) (hp : boolOf purge = some p) (hcount : 1 ≤ count ∧ count ≤ 4096) :
    s.xferOpenRequest tag mode purge count =
      if s.xfer.condition = .isOpen then s.answerCode .xferOpen tag .transferOpen
      else (s.openTransfer m p count).answer .xferOpen tag .ok (.entryCount s.passes.length) := by
  have hrange : ¬ (count < 1 ∨ 4096 < count) := by omega
  rw [State.xferOpenRequest, hm, hp]
  simp only [if_neg hrange]

/-- R45: the record started, and the marks a PURGE open clears. -/
theorem State.openTransfer_spec (s : State) (m : TransferMode) (p : Bool) (count : Nat) :
    (s.openTransfer m p count).xfer = Transfer.opened m p count ∧
    (s.openTransfer m p count).passes =
      (if p then s.passes.map (fun e => { e with transferMark := false }) else s.passes) ∧
    s.keepsAllBut (s.openTransfer m p count) [.xfer, .passes] := by
  refine ⟨?_, ?_, ?_⟩
  · unfold State.openTransfer
    split <;> rfl
  · unfold State.openTransfer clearMarks
    split <;> rfl
  · rw [State.keepsAllBut_iff]
    simp

/-- Settles O19: the three requests by the condition of the transfer. -/
theorem transferOpenAbortStatus : Obligations.TransferOpenAbortStatus := by
  refine ⟨fun b => ⟨transferModeOf_eq b, boolOf_eq b⟩,
    fun tag mode purge count s htakes => ⟨s.xferOpenRequest tag mode purge count.toNat,
      asks_of_handle (exec_xferOpen tag mode purge count s) htakes, ?_, ?_⟩,
    fun tag s htakes => ⟨s.xferAbortRequest tag, asks_of_handle (exec_xferAbort tag s) htakes, ?_, ?_⟩,
    fun tag s htakes => ⟨s.xferStatusRequest tag, asks_of_handle (exec_xferStatus tag s) htakes,
      s.onlyAnswers_answer _ _ _ _⟩⟩
  · intro hbad
    rw [State.xferOpenRequest_of_bad tag hbad]
    exact s.onlyAnswers_answerCode _ _ _
  · intro m p hm hp h1 h4096
    rw [State.xferOpenRequest_of_named tag hm hp ⟨h1, h4096⟩]
    constructor
    · intro hopen
      rw [if_pos hopen]
      exact s.onlyAnswers_answerCode _ _ _
    · intro hclosed
      rw [if_neg hclosed]
      obtain ⟨hxfer, hpasses, hframe⟩ := s.openTransfer_spec m p count.toNat
      exact ⟨by rw [State.answer_frame _ _ _ _ _ |>.2.2.2.1, hxfer]; rfl,
        by rw [State.answer_frame _ _ _ _ _ |>.2.2.1, hpasses], State.answer_spec .xferOpen tag .ok _ (by simp) hframe⟩
  · intro hclosed
    rw [State.xferAbortRequest, if_neg hclosed]
    exact s.onlyAnswers_answerCode _ _ _
  · intro hopen
    have hframe : s.keepsAllBut (s.setXfer { s.xfer with condition := .aborted }) [.xfer] := by
      rw [State.keepsAllBut_iff]
      simp
    rw [State.xferAbortRequest, if_pos hopen]
    exact ⟨by simp, State.answer_spec .xferAbort tag .ok _ (by simp) hframe⟩

/-! ## One transfer record -/

/-- An update of a pass the list does not hold changes nothing. -/
theorem updateIn_of_absent {p : Nat} {es : List PassEntry} (h : es.find? (fun e => e.pass == p) = none)
    (f : PassEntry → PassEntry) : updateIn p f es = es := by
  rw [List.find?_eq_none] at h
  rw [updateIn]
  refine (List.map_congr_left fun e he => ?_).trans (List.map_id es)
  rw [if_neg (by simpa using h e he), id]

/-- R48: the entry of the pass is marked. -/
theorem State.findPass_markPass (s : State) (p q : Nat) :
    (s.markPass p).findPass q =
      if q = p then (s.findPass q).map fun e => { e with transferMark := true } else s.findPass q :=
  s.findPass_updatePass p q _ fun _ => rfl

theorem State.passes_markPass_of_absent {s : State} {p : Nat} (h : s.findPass p = none) :
    (s.markPass p).passes = s.passes := updateIn_of_absent h _

/-- R47, R48: a record's effect, then the mark of its pass. -/
theorem State.findPass_loadStep (s : State) (r : PassRecord) (q : Nat) :
    (s.recordStep .load r).findPass q =
      if q = r.pass.toNat
        then ((s.loadEffect r (s.loadOutcome r)).findPass q).map fun e => { e with transferMark := true }
        else (s.loadEffect r (s.loadOutcome r)).findPass q :=
  State.findPass_markPass _ _ _

/-- R47: a record that neither adds nor rewrites an entry. -/
theorem State.loadEffect_of_other (s : State) (r : PassRecord) {o : RecordOutcome} (ha : o ≠ .added)
    (hr : o ≠ .replaced) : s.loadEffect r o = s := by
  unfold State.loadEffect
  cases o
  case added => exact absurd rfl ha
  case replaced => exact absurd rfl hr
  all_goals split <;> simp_all

/-- R48: of a record without an effect the mark alone remains. -/
theorem State.loadStep_marks {s : State} {r : PassRecord} {o : RecordOutcome} (ho : s.loadOutcome r = o)
    (ha : o ≠ .added) (hr : o ≠ .replaced) :
    s.recordOutcome .load r = o ∧
    (s.recordStep .load r).findPass r.pass.toNat =
      (s.findPass r.pass.toNat).map fun e => { e with transferMark := true } :=
  ⟨ho, by rw [State.findPass_loadStep, if_pos rfl, ho, State.loadEffect_of_other s r ha hr]⟩

theorem State.loadEffect_added {s : State} {r : PassRecord} {st : PassStatus} (h : s.recordStatus? r = some st) :
    s.loadEffect r .added = s.addPass r st := by
  simp [State.loadEffect, h]

theorem State.loadEffect_replaced {s : State} {r : PassRecord} {st : PassStatus} (h : s.recordStatus? r = some st) :
    s.loadEffect r .replaced = s.rewritePass r st := by
  simp [State.loadEffect, h]

theorem State.loadOutcome_of_unnamed {s : State} {r : PassRecord} (h : ¬ ∃ st, s.namesPass r st) :
    s.loadOutcome r = .rejectedBad := by
  rw [State.loadOutcome, (s.recordStatus?_eq_none_iff r).mpr h]

theorem State.loadOutcome_of_absent {s : State} {r : PassRecord} {st : PassStatus} (h : s.namesPass r st)
    (hf : s.findPass r.pass.toNat = none) :
    s.loadOutcome r = if Config.passCapacity ≤ s.passes.length then .rejectedFull else .added := by
  rw [State.loadOutcome, (s.recordStatus?_eq_some_iff r st).mpr h, hf]

theorem State.loadOutcome_of_found {s : State} {r : PassRecord} {st : PassStatus} {e : PassEntry}
    (h : s.namesPass r st) (hf : s.findPass r.pass.toNat = some e) :
    s.loadOutcome r = if e.marker.isSome then .skippedPending else if e.isHeld then .skippedHeld
      else if e.differs r st then .replaced else .unchanged := by
  rw [State.loadOutcome, (s.recordStatus?_eq_some_iff r st).mpr h, hf]

/-- R47: an absent pass is added while there is room. -/
theorem State.loadStep_of_absent {s : State} {r : PassRecord} {st : PassStatus} (h : s.namesPass r st)
    (hf : s.findPass r.pass.toNat = none) :
    (4096 ≤ s.passes.length → s.recordOutcome .load r = .rejectedFull ∧
      (s.recordStep .load r).passes = s.passes) ∧
    (s.passes.length < 4096 → s.recordOutcome .load r = .added ∧
      (s.recordStep .load r).findPass r.pass.toNat = some (addedEntry r st)) := by
  constructor
  · intro hfull
    have ho : s.loadOutcome r = .rejectedFull := by
      have hcapacity : Config.passCapacity ≤ s.passes.length := hfull
      rw [State.loadOutcome_of_absent h hf, if_pos hcapacity]
    have hpasses : (s.recordStep .load r).passes = ((s.loadEffect r (s.loadOutcome r)).markPass r.pass.toNat).passes :=
      rfl
    refine ⟨ho, ?_⟩
    rw [hpasses, ho, State.loadEffect_of_other s r (by simp) (by simp), State.passes_markPass_of_absent hf]
  · intro hroom
    have ho : s.loadOutcome r = .added := by
      have hcapacity : ¬ Config.passCapacity ≤ s.passes.length := Nat.not_le.mpr hroom
      rw [State.loadOutcome_of_absent h hf, if_neg hcapacity]
    have heffect := State.loadEffect_added ((s.recordStatus?_eq_some_iff r st).mpr h)
    refine ⟨ho, ?_⟩
    rw [State.findPass_loadStep, if_pos rfl, ho, heffect, State.findPass_addPass st hf, if_pos rfl]
    rfl

/-- R47: the entry of a pass present is skipped, rewritten or left, by the first check that applies. -/
theorem State.loadStep_of_found {s : State} {r : PassRecord} {st : PassStatus} {e : PassEntry}
    (h : s.namesPass r st) (hf : s.findPass r.pass.toNat = some e) :
    (e.marker.isSome → s.recordOutcome .load r = .skippedPending ∧
      (s.recordStep .load r).findPass r.pass.toNat = some { e with transferMark := true }) ∧
    (e.marker = none → e.isHeld = true → s.recordOutcome .load r = .skippedHeld ∧
      (s.recordStep .load r).findPass r.pass.toNat = some { e with transferMark := true }) ∧
    (e.marker = none → e.isHeld = false → ¬ SameAsRecord e r st → s.recordOutcome .load r = .replaced ∧
      (s.recordStep .load r).findPass r.pass.toNat = some (replacedEntry e r st)) ∧
    (e.marker = none → e.isHeld = false → SameAsRecord e r st → s.recordOutcome .load r = .unchanged ∧
      (s.recordStep .load r).findPass r.pass.toNat = some { e with transferMark := true }) := by
  have houtcome := State.loadOutcome_of_found h hf
  have hmarks : ∀ o, s.loadOutcome r = o → o ≠ .added → o ≠ .replaced → s.recordOutcome .load r = o ∧
      (s.recordStep .load r).findPass r.pass.toNat = some { e with transferMark := true } := by
    intro o ho ha hr
    obtain ⟨hout, hfind⟩ := State.loadStep_marks ho ha hr
    exact ⟨hout, by rw [hfind, hf]; rfl⟩
  refine ⟨fun hmarked => ?_, fun hfree hheld => ?_, fun hfree hheld hother => ?_, fun hfree hheld hsame => ?_⟩
  · exact hmarks .skippedPending (by rw [houtcome, if_pos hmarked]) (by simp) (by simp)
  · exact hmarks .skippedHeld (by simp [houtcome, hfree, hheld]) (by simp) (by simp)
  · have hdiffers : e.differs r st = true := by
      rw [← Bool.not_eq_false]
      exact fun hd => hother ((e.differs_eq_false_iff r st).mp hd)
    have ho : s.loadOutcome r = .replaced := by simp [houtcome, hfree, hheld, hdiffers]
    have heffect := State.loadEffect_replaced ((s.recordStatus?_eq_some_iff r st).mpr h)
    refine ⟨ho, ?_⟩
    rw [State.findPass_loadStep, if_pos rfl, ho, heffect, State.findPass_rewritePass, if_pos rfl, hf]
    rfl
  · have hdiffers := (e.differs_eq_false_iff r st).mpr hsame
    exact hmarks .unchanged (by simp [houtcome, hfree, hheld, hdiffers]) (by simp) (by simp)

/-- R50: an entry in REFUND_HOLD is compared as ACTIVE. -/
theorem PassEntry.comparedStatus_eq (e : PassEntry) :
    e.comparedStatus = if e.isHeld then .active else e.status := by
  unfold PassEntry.comparedStatus PassEntry.isHeld
  cases e.status <;> rfl

theorem PassEntry.verifies_eq_true_iff (e : PassEntry) (r : PassRecord) :
    e.verifies r = true ↔ e.product = r.product.toNat ∧ e.start = r.start.toNat ∧ e.price = r.price.toNat ∧
      hostStatusOf r.status = some (if e.isHeld then .active else e.status) := by
  simp [PassEntry.verifies, PassEntry.sameWindow, and_assoc, e.comparedStatus_eq]

theorem State.verifyOutcome_of_missing {s : State} {r : PassRecord}
    (h : legalPass r.pass.toNat = false ∨ s.findPass r.pass.toNat = none) : s.verifyOutcome r = .missing := by
  rw [State.verifyOutcome]
  by_cases hl : legalPass r.pass.toNat = false
  · rw [if_pos hl]
  · rw [if_neg hl, h.resolve_left hl]

theorem State.verifyOutcome_of_found {s : State} {r : PassRecord} {e : PassEntry} (hl : legalPass r.pass.toNat = true)
    (hf : s.findPass r.pass.toNat = some e) :
    s.verifyOutcome r = if e.verifies r then .isMatch else .differ := by
  rw [State.verifyOutcome, if_neg (by simp [hl]), hf]

/-- R51: a MISSING record marks nothing, every other one its pass. -/
theorem State.passes_verifyStep (s : State) (r : PassRecord) :
    (s.recordStep .verify r).passes =
      if s.verifyOutcome r = .missing then s.passes else (s.markPass r.pass.toNat).passes := by
  simp only [State.recordStep, State.verifyStep, State.verifyMark, State.setXfer_passes]
  split <;> rfl

theorem State.verifyStep_of_found {s : State} {r : PassRecord} {e : PassEntry} (hl : legalPass r.pass.toNat = true)
    (hf : s.findPass r.pass.toNat = some e) :
    s.recordOutcome .verify r = (if e.product = r.product.toNat ∧ e.start = r.start.toNat ∧
      e.price = r.price.toNat ∧ hostStatusOf r.status = some (if e.isHeld then .active else e.status)
      then .isMatch else .differ) ∧
    (s.recordStep .verify r).findPass r.pass.toNat = some { e with transferMark := true } := by
  have ho := State.verifyOutcome_of_found hl hf
  refine ⟨?_, ?_⟩
  · rw [State.recordOutcome, ho]
    simp only [e.verifies_eq_true_iff r]
  · have hne : s.verifyOutcome r ≠ .missing := by
      rw [ho]
      split <;> simp
    have hpasses := s.passes_verifyStep r
    rw [if_neg hne] at hpasses
    rw [State.findPass_congr hpasses, State.findPass_markPass, if_pos rfl, hf]
    rfl

/-- R51: the first difference stays once it is there. -/
theorem firstDifferenceAfter_eq (old : Option Nat) (r : PassRecord) (o : RecordOutcome) :
    firstDifferenceAfter old r o = if old = none ∧ o ≠ .isMatch then some r.pass.toNat else old := by
  cases old with
  | some p => rfl
  | none =>
    unfold firstDifferenceAfter
    by_cases ho : o = .isMatch <;> simp [ho]

theorem State.xfer_verifyStep (s : State) (r : PassRecord) :
    (s.recordStep .verify r).xfer = { s.xfer with
      verify := s.xfer.verify.count (s.recordOutcome .verify r)
      firstDifference :=
        if s.xfer.firstDifference = none ∧ s.recordOutcome .verify r ≠ .isMatch then some r.pass.toNat
        else s.xfer.firstDifference } := by
  have hmark : (s.verifyMark r (s.verifyOutcome r)).xfer = s.xfer := by
    unfold State.verifyMark
    split <;> simp
  simp only [State.recordStep, State.verifyStep, State.setXfer_xfer, hmark, firstDifferenceAfter_eq]
  rfl

theorem State.xfer_loadStep (s : State) (r : PassRecord) :
    (s.recordStep .load r).xfer = { s.xfer with load := s.xfer.load.count (s.recordOutcome .load r) } := by
  simp [State.recordStep, State.loadStep, State.recordOutcome]

theorem State.recordStep_keepsAllBut (s : State) (m : TransferMode) (r : PassRecord) :
    s.keepsAllBut (s.recordStep m r) [.passes, .xfer] := by
  rw [State.keepsAllBut_iff]
  cases m <;> simp [State.recordStep]

/-- R46: a record touches the entry of its own pass alone. -/
theorem State.findPass_recordStep_of_ne (s : State) (m : TransferMode) (r : PassRecord) {q : Nat}
    (h : q ≠ r.pass.toNat) : (s.recordStep m r).findPass q = s.findPass q := by
  cases m with
  | load =>
    rw [State.findPass_loadStep, if_neg h]
    cases hst : s.recordStatus? r with
    | none => simp [State.loadEffect, hst]
    | some st =>
      have hnames := (s.recordStatus?_eq_some_iff r st).mp hst
      cases hf : s.findPass r.pass.toNat with
      | none =>
        rw [State.loadOutcome_of_absent hnames hf]
        split
        · rw [State.loadEffect_of_other s r (by simp) (by simp)]
        · rw [State.loadEffect_added hst, State.findPass_addPass st hf, if_neg h]
      | some e =>
        have hadded : s.loadOutcome r ≠ .added := by
          rw [State.loadOutcome_of_found hnames hf]
          (repeat' split) <;> simp
        by_cases hreplaced : s.loadOutcome r = .replaced
        · rw [hreplaced, State.loadEffect_replaced hst, State.findPass_rewritePass, if_neg h]
        · rw [State.loadEffect_of_other s r hadded hreplaced]
  | verify =>
    have hpasses := s.passes_verifyStep r
    split at hpasses
    · exact State.findPass_congr hpasses q
    · rw [State.findPass_congr hpasses, State.findPass_markPass, if_neg h]

/-- Settles O21: the counts, the outcome of a record by the first check that applies, and what it touches. -/
theorem transferRecordOutcomes : Obligations.TransferRecordOutcomes := by
  refine ⟨fun _ => ⟨rfl, rfl, rfl, rfl, rfl, rfl, rfl⟩, fun _ => ⟨rfl, rfl, rfl⟩, hostStatusOf_eq_some_iff,
    fun s r => ⟨fun hbad => State.loadStep_marks (State.loadOutcome_of_unnamed hbad) (by simp) (by simp),
      fun _ hst hf => State.loadStep_of_absent hst hf, fun _ _ hst hf => State.loadStep_of_found hst hf, ?_,
      fun _ hl hf => State.verifyStep_of_found hl hf, s.xfer_loadStep r, s.xfer_verifyStep r,
      fun m => ⟨s.recordStep_keepsAllBut m r, fun _ hq => s.findPass_recordStep_of_ne m r hq⟩⟩⟩
  intro hmissing
  have ho := State.verifyOutcome_of_missing hmissing
  exact ⟨ho, by rw [State.passes_verifyStep, if_pos ho]⟩

/-! ## XFER_CHUNK -/

theorem exec_xferChunk (tag : Byte) (records : List PassRecord) (s : State) :
    exec (.xferChunk tag records) s = handle (.xferChunk tag records) s := rfl

theorem chunkLengthOk_eq_true_iff (records : List PassRecord) :
    chunkLengthOk records = true ↔ 1 ≤ records.length ∧ records.length ≤ 12 := by
  simp [chunkLengthOk]

theorem State.handleRecords_keepsAllBut (m : TransferMode) (rs : List PassRecord) (s : State) :
    s.keepsAllBut (State.handleRecords m rs s).1 [.passes, .xfer] := by
  induction rs generalizing s with
  | nil => exact State.keepsAllBut_refl s _
  | cons r rs ih => exact State.keepsAllBut_trans (s.recordStep_keepsAllBut m r) (ih _)

/-- R53: the entries the sweep of a LOAD removes and those it keeps, counted. -/
theorem sweep_counts (es : List PassEntry) :
    (es.filter fun e => !e.transferMark).length -
        (es.filter fun e => !e.transferMark).countP PassEntry.isProtected =
      es.countP (fun e => !(e.transferMark || e.marker.isSome || e.isHeld)) ∧
    (es.filter fun e => !e.transferMark).countP PassEntry.isProtected =
      es.countP fun e => !e.transferMark && (e.marker.isSome || e.isHeld) := by
  constructor
  · have hsplit := List.length_eq_countP_add_countP PassEntry.isProtected (l := es.filter fun e => !e.transferMark)
    rw [hsplit, Nat.add_sub_cancel_left, List.countP_filter]
    refine List.countP_congr fun e _ => ?_
    simp only [PassEntry.isProtected]
    cases e.transferMark <;> simp
  · rw [List.countP_filter]
    refine List.countP_congr fun e _ => ?_
    rw [PassEntry.isProtected, Bool.and_comm]

/-- R52: the transfer completed, with the sweep of a PURGE transfer. -/
theorem State.completeTransfer_spec (w : State) (h : TransferHeader) {u : State} (hu : u = w.completeTransfer h) :
    w.keepsAllBut u [.xfer, .passes] ∧
    (h.purge = false → u.passes = w.passes ∧ u.xfer = { w.xfer with condition := .completed }) ∧
    (h.purge = true → h.mode = .load →
      u.passes = w.passes.filter (fun e => e.transferMark || e.marker.isSome || e.isHeld) ∧
      u.xfer = { w.xfer with
        condition := .completed
        load := { w.xfer.load with
          removed := w.passes.countP fun e => !(e.transferMark || e.marker.isSome || e.isHeld)
          kept := w.passes.countP fun e => !e.transferMark && (e.marker.isSome || e.isHeld) } }) ∧
    (h.purge = true → h.mode = .verify → u.passes = w.passes ∧
      u.xfer = { w.xfer with
        condition := .completed
        verify := { w.xfer.verify with extra := w.passes.countP fun e => !e.transferMark } }) := by
  subst hu
  refine ⟨?_, ?_, ?_, ?_⟩
  · rw [State.keepsAllBut_iff]
    simp
  · intro hpurge
    simp [State.completeTransfer, hpurge]
  · intro hpurge hmode
    obtain ⟨hremoved, hkept⟩ := sweep_counts w.passes
    simp only [State.completeTransfer, hpurge, if_true, State.sweep, hmode, State.loadSweep, State.setXfer_passes,
      State.setPasses_passes, State.setXfer_xfer, State.setPasses_xfer]
    refine ⟨List.filter_congr fun e _ => by rw [PassEntry.isProtected, Bool.or_assoc], ?_⟩
    rw [hremoved, hkept]
  · intro hpurge hmode
    simp [State.completeTransfer, hpurge, State.sweep, hmode, State.verifySweep]

/-- R46: a chunk that leaves records to come. -/
theorem State.takeChunk_of_left {s w : State} (tag : Byte) {h : TransferHeader} {records : List PassRecord}
    {outcomes : List RecordOutcome} (hdone : State.handleRecords h.mode records s = (w, outcomes))
    (hleft : records.length < h.remaining) :
    s.takeChunk tag h records =
      (w.setXfer { w.xfer with header := some { h with remaining := h.remaining - records.length } }).answer .xferChunk
        tag .ok (.chunk outcomes (h.remaining - records.length) none) := by
  simp only [State.takeChunk, hdone, if_neg (Nat.sub_ne_zero_of_lt hleft)]

/-- R46, R52: the chunk that brings the remaining count to 0. -/
theorem State.takeChunk_of_last {s w : State} (tag : Byte) {h : TransferHeader} {records : List PassRecord}
    {outcomes : List RecordOutcome} (hdone : State.handleRecords h.mode records s = (w, outcomes))
    (hlast : h.remaining = records.length) {t : State}
    (ht : t = (w.setXfer { w.xfer with header := some { h with remaining := 0 } }).completeTransfer h) :
    s.takeChunk tag h records = t.answer .xferChunk tag .ok (.chunk outcomes 0 (some (t.xfer, t.passes.length))) := by
  have hzero : h.remaining - records.length = 0 := by omega
  rw [ht]
  simp only [State.takeChunk, hdone, hzero, if_true]

/-- The remaining count written into the header. -/
theorem State.setHeader_keepsAllBut (w : State) (h : Option TransferHeader) :
    w.keepsAllBut (w.setXfer { w.xfer with header := h }) [.passes, .xfer] := by
  rw [State.keepsAllBut_iff]
  simp

/-- Settles O20: the refusals, a chunk that leaves records to come, and the last chunk with its sweep. -/
theorem transferChunkHandled : Obligations.TransferChunkHandled := by
  refine ⟨fun _ _ => rfl, fun _ _ _ _ => rfl, fun tag records s htakes => ⟨s.xferChunkRequest tag records,
    asks_of_handle (exec_xferChunk tag records s) htakes, ?_, ?_, ?_⟩⟩
  · intro hlen
    have hbad : chunkLengthOk records = false := by
      rw [← Bool.not_eq_true, chunkLengthOk_eq_true_iff]
      omega
    rw [State.xferChunkRequest, if_pos hbad]
    exact s.onlyAnswers_answerCode _ _ _
  · intro h1 h12 hclosed
    have hok := (chunkLengthOk_eq_true_iff records).mpr ⟨h1, h12⟩
    rw [State.xferChunkRequest, if_neg (by simp [hok]), if_neg hclosed]
    exact s.onlyAnswers_answer _ _ _ _
  · intro h w outcomes h1 h12 hopen hheader hdone
    have hok := (chunkLengthOk_eq_true_iff records).mpr ⟨h1, h12⟩
    rw [State.xferChunkRequest, if_neg (by simp [hok]), if_pos hopen, hheader]
    have hframe : s.keepsAllBut w [.passes, .xfer] := by
      have := State.handleRecords_keepsAllBut h.mode records s
      rwa [hdone] at this
    refine ⟨fun hover => ?_, fun hleft => ?_, fun hlast => ?_⟩
    · simp only [if_pos hover, State.refuseChunk, hheader]
      exact s.onlyAnswers_answer _ _ _ _
    · simp only [if_neg (Nat.not_lt.mpr (Nat.le_of_lt hleft)), State.takeChunk_of_left tag hdone hleft]
      have hall := State.keepsAllBut_trans hframe (w.setHeader_keepsAllBut
        (some { h with remaining := h.remaining - records.length }))
      obtain ⟨hreply, hkeep⟩ := State.answer_spec .xferChunk tag .ok
        (.chunk outcomes (h.remaining - records.length) none) (hall .lif (by simp)) hall
      exact ⟨by simp, by simp, hreply, State.keepsAllBut_mono hkeep (by simp)⟩
    · simp only [if_neg (Nat.not_lt.mpr (Nat.le_of_eq hlast.symm))]
      generalize ht : (w.setXfer { w.xfer with header := some { h with remaining := 0 } }).completeTransfer h = t
      rw [State.takeChunk_of_last tag hdone hlast ht.symm]
      obtain ⟨hcomplete, hplain, hload, hverify⟩ := State.completeTransfer_spec _ h ht.symm
      have hall := State.keepsAllBut_trans (State.keepsAllBut_trans hframe (w.setHeader_keepsAllBut
        (some { h with remaining := 0 }))) (State.keepsAllBut_mono hcomplete (by simp))
      obtain ⟨hreply, hkeep⟩ := State.answer_spec .xferChunk tag .ok
        (.chunk outcomes 0 (some (t.xfer, t.passes.length))) (hall .lif (by simp)) hall
      exact ⟨hreply, State.keepsAllBut_mono hkeep (by simp), hplain, hload, hverify⟩

end Sys2Proof.Machine
end

section
/-!
PROOFS. LANE_CONFIG (R60, R61), the state and the outputs of a lane (R64, R75, R78, R79, R83), and LANE_OUTPUT (R76, R77).
-/

namespace Sys2Proof.Machine

/-! ## The bytes that name lanes, roles, outputs and values (section 10.9) -/

theorem fourOf_eq (b : Byte) : fourOf b = fourInOrder[b.toNat]? := by
  unfold fourOf
  split
  · rename_i h
    generalize b.toNat = n at h
    match n, h with
    | 0, _ | 1, _ | 2, _ | 3, _ => rfl
  · rename_i h
    exact (List.getElem?_eq_none (Nat.not_lt.mp h)).symm

theorem roleOf_eq (b : Byte) : roleOf b = ([.gate, .desk, .off] : List Role)[b.toNat]? := by
  unfold roleOf
  match b.toNat with
  | 0 | 1 | 2 => rfl
  | _ + 3 => rfl

theorem laneOutputOf_eq (b : Byte) :
    laneOutputOf b = ([.arm, .green, .amber, .red, .buzzer] : List LaneOutput)[b.toNat]? := by
  unfold laneOutputOf
  match b.toNat with
  | 0 | 1 | 2 | 3 | 4 => rfl
  | _ + 5 => rfl

theorem armOverrideOf_eq (b : Byte) : armOverrideOf b = ([.auto, .free, .lock] : List ArmOverride)[b.toNat]? := by
  unfold armOverrideOf
  match b.toNat with
  | 0 | 1 | 2 => rfl
  | _ + 3 => rfl

theorem outputOverrideOf_eq (b : Byte) :
    outputOverrideOf b = ([.auto, .on, .off] : List OutputOverride)[b.toNat]? := by
  unfold outputOverrideOf
  match b.toNat with
  | 0 | 1 | 2 => rfl
  | _ + 3 => rfl

/-! ## LANE_CONFIG (R60, R61) -/

theorem exec_laneConfig (tag lane role timeout autoQuote : Byte) (s : State) :
    exec (.laneConfig tag lane role timeout autoQuote) s = handle (.laneConfig tag lane role timeout autoQuote) s := rfl

/-- R60: fields out of range name nothing. -/
theorem laneFieldsOf_of_bad {lane role timeout autoQuote : Byte}
    (h : fourOf lane = none ∨ roleOf role = none ∨ boolOf autoQuote = none ∨ timeout.toNat < 2 ∨
      30 < timeout.toNat ∨ (boolOf autoQuote = some true ∧ roleOf role ≠ some .desk)) :
    laneFieldsOf lane role timeout autoQuote = none := by
  unfold laneFieldsOf
  cases hl : fourOf lane with
  | none => rfl
  | some l =>
    cases hr : roleOf role with
    | none => rfl
    | some r =>
      cases hq : boolOf autoQuote with
      | none => rfl
      | some q =>
        simp only [hl, hr, hq, reduceCtorEq, false_or, Option.some.injEq] at h
        have hbad : ¬ (2 ≤ timeout.toNat ∧ timeout.toNat ≤ 30 ∧ (q = true → r = .desk)) := by
          rintro ⟨h2, h30, hdesk⟩
          obtain hlow | hhigh | ⟨hon, hother⟩ := h
          · omega
          · omega
          · exact hother (congrArg some (hdesk hon))
        simp only [if_neg hbad]

theorem laneFieldsOf_of_named {lane role timeout autoQuote : Byte} {l : LaneId} {r : Role} {q : Bool}
    (hl : fourOf lane = some l) (hr : roleOf role = some r) (hq : boolOf autoQuote = some q)
    (hrange : 2 ≤ timeout.toNat ∧ timeout.toNat ≤ 30 ∧ (q = true → r = .desk)) :
    laneFieldsOf lane role timeout autoQuote =
      some { lane := l, role := r, timeout := timeout.toNat, autoQuote := q } := by
  unfold laneFieldsOf
  rw [hl, hr, hq]
  simp only [if_pos hrange]

/-- A change of lanes alone. -/
theorem State.setLane_keepsAllBut (s : State) (l : LaneId) (x : Lane) : s.keepsAllBut (s.setLane l x) [.lanes] := by
  rw [State.keepsAllBut_iff]
  simp

theorem State.withdraw_keepsAllBut (s : State) (l : LaneId) : s.keepsAllBut (s.withdraw l) [.lif, .ae] := by
  rw [State.keepsAllBut_iff]
  simp

theorem State.keepsAllBut_writeRecord (s : State) (b : RecordBody) :
    s.keepsAllBut (s.writeRecord b) [.journal, .notices] := by
  rw [State.keepsAllBut_iff]
  simp

/-- R61: the lane afresh, field by field. -/
theorem Lane.afresh_eq (x : Lane) (site : SiteConfig) (l : LaneId) (r : Role) (n : Nat) (q : Bool) :
    x.afresh site { lane := l, role := r, timeout := n, autoQuote := q } =
      { role := r, unlockTimeout := n, autoQuote := q
        beamA := x.beamA, beamB := x.beamB, armRest := x.armRest
        silentCount := 0, lossPresent := false, recoveryCount := 0, latches := LatchSet.empty
        beamATimer := if r = .gate ∧ x.beamA = true then some site.beamStuck else none
        beamBTimer := if r = .gate ∧ x.beamB = true then some site.beamStuck else none
        armTimer := if r = .gate ∧ x.armRest = false then some site.armStuck else none
        unlockTimer := none, armOverride := .auto, greenOverride := .auto, amberOverride := .auto
        redOverride := .auto, buzzerOverride := .auto, display := none
        pattern := if x.pattern = .alarm then .silence else x.pattern
        alarmTimer := false, forcedStamp := 0, detector := .idle, rotations := [], entries := [] } := by
  simp only [Lane.afresh, stuckTimer, Lane.endAlarm, Bool.not_eq_true']

/-- R61, R91: the blocks after a change of role. -/
theorem State.changeRole_spec (s : State) (f : LaneFields) {u : State} (hu : u = s.changeRole f) :
    u.ae = { s.ae with waiting := s.ae.waiting.set f.lane none } ∧
    u.lanes = s.lanes.set f.lane ((s.lane f.lane).afresh s.rcc.site f) ∧
    u.lif = { s.lif with replies := s.lif.replies ++ s.busyReplies f.lane } ∧
    ((s.lane f.lane).latches.any = true → s.recorded u (.faultCleared f.lane)) ∧
    ((s.lane f.lane).latches.any = false → u.journal = s.journal ∧ u.notices = s.notices) ∧
    s.keepsAllBut u [.lif, .lanes, .ae, .journal, .notices] := by
  obtain ⟨hae, hlif⟩ := s.withdraw_spec f.lane
  have hlane : (s.withdraw f.lane).lane f.lane = s.lane f.lane := State.lane_congr (by simp) _
  have hsite : (s.withdraw f.lane).rcc.site = s.rcc.site := by simp
  rw [State.changeRole, hlane, hsite] at hu
  generalize ht : (s.withdraw f.lane).setLane f.lane ((s.lane f.lane).afresh s.rcc.site f) = t at hu
  have haet : t.ae = { s.ae with waiting := s.ae.waiting.set f.lane none } := by simp [← ht, hae]
  have hlanest : t.lanes = s.lanes.set f.lane ((s.lane f.lane).afresh s.rcc.site f) := by simp [← ht]
  have hlift : t.lif = { s.lif with replies := s.lif.replies ++ s.busyReplies f.lane } := by simp [← ht, hlif]
  have hframet : s.keepsAllBut t [.lif, .lanes, .ae] := by
    rw [← ht, State.keepsAllBut_iff]
    simp
  cases hany : (s.lane f.lane).latches.any with
  | false =>
    have hsame : u = t := by simp [hu, hany]
    rw [hsame]
    exact ⟨haet, hlanest, hlift, nofun, fun _ => ⟨hframet .journal (by simp), hframet .notices (by simp)⟩,
      State.keepsAllBut_mono hframet (by simp)⟩
  | true =>
    have hrecord : u = t.writeRecord (.faultCleared f.lane) := by simp [hu, hany]
    have hframeu := t.keepsAllBut_writeRecord (.faultCleared f.lane)
    rw [hrecord]
    refine ⟨(hframeu .ae (by simp)).trans haet, (hframeu .lanes (by simp)).trans hlanest,
      (hframeu .lif (by simp)).trans hlift, fun _ => ?_, nofun, ?_⟩
    · exact State.recorded_of_rcc _ (State.stamp_congr (hframet .rcc (by simp))) (hframet .journal (by simp))
        (hframet .notices (by simp))
    · exact State.keepsAllBut_trans (State.keepsAllBut_mono hframet (by simp)) (State.keepsAllBut_mono hframeu (by simp))

/-- Settles O22: the refusals, a role kept, and a role changed. -/
theorem laneConfigKeepsOrChangesRole : Obligations.LaneConfigKeepsOrChangesRole := by
  refine ⟨fun b => ⟨fourOf_eq b, roleOf_eq b, boolOf_eq b⟩, fun tag lane role timeout autoQuote s htakes =>
    ⟨s.laneConfigRequest tag lane role timeout autoQuote,
      asks_of_handle (exec_laneConfig tag lane role timeout autoQuote s) htakes, ?_, ?_, ?_⟩⟩
  · intro hmode
    rw [State.laneConfigRequest, hmode]
    exact s.onlyAnswers_answerCode _ _ _
  · intro hmode hbad
    rw [State.laneConfigRequest, hmode, laneFieldsOf_of_bad hbad]
    exact s.onlyAnswers_answerCode _ _ _
  · intro l r q hmode hl hr hq h2 h30 hdesk
    rw [State.laneConfigRequest, hmode, laneFieldsOf_of_named hl hr hq ⟨h2, h30, hdesk⟩]
    simp only [State.configureLane]
    constructor
    · intro hsame
      rw [if_pos hsame.symm, State.keepRole]
      exact ⟨by simp, State.answerCode_spec .laneConfig tag .ok (by simp) (s.setLane_keepsAllBut _ _)⟩
    · intro hother
      rw [if_neg (Ne.symm hother)]
      generalize hw : s.changeRole { lane := l, role := r, timeout := timeout.toNat, autoQuote := q } = w
      obtain ⟨hae, hlanes, hlif, hcleared, hquiet, hframe⟩ := State.changeRole_spec s _ hw.symm
      rw [Lane.afresh_eq] at hlanes
      refine ⟨by simpa using hae, by simpa using hlanes, by simp [hlif], fun h => (hcleared h).answerCode _ _ _,
        fun h => by simpa using hquiet h, ?_⟩
      have hanswer := State.keepsAllBut_mono (cs := [.lif, .lanes, .ae, .journal, .notices])
        (w.onlyAnswers_answerCode .laneConfig tag .ok).2 (by simp)
      exact State.keepsAllBut_trans hframe hanswer

/-! ## The state of a lane (R64, R83) -/

theorem State.laneState_of_off {s : State} {l : LaneId} (h : (s.lane l).role = .off) : s.laneState l = .off := by
  simp [State.laneState, h]

theorem State.laneState_of_gate {s : State} {l : LaneId} (h : (s.lane l).role = .gate) :
    s.laneState l =
      (if (s.lane l).latches.readerLost = true ∨ (s.lane l).latches.beamStuck = true ∨
          (s.lane l).latches.armStuck = true then .fault
       else if s.pendingPass l ≠ none then .unlocked
       else if s.rcc.mode = .setup ∨ s.rcc.lift = .closed ∨ s.rcc.clock.state ≠ .running then .closed
       else if s.ae.waiting.get l ≠ none then .waiting
       else .ready) := by
  simp [State.laneState, h, LatchSet.any, or_assoc, State.closedCondition, State.clockRunning, State.isWaiting,
    Option.isSome_iff_ne_none]

theorem State.laneState_of_desk {s : State} {l : LaneId} (h : (s.lane l).role = .desk) :
    s.laneState l =
      (if (s.lane l).latches.readerLost = true then .fault
       else if s.ae.waiting.get l ≠ none then .waiting
       else .ready) := by
  simp [State.laneState, h, State.isWaiting, Option.isSome_iff_ne_none]

/-- R64, R83: only a lane of role OFF is in state OFF. -/
theorem State.laneState_ne_off {s : State} {l : LaneId} (h : (s.lane l).role ≠ .off) : s.laneState l ≠ .off := by
  cases hr : (s.lane l).role with
  | off => exact absurd hr h
  | gate =>
    rw [State.laneState_of_gate hr]
    (repeat' split) <;> simp
  | desk =>
    rw [State.laneState_of_desk hr]
    (repeat' split) <;> simp

/-! ## The outputs of a lane (R75, R78, R79) -/

theorem State.latchRelease_eq_true_iff (s : State) (l : LaneId) :
    s.latchRelease l = true ↔ (s.lane l).role = .gate ∧ ((s.lane l).armOverride = .free ∨
      ((s.lane l).armOverride = .auto ∧ s.laneState l = .unlocked)) := by
  simp [State.latchRelease]

/-- Table 4.6: what a lane shows while no display time runs. -/
theorem State.stateIndication_eq {s : State} {l : LaneId} (hrole : (s.lane l).role ≠ .off) {shown : Lamps}
    (hfault : s.laneState l = .fault → shown = ⟨.dark, .dark, .flashing⟩)
    (hunlocked : s.laneState l = .unlocked → shown = ⟨.lit, .dark, .dark⟩)
    (hclosed : s.laneState l = .closed → shown = ⟨.dark, .dark, .lit⟩)
    (hopen : s.laneState l = .waiting ∨ s.laneState l = .ready →
      ((s.lane l).role = .gate ∨ s.rcc.clock.state = .running → shown = ⟨.dark, .lit, .dark⟩) ∧
      ((s.lane l).role = .desk → s.rcc.clock.state ≠ .running → shown = ⟨.dark, .dark, .lit⟩)) :
    s.stateIndication l = shown := by
  have hidle : s.laneState l = .waiting ∨ s.laneState l = .ready →
      (if (s.lane l).role = .desk ∧ s.clockRunning = false then (⟨.dark, .dark, .lit⟩ : Lamps)
        else ⟨.dark, .lit, .dark⟩) = shown := by
    intro h
    obtain ⟨hlit, hred⟩ := hopen h
    split
    · rename_i hdesk
      exact (hred hdesk.1 (by simpa [State.clockRunning] using hdesk.2)).symm
    · rename_i hdesk
      refine (hlit ?_).symm
      cases hr : (s.lane l).role with
      | off => exact absurd hr hrole
      | gate => exact .inl rfl
      | desk => exact .inr (by simpa [hr, State.clockRunning] using hdesk)
  unfold State.stateIndication
  cases hs : s.laneState l with
  | off => exact absurd hs (State.laneState_ne_off hrole)
  | fault => exact (hfault hs).symm
  | unlocked => exact (hunlocked hs).symm
  | closed => exact (hclosed hs).symm
  | waiting => exact hidle (.inl hs)
  | ready => exact hidle (.inr hs)

/-- R78: each lamp of a lane that is not OFF, under its override. -/
theorem State.lamps_eq {s : State} {l : LaneId} (hrole : (s.lane l).role ≠ .off) :
    s.lamps l =
      { green := overrideLamp (s.lane l).greenOverride (s.indication l).green
        amber := overrideLamp (s.lane l).amberOverride (s.indication l).amber
        red := overrideLamp (s.lane l).redOverride (s.indication l).red } := by
  unfold State.lamps
  cases hr : (s.lane l).role with
  | off => exact absurd hr hrole
  | gate | desk => rfl

theorem State.buzzer_eq {s : State} {l : LaneId} (hrole : (s.lane l).role ≠ .off) :
    s.buzzer l = match (s.lane l).buzzerOverride with
      | .on => .continuous | .off => .silent | .auto => .pattern (s.lane l).pattern := by
  unfold State.buzzer
  cases hr : (s.lane l).role with
  | off => exact absurd hr hrole
  | gate | desk => rfl

/-- R78: the display time's indication, or else the state's. -/
theorem State.indication_eq {s : State} {l : LaneId} (hrole : (s.lane l).role ≠ .off) {shown : Lamps}
    (hrefusal : (s.lane l).display = some .refusal → shown = ⟨.dark, .dark, .lit⟩)
    (hserved : (s.lane l).display = some .served → shown = ⟨.lit, .dark, .dark⟩)
    (hstate : (s.lane l).display = none →
      (s.laneState l = .fault → shown = ⟨.dark, .dark, .flashing⟩) ∧
      (s.laneState l = .unlocked → shown = ⟨.lit, .dark, .dark⟩) ∧
      (s.laneState l = .closed → shown = ⟨.dark, .dark, .lit⟩) ∧
      (s.laneState l = .waiting ∨ s.laneState l = .ready →
        ((s.lane l).role = .gate ∨ s.rcc.clock.state = .running → shown = ⟨.dark, .lit, .dark⟩) ∧
        ((s.lane l).role = .desk → s.rcc.clock.state ≠ .running → shown = ⟨.dark, .dark, .lit⟩))) :
    s.indication l = shown := by
  unfold State.indication
  cases hd : (s.lane l).display with
  | none =>
    obtain ⟨hfault, hunlocked, hclosed, hopen⟩ := hstate hd
    exact State.stateIndication_eq hrole hfault hunlocked hclosed hopen
  | some d =>
    cases d with
    | refusal => exact (hrefusal hd).symm
    | served => exact (hserved hd).symm

/-! ## LANE_OUTPUT (R76, R77) -/

theorem exec_laneOutput (tag lane output value : Byte) (s : State) :
    exec (.laneOutput tag lane output value) s = handle (.laneOutput tag lane output value) s := rfl

theorem State.laneOutputRequest_of_unnamed {s : State} (tag : Byte) {lane output value : Byte}
    (h : fourOf lane = none ∨ laneOutputOf output = none) :
    s.laneOutputRequest tag lane output value = s.answerCode .laneOutput tag .badValue := by
  unfold State.laneOutputRequest
  cases hl : fourOf lane with
  | none => rfl
  | some l =>
    rw [h.resolve_left (by simp [hl])]

theorem State.laneOutputRequest_of_none {s : State} (tag : Byte) {lane output value : Byte} {l : LaneId}
    {o : LaneOutput} (hl : fourOf lane = some l) (ho : laneOutputOf output = some o)
    (h : s.outputEffect l o value = none) :
    s.laneOutputRequest tag lane output value = s.answerCode .laneOutput tag .badValue := by
  rw [State.laneOutputRequest, hl, ho]
  simp only [h]

theorem State.laneOutputRequest_of_some {s u : State} (tag : Byte) {lane output value : Byte} {l : LaneId}
    {o : LaneOutput} (hl : fourOf lane = some l) (ho : laneOutputOf output = some o)
    (h : s.outputEffect l o value = some u) :
    s.laneOutputRequest tag lane output value = u.answerCode .laneOutput tag .ok := by
  rw [State.laneOutputRequest, hl, ho]
  simp only [h]

theorem State.outputEffect_of_off {s : State} {l : LaneId} (h : (s.lane l).role = .off) (o : LaneOutput)
    (value : Byte) : s.outputEffect l o value = none := by
  cases o <;> simp [State.outputEffect, h]

theorem State.outputEffect_arm {s : State} {l : LaneId} (h : (s.lane l).role = .gate) (value : Byte) :
    s.outputEffect l .arm value = (armOverrideOf value).map fun v => s.setArm l v := by
  simp [State.outputEffect, h]

theorem State.outputEffect_of_ne_arm {s : State} {l : LaneId} (h : (s.lane l).role ≠ .off) {o : LaneOutput}
    (ho : o ≠ .arm) (value : Byte) :
    s.outputEffect l o value = (outputOverrideOf value).map fun v => s.setLane l ((s.lane l).setOverride o v) := by
  cases o
  case arm => exact absurd rfl ho
  all_goals simp [State.outputEffect, h]

/-- R77: a value of ARM that does not newly lock the lane. -/
theorem State.setArm_of_unlocked {s : State} {l : LaneId} {v : ArmOverride}
    (h : v ≠ .lock ∨ (s.lane l).armOverride = .lock) :
    (s.setArm l v).lanes = s.lanes.set l { s.lane l with armOverride := v } ∧
    s.keepsAllBut (s.setArm l v) [.lanes] := by
  rw [State.setArm]
  split
  · rename_i hheld
    refine ⟨?_, State.keepsAllBut_refl s _⟩
    have hlane : ({ s.lane l with armOverride := v } : Lane) = s.lane l := by rw [← hheld]
    rw [hlane, State.lane, Quad.set_get]
  · rename_i hother
    have hlock : v ≠ .lock := fun hv => h.elim (fun hn => hn hv) fun hl => hother (hl.trans hv.symm)
    rw [if_neg hlock]
    exact ⟨rfl, s.setLane_keepsAllBut _ _⟩

/-- R77: ARM newly set to LOCK: the lapse and then the withdrawal. -/
theorem State.setArm_lock {s : State} {l : LaneId} (h : (s.lane l).armOverride ≠ .lock) :
    s.setArm l .lock = ((s.setLane l { s.lane l with armOverride := .lock }).lapse l .locked).withdraw l := by
  simp [State.setArm, h]

/-- R75, R77: the lane just locked. -/
theorem State.setArm_lock_spec {s w u : State} {l : LaneId} (tag : Byte)
    (hw : w = (s.setLane l { s.lane l with armOverride := .lock }).lapse l .locked)
    (hu : u = (w.withdraw l).answerCode .laneOutput tag .ok) :
    u.ae = { s.ae with waiting := s.ae.waiting.set l none } ∧
    u.lif = { s.lif with replies := s.lif.replies ++ s.busyReplies l ++
      [replyFrame RequestKind.laneOutput.code tag .ok .nothing] } ∧
    w.keepsAllBut u [.lif, .ae] ∧ u.latchRelease l = false ∧ u.pendingPass l = none := by
  have haew : w.ae = s.ae := by simp [hw]
  have hlifw : w.lif = s.lif := by simp [hw]
  have hlane : (w.lane l).armOverride = .lock := by
    rw [hw, State.lane_lapse]
    split <;> simp
  have hnone : w.pendingPass l = none := by rw [hw, State.pendingPass_lapse, if_pos rfl]
  have hbusy : w.busyReplies l = s.busyReplies l := State.busyReplies_congr (by rw [haew])
  obtain ⟨hae, hlif⟩ := w.withdraw_spec l
  have hframe : w.keepsAllBut u [.lif, .ae] := by
    rw [hu, State.keepsAllBut_iff]
    simp
  have hlaneu : (u.lane l).armOverride = .lock := by rw [State.lane_congr (hframe .lanes (by simp)), hlane]
  refine ⟨by simp [hu, hae, haew], by simp [hu, hlif, hlifw, hbusy], hframe, ?_, ?_⟩
  · rw [← Bool.not_eq_true, State.latchRelease_eq_true_iff]
    simp [hlaneu]
  · rw [State.pendingPass_congr (hframe .pbl (by simp)), hnone]

/-- Settles O23: the bytes, the state and the outputs of a lane, and the one override LANE_OUTPUT sets. -/
theorem laneOutputSetsOneOverride : Obligations.LaneOutputSetsOneOverride := by
  refine ⟨fun b => ⟨laneOutputOf_eq b, armOverrideOf_eq b, outputOverrideOf_eq b⟩,
    fun s l => ⟨State.laneState_of_off, State.laneState_of_gate, State.laneState_of_desk, s.latchRelease_eq_true_iff l,
      fun hoff => ⟨by simp [State.lamps, hoff], by simp [State.buzzer, hoff]⟩, ?_, State.buzzer_eq⟩,
    fun tag lane output value s htakes => ⟨s.laneOutputRequest tag lane output value,
      asks_of_handle (exec_laneOutput tag lane output value s) htakes, ?_, ?_, ?_, ?_⟩⟩
  · intro shown hrole hrefusal hserved hstate
    rw [State.lamps_eq hrole, State.indication_eq hrole hrefusal hserved hstate]
    rfl
  · intro hunnamed
    rw [State.laneOutputRequest_of_unnamed tag hunnamed]
    exact s.onlyAnswers_answerCode _ _ _
  · intro l o hl ho hoff
    rw [State.laneOutputRequest_of_none tag hl ho (State.outputEffect_of_off hoff o value)]
    exact s.onlyAnswers_answerCode _ _ _
  · intro l hl ho
    constructor
    · intro hbad
      have hnone : s.outputEffect l .arm value = none := by
        cases hr : (s.lane l).role with
        | gate => simp [State.outputEffect, hr, hbad.resolve_left (by simp [hr])]
        | desk | off => simp [State.outputEffect, hr]
      rw [State.laneOutputRequest_of_none tag hl ho hnone]
      exact s.onlyAnswers_answerCode _ _ _
    · intro v hgate hv
      have heffect : s.outputEffect l .arm value = some (s.setArm l v) := by
        rw [State.outputEffect_arm hgate, hv]
        rfl
      rw [State.laneOutputRequest_of_some tag hl ho heffect]
      constructor
      · intro hunlocked
        obtain ⟨hlanes, hframe⟩ := State.setArm_of_unlocked hunlocked
        exact ⟨by simpa using hlanes, State.answerCode_spec .laneOutput tag .ok (hframe .lif (by simp)) hframe⟩
      · rintro rfl hother
        rw [State.setArm_lock hother]
        exact ⟨_, rfl, State.setArm_lock_spec tag rfl rfl⟩
  · intro l o hl ho harm hrole
    have heffect := State.outputEffect_of_ne_arm hrole harm value
    constructor
    · intro hbad
      rw [hbad] at heffect
      rw [State.laneOutputRequest_of_none tag hl ho heffect]
      exact s.onlyAnswers_answerCode _ _ _
    · intro v hv
      rw [hv] at heffect
      rw [State.laneOutputRequest_of_some tag hl ho heffect]
      refine ⟨?_, State.answerCode_spec .laneOutput tag .ok (by simp) (s.setLane_keepsAllBut _ _)⟩
      cases o <;> rfl

end Sys2Proof.Machine
end

section
/-!
PROOFS. LANE_CLEAR and LANE_INJECT (R82, R85), the reader health (R62, R63) and the reads (R66, R67, R68, R83).
-/

namespace Sys2Proof.Machine

theorem State.recorded.answer {s u : State} {b : RecordBody} (h : s.recorded u b) (k : RequestKind) (tag : Byte)
    (st : StatusCode) (d : ReplyData) : s.recorded (u.answer k tag st d) b := by
  obtain ⟨hj, hn⟩ := h
  exact ⟨by simpa only [State.answer_frame] using hj,
    by simpa only [State.answer_frame] using hn⟩

/-! ## A lane set twice, and its state -/

theorem State.setLane_setLane (s : State) (l : LaneId) (x y : Lane) : (s.setLane l x).setLane l y = s.setLane l y := by
  simp [State.setLane, Quad.set_set]

/-- R64, R83: what the state of a lane reads. -/
theorem State.laneState_congr {s u : State} {l : LaneId} (hrole : (u.lane l).role = (s.lane l).role)
    (hlatches : (u.lane l).latches = (s.lane l).latches) (hpbl : u.pbl = s.pbl) (hrcc : u.rcc = s.rcc)
    (hae : u.ae = s.ae) : u.laneState l = s.laneState l := by
  simp only [State.laneState, hrole, hlatches, State.pendingPass_congr hpbl l, State.closedCondition,
    State.clockRunning, State.isWaiting, hrcc, hae]
  rfl

/-- R64, R83: no request waits at a lane in READY. -/
theorem State.waiting_of_ready {s : State} {l : LaneId} (h : s.laneState l = .ready) :
    s.ae.waiting.get l = none := by
  cases hr : (s.lane l).role with
  | off => simp [State.laneState_of_off hr] at h
  | gate =>
    rw [State.laneState_of_gate hr] at h
    refine Classical.byContradiction fun hwait => ?_
    rw [if_pos hwait] at h
    (repeat' split at h) <;> cases h
  | desk =>
    rw [State.laneState_of_desk hr] at h
    refine Classical.byContradiction fun hwait => ?_
    rw [if_pos hwait] at h
    (repeat' split at h) <;> cases h

theorem State.waiting_submit (s : State) (l : LaneId) (p : Nat) (k : RequestClass) :
    (s.submit l p k).ae = { s.ae with waiting := s.ae.waiting.set l (some { pass := p, kind := k }) } := rfl

/-- R64, R83: a request placed at a lane in READY takes it to WAITING. -/
theorem State.laneState_submit {s : State} {l : LaneId} (h : s.laneState l = .ready) (p : Nat) (k : RequestClass) :
    (s.submit l p k).laneState l = .waiting := by
  have hwaiting : (s.submit l p k).ae.waiting.get l ≠ none := by simp [State.waiting_submit]
  cases hr : (s.lane l).role with
  | off => simp [State.laneState_of_off hr] at h
  | gate =>
    have hsubmit := State.laneState_of_gate (s := s.submit l p k) (l := l) hr
    rw [State.laneState_of_gate hr] at h
    rw [if_pos hwaiting] at hsubmit
    split at h
    · cases h
    split at h
    · cases h
    split at h
    · cases h
    rename_i hlatch hpending hclosed
    exact hsubmit.trans ((if_neg hlatch).trans ((if_neg hpending).trans (if_neg hclosed)))
  | desk =>
    have hsubmit := State.laneState_of_desk (s := s.submit l p k) (l := l) hr
    rw [State.laneState_of_desk hr] at h
    rw [if_pos hwaiting] at hsubmit
    split at h
    · cases h
    rename_i hlatch
    exact hsubmit.trans (if_neg hlatch)

theorem State.isWaiting_submit (s : State) (l : LaneId) (p : Nat) (k : RequestClass) :
    (s.submit l p k).isWaiting l = true := by
  simp [State.isWaiting, State.waiting_submit]

theorem State.submit_keepsAllBut (s : State) (l : LaneId) (p : Nat) (k : RequestClass) :
    s.keepsAllBut (s.submit l p k) [.ae] := by
  rw [State.keepsAllBut_iff]
  simp

/-! ## LANE_CLEAR and LANE_INJECT -/

theorem exec_laneClear (tag lane : Byte) (s : State) : exec (.laneClear tag lane) s = handle (.laneClear tag lane) s := rfl

theorem exec_laneInject (tag lane : Byte) (pass : U32) (s : State) :
    exec (.laneInject tag lane pass) s = handle (.laneInject tag lane pass) s := rfl

/-- R82: the latches that stay set, condition by condition. -/
theorem Lane.latchesLeft_eq (x : Lane) :
    x.latchesLeft = { readerLost := x.latches.readerLost && x.lossPresent,
                      beamStuck := x.latches.beamStuck && (x.beamA || x.beamB),
                      armStuck := x.latches.armStuck && !x.armRest } := rfl

theorem LatchSet.eq_empty_of_any {f : LatchSet} (h : f.any = false) : f = LatchSet.empty := by
  obtain ⟨r, b, a⟩ := f
  simpa [LatchSet.any, LatchSet.empty, and_assoc] using h

/-- R82: the blocks after LANE_CLEAR of a lane. -/
theorem State.clearLane_spec (s : State) (tag : Byte) (l : LaneId) {left : LatchSet}
    (hleft : left = (s.lane l).latchesLeft) {u : State} (hu : u = s.clearLane tag l) :
    u.lanes = s.lanes.set l { s.lane l with latches := left } ∧
    s.keepsAllBut u [.lif, .lanes, .journal, .notices] ∧
    (left.any = true → s.repliesWith u .laneClear tag .conditionPresent (.latchedSet left) ∧
      u.journal = s.journal ∧ u.notices = s.notices) ∧
    (left.any = false → s.repliesWith u .laneClear tag .ok (.latchedSet LatchSet.empty) ∧
      ((s.lane l).latches.any = true → s.recorded u (.faultCleared l)) ∧
      ((s.lane l).latches.any = false → u.journal = s.journal ∧ u.notices = s.notices)) := by
  rw [State.clearLane, ← hleft] at hu
  have hframe := s.setLane_keepsAllBut l { s.lane l with latches := left }
  refine ⟨?_, ?_, fun hany => ?_, fun hnone => ?_⟩
  · rw [hu]
    split
    · simp
    · split <;> simp
  · rw [hu, State.keepsAllBut_iff]
    split
    · simp
    · split <;> simp
  · rw [hu, if_pos hany]
    exact ⟨(State.answer_spec .laneClear tag .conditionPresent _ (by simp) hframe).1, by simp, by simp⟩
  · rw [if_neg (by simp [hnone]), LatchSet.eq_empty_of_any hnone] at hu
    rw [hu]
    refine ⟨?_, fun hlatched => ?_, fun hlatched => ?_⟩
    · split <;> simp [State.repliesWith]
    · rw [if_pos hlatched]
      exact (State.recorded_of_rcc (t := s.setLane l { s.lane l with latches := LatchSet.empty })
        (.faultCleared l) rfl rfl rfl).answer _ _ _ _
    · simp [hlatched]

/-- R85, R184: a TEST request placed at a lane in READY takes a reserved place. -/
theorem State.reserved_submit_test {s : State} {l : LaneId} (h : s.laneState l = .ready) (p : Nat) (tag : Byte) :
    (s.submit l p (.test tag)).reserved = s.reserved + 1 := by
  have hset := State.reserved_of_set (s := s) (u := s.submit l p (.test tag)) (l := l)
    (w := some { pass := p, kind := .test tag }) rfl
  rw [State.waiting_of_ready h] at hset
  exact hset

/-- Settles O24: the latches cleared by their conditions, and the TEST request placed. -/
theorem laneClearAndInject : Obligations.LaneClearAndInject := by
  refine ⟨fun tag lane s htakes => ⟨s.laneClearRequest tag lane, asks_of_handle (exec_laneClear tag lane s) htakes,
      ?_, ?_⟩,
    fun tag lane pass s htakes => ⟨s.laneInjectRequest tag lane pass.toNat,
      asks_of_handle (exec_laneInject tag lane pass s) htakes, ?_, ?_⟩⟩
  · intro hlane
    rw [State.laneClearRequest, hlane]
    exact s.onlyAnswers_answerCode _ _ _
  · intro l left hlane hleft
    rw [← Lane.latchesLeft_eq] at hleft
    rw [State.laneClearRequest, hlane]
    exact s.clearLane_spec tag l hleft rfl
  · intro hbad
    rw [State.laneInjectRequest]
    cases hlane : fourOf lane with
    | none => exact s.onlyAnswers_answerCode _ _ _
    | some l =>
      simp only [if_pos (hbad.resolve_left (by simp [hlane]))]
      exact s.onlyAnswers_answerCode _ _ _
  · intro l hlane hpass
    rw [State.laneInjectRequest, hlane]
    simp only [if_neg (Bool.not_eq_false _ ▸ hpass)]
    constructor
    · intro hbusy
      rw [if_neg hbusy]
      exact s.onlyAnswers_answerCode _ _ _
    · intro hready
      rw [if_pos hready]
      exact ⟨s.waiting_submit _ _ _, State.laneState_submit hready _ _, State.reserved_submit_test hready _ _,
        s.submit_keepsAllBut _ _ _⟩

/-! ## Reader health (R62, R63) -/

theorem exec_pollOutcome (l : LaneId) (o : PollOutcome) (s : State) :
    exec (.pollOutcome l o) s = .next (s.pollOutcome l o).settled := rfl

theorem State.pollOutcome_of_off {s : State} {l : LaneId} (h : (s.lane l).role = .off) (o : PollOutcome) :
    s.pollOutcome l o = s := by
  simp [State.pollOutcome, h]

theorem State.pollOutcome_of_on {s : State} {l : LaneId} (h : (s.lane l).role ≠ .off) (o : PollOutcome) :
    s.pollOutcome l o = s.poll l o := by
  simp [State.pollOutcome, h]

/-- R63: a good outcome at a lane, field by field. -/
theorem State.pollHealthy_eq (s : State) (l : LaneId) :
    s.pollHealthy l = s.setLane l { s.lane l with
      silentCount := 0
      lossPresent := (s.lane l).lossPresent && (s.lane l).recoveryCount == 0
      recoveryCount := if (s.lane l).lossPresent
        then (if (s.lane l).recoveryCount = 0 then 1 else 0) else (s.lane l).recoveryCount } := by
  rw [State.pollHealthy, Lane.healthy_eq]

/-- R63: a SILENT outcome, below the threshold and from it on. -/
theorem State.pollSilent_eq {s : State} {l : LaneId} {n : Nat} (hn : n = min 64 ((s.lane l).silentCount + 1)) :
    s.pollSilent l =
      if s.rcc.site.readerLoss ≤ n then
        (s.setLane l { s.lane l with silentCount := n, recoveryCount := 0, lossPresent := true }).latchFault l .readerLost
      else s.setLane l { s.lane l with silentCount := n, recoveryCount := 0 } := by
  simp only [State.pollSilent, State.lane_setLane_self, State.setLane_setLane, State.setLane_rcc, Lane.silent, ← hn]

/-- Settles O25: the OFF lane, the good outcome, and the SILENT one. -/
theorem pollOutcomeReaderHealth : Obligations.PollOutcomeReaderHealth := by
  intro l s
  refine ⟨fun o hoff => ?_, fun hon => ?_, fun n hon hn => ⟨fun hbelow => ?_, fun hreached => ?_⟩⟩
  · rw [ends, exec_pollOutcome, State.pollOutcome_of_off hoff]
  · rw [ends, exec_pollOutcome, State.pollOutcome_of_on hon, ← State.pollHealthy_eq]
    rfl
  · have hsilent := State.pollSilent_eq hn
    rw [if_neg (Nat.not_le.mpr hbelow)] at hsilent
    rw [ends, exec_pollOutcome, State.pollOutcome_of_on hon, ← hsilent]
    rfl
  · have hsilent := State.pollSilent_eq hn
    rw [if_pos hreached] at hsilent
    rw [ends, exec_pollOutcome, State.pollOutcome_of_on hon, ← hsilent]
    rfl

/-! ## Reads (R62, R66, R67, R68, R83) -/

/-- R62: an illegal pass number reads as none. -/
theorem readPass_eq (n : Nat) : readPass n = if 1 ≤ n ∧ n ≤ 4294967294 then some n else none := by
  simp only [readPass, legalPass_eq_true_iff]

/-- R62: a read counts for reader health first. -/
theorem State.pollOutcome_of_read {s : State} {l : LaneId} {o : PollOutcome} {pass : Option Nat}
    (ho : (o = .badRead ∧ pass = none) ∨ ∃ n : U32, o = .read n ∧
      pass = if 1 ≤ n.toNat ∧ n.toNat ≤ 4294967294 then some n.toNat else none)
    (hon : (s.lane l).role ≠ .off) : s.pollOutcome l o = (s.pollHealthy l).read l pass := by
  rw [State.pollOutcome_of_on hon]
  obtain ⟨rfl, rfl⟩ | ⟨n, rfl, rfl⟩ := ho
  · rfl
  · rw [← readPass_eq]
    rfl

theorem State.discardRead_eq (h : State) (l : LaneId) :
    h.discardRead l = h.setLane l { h.lane l with pattern :=
      if (h.lane l).buzzerOverride = .auto ∧ (h.lane l).pattern ≠ .alarm then .chirp else (h.lane l).pattern } := by
  rw [State.discardRead, Lane.soundShort_eq]

/-- R66: a read at a GATE lane that is not in FAULT, case by case. -/
theorem State.gateRead_spec {h : State} {l : LaneId} (hfault : h.laneState l ≠ .fault) (pass : Option Nat) :
    ((h.lane l).armOverride = .lock → h.gateRead l pass = h.refuse l .laneLocked pass) ∧
    ((h.lane l).armOverride ≠ .lock →
      (h.laneState l = .closed → h.gateRead l pass = h.refuse l h.closedCause pass) ∧
      (h.laneState l = .waiting ∨ h.laneState l = .unlocked → h.gateRead l pass = h.discardRead l) ∧
      (h.laneState l = .ready → h.gateRead l pass = h.readyRead l .gate pass)) := by
  refine ⟨fun hlock => ?_, fun hlock => ⟨fun hs => ?_, fun hs => ?_, fun hs => ?_⟩⟩
  · rw [State.gateRead, if_neg hfault, if_pos hlock]
  · rw [State.gateRead, if_neg hfault, if_neg hlock, hs]
  · obtain hs | hs := hs <;> rw [State.gateRead, if_neg hfault, if_neg hlock, hs]
  · rw [State.gateRead, if_neg hfault, if_neg hlock, hs]

/-- R83: a read at a DESK lane that is not in FAULT, case by case. -/
theorem State.deskRead_spec {h : State} {l : LaneId} (hfault : h.laneState l ≠ .fault) (pass : Option Nat) :
    (h.clockRunning = false → h.deskRead l pass = h.refuse l .noClock pass) ∧
    (h.clockRunning = true →
      (h.laneState l = .waiting → h.deskRead l pass = h.discardRead l) ∧
      (h.laneState l = .ready → h.deskRead l pass = h.readyRead l .desk pass)) := by
  refine ⟨fun hstopped => ?_, fun hrunning => ⟨fun hs => ?_, fun hs => ?_⟩⟩
  · rw [State.deskRead, if_neg hfault, if_pos hstopped]
  · rw [State.deskRead, if_neg hfault, if_neg (by simp [hrunning]), if_neg (by simp [hs])]
  · rw [State.deskRead, if_neg hfault, if_neg (by simp [hrunning]), if_pos hs]

/-- R66, R67, R83: a READ in READY is submitted, a BAD_READ refused. -/
theorem State.readyRead_spec {h : State} {l : LaneId} {k : RequestClass} {pass : Option Nat} {u : State}
    (hu : u = h.readyRead l k pass) :
    (pass = none → u = h.refuse l .unreadable none) ∧
    (∀ p, pass = some p → u.isWaiting l = true ∧
      u.ae = { h.ae with waiting := h.ae.waiting.set l (some { pass := p, kind := k }) } ∧ h.keepsAllBut u [.ae]) := by
  subst hu
  constructor
  · rintro rfl
    rfl
  · rintro p rfl
    exact ⟨h.isWaiting_submit l p k, h.waiting_submit l p k, h.submit_keepsAllBut l p k⟩

/-- Settles O26: the read at the lane whose reader health has been counted, by the first case that applies. -/
theorem readsRefusedDiscardedOrSubmitted : Obligations.ReadsRefusedDiscardedOrSubmitted := by
  intro l o pass s ho hon
  rw [← State.pollHealthy_eq]
  have hend : ends (.pollOutcome l o) s ((s.pollHealthy l).read l pass) := by
    rw [ends, exec_pollOutcome, State.pollOutcome_of_read ho hon]
  have heq := s.pollHealthy_eq l
  generalize s.pollHealthy l = h at hend heq
  have hframe : s.keepsAllBut h [.lanes] := by
    rw [heq]
    exact s.setLane_keepsAllBut _ _
  have hlane : (h.lane l).role = (s.lane l).role ∧ (h.lane l).latches = (s.lane l).latches ∧
      (h.lane l).armOverride = (s.lane l).armOverride ∧ (h.lane l).buzzerOverride = (s.lane l).buzzerOverride ∧
      (h.lane l).pattern = (s.lane l).pattern := by
    rw [heq, State.lane_setLane_self]
    exact ⟨rfl, rfl, rfl, rfl, rfl⟩
  obtain ⟨hrole, hlatches, harm, hbuzzer, hpattern⟩ := hlane
  have hrcc : h.rcc = s.rcc := hframe .rcc (by simp)
  have hae : h.ae = s.ae := hframe .ae (by simp)
  have hstate : h.laneState l = s.laneState l := State.laneState_congr hrole hlatches (hframe .pbl (by simp)) hrcc hae
  have hrunning : h.clockRunning = s.clockRunning := by rw [State.clockRunning, State.clockRunning, hrcc]
  have hcause : h.closedCause =
      if s.rcc.mode = .setup then .setupMode else if s.rcc.lift = .closed then .liftClosed else .noClock := by
    rw [State.closedCause, hrcc]
  have hdiscard : h.discardRead l = h.setLane l { h.lane l with pattern :=
      if (s.lane l).buzzerOverride = .auto ∧ (s.lane l).pattern ≠ .alarm then .chirp else (s.lane l).pattern } := by
    rw [State.discardRead_eq, hbuzzer, hpattern]
  have hread : h.read l pass = match (s.lane l).role with
      | .gate => h.gateRead l pass | .desk => h.deskRead l pass | .off => h := by
    rw [State.read, hrole] <;> rfl
  refine ⟨h, h.read l pass, rfl, hend, fun hfault => ?_, fun hgate hfault => ?_, fun hdesk hfault => ?_⟩
  · rw [hread]
    cases hr : (s.lane l).role with
    | off => exact absurd hr hon
    | gate => exact if_pos (hstate.trans hfault)
    | desk => exact if_pos (hstate.trans hfault)
  · rw [hread, hgate]
    obtain ⟨hlocked, hopen⟩ := State.gateRead_spec (h := h) (l := l) (by rw [hstate]; exact hfault) pass
    rw [harm, hcause, hstate, hdiscard] at *
    refine ⟨hlocked, fun hlock => ?_⟩
    obtain ⟨hclosed, hbusy, hready⟩ := hopen hlock
    refine ⟨hclosed, hbusy, fun hs => ?_⟩
    have hspec := State.readyRead_spec (hready hs)
    rw [hae] at hspec
    exact hspec
  · rw [hread, hdesk]
    obtain ⟨hstopped, hopen⟩ := State.deskRead_spec (h := h) (l := l) (by rw [hstate]; exact hfault) pass
    rw [hrunning, hstate, hdiscard] at *
    refine ⟨hstopped, fun hrun => ?_⟩
    obtain ⟨hbusy, hready⟩ := hopen hrun
    refine ⟨hbusy, fun hs => ?_⟩
    have hspec := State.readyRead_spec (hready hs)
    rw [hae] at hspec
    exact hspec

end Sys2Proof.Machine
end

section
/-!
PROOFS. The refusal (R69), the fault latch (R81) and the timers of a lane (R79, R80).
-/

namespace Sys2Proof.Machine

/-! ## The refusal (R69) -/

/-- A count more in place `i`, place by place. -/
theorem bumpAt_getElem? {n : Nat} (v : Vector Nat n) (i k : Nat) :
    (bumpAt v i)[k]? = if k = i then (v[k]?).map bump else v[k]? := by
  rw [bumpAt, Vector.getElem?_setIfInBounds]
  by_cases hk : k = i
  · subst hk
    by_cases hn : k < n <;> simp [hn]
  · simp [hk, Ne.symm hk]

/-- R69, R79: the display and the buzzer of the lane refused. -/
theorem State.refuse_lanes (s : State) (l : LaneId) (cause : RefusalCause) (pass : Option Nat) :
    (s.refuse l cause pass).lanes = s.lanes.set l { s.lane l with
      display := if s.laneState l = .fault then (s.lane l).display else some .refusal
      pattern := if (s.lane l).buzzerOverride = .auto ∧ (s.lane l).pattern ≠ .alarm then .doubleTone
        else (s.lane l).pattern } := by
  simp only [State.refuse, State.countLane_frame, State.writeRecord_frame, State.setLane_lanes, Lane.soundShort_eq,
    State.startDisplay]
  split
  · rfl
  · rw [State.lane_setLane_self, State.setLane_lanes, Quad.set_set]

theorem State.refuse_tally (s : State) (l : LaneId) (cause : RefusalCause) (pass : Option Nat) :
    (s.refuse l cause pass).tally = s.tallyWith l ((s.counters l).addRefusal cause) := by
  simp [State.refuse, State.tallyWith, State.counters]

/-- Settles O27: the record, the count, the display and the buzzer of a refusal. -/
theorem refusalEffects : Obligations.RefusalEffects := by
  rintro s u l cause pass rfl
  have htally := s.refuse_tally l cause pass
  have hcounters : (s.refuse l cause pass).counters l = (s.counters l).addRefusal cause := by
    rw [State.counters, htally, State.tallyWith, Quad.get_set_self]
  refine ⟨?_, ?_, fun k => ?_, s.refuse_lanes l cause pass, ?_⟩
  · have hrecorded := State.recorded_of_rcc (s := s)
      (t := (s.startDisplay l .refusal).setLane l (((s.startDisplay l .refusal).lane l).soundShort .doubleTone))
      (.refusal l cause pass) (State.stamp_congr (by simp)) (by simp) (by simp)
    obtain ⟨hj, hn⟩ := hrecorded
    exact ⟨by simpa only [State.refuse, State.countLane_frame] using hj,
      by simpa only [State.refuse, State.countLane_frame] using hn⟩
  · rw [hcounters, htally]
    rfl
  · rw [hcounters]
    exact bumpAt_getElem? _ _ _
  · rw [State.keepsAllBut_iff]
    simp

/-! ## The fault latch (R81) -/

theorem State.latchFault_of_set {s : State} {l : LaneId} {f : FaultLatch} (h : (s.lane l).latches.has f = true) :
    s.latchFault l f = s := by
  simp [State.latchFault, h]

/-- R81, step 1: the latch set and the FAULT record written. -/
def State.faulted (s : State) (l : LaneId) (f : FaultLatch) : State :=
  (s.setLane l ((s.lane l).latch f)).writeRecord (.fault l ((s.lane l).latches.add f))

theorem State.latchFault_eq {s : State} {l : LaneId} {f : FaultLatch} (h : (s.lane l).latches.has f = false) :
    s.latchFault l f =
      (if (s.lane l).latches.any then s.faulted l f else (s.faulted l f).enterFault l).raise (.laneFault l) := by
  simp [State.latchFault, h, State.faulted, Lane.latch]

/-- R81, step 1, block by block. -/
theorem State.faulted_spec (s : State) (l : LaneId) (f : FaultLatch) {t : State} (ht : t = s.faulted l f) :
    t.lanes = s.lanes.set l ((s.lane l).latch f) ∧ s.recorded t (.fault l ((s.lane l).latches.add f)) ∧
    s.keepsAllBut t [.lanes, .journal, .notices] := by
  subst ht
  refine ⟨by simp [State.faulted], State.recorded_of_rcc _ rfl rfl rfl, ?_⟩
  rw [State.keepsAllBut_iff]
  simp [State.faulted]

/-- R81, steps 2 and 3: the display ended, the admission lapsed, the request withdrawn. -/
theorem State.enterFault_spec (t : State) (l : LaneId) {u : State} (hu : u = t.enterFault l) :
    u.lanes = t.lanes.set l { t.lane l with
      display := none
      unlockTimer := if (t.pendingPass l).isSome then none else (t.lane l).unlockTimer } ∧
    u.pendingPass l = none ∧ u.ae = { t.ae with waiting := t.ae.waiting.set l none } ∧
    u.lif = { t.lif with replies := t.lif.replies ++ t.busyReplies l } ∧
    (∀ p, t.pendingPass l = some p → u.passes = updateIn p (fun e => { e with marker := none }) t.passes ∧
      u.pbl = { t.pbl with entries := t.pbl.entries.filter fun y => !(y.phase == .pending l) } ∧
      u.tally = t.tallyWith l (t.lapsedCounters l)) ∧
    (t.pendingPass l = none → u.passes = t.passes ∧ u.pbl = t.pbl ∧ u.tally = t.tally) ∧
    t.keepsAllBut u [.lif, .passes, .lanes, .ae, .pbl, .tally, .journal, .notices] := by
  have hframe : t.keepsAllBut u [.lif, .passes, .lanes, .ae, .pbl, .tally, .journal, .notices] := by
    rw [hu, State.keepsAllBut_iff]
    simp
  rw [State.enterFault] at hu
  generalize hd : t.setLane l { t.lane l with display := none } = d at hu
  have hframed : t.keepsAllBut d [.lanes] := by
    rw [← hd]
    exact t.setLane_keepsAllBut _ _
  have hpendingd : d.pendingPass l = t.pendingPass l := State.pendingPass_congr (hframed .pbl (by simp)) l
  have hlanesd : d.lanes = t.lanes.set l { t.lane l with display := none } := by simp [← hd]
  have hlaned : d.lane l = { t.lane l with display := none } := by rw [State.lane, hlanesd, Quad.get_set_self]
  generalize hw : d.lapse l .fault = w at hu
  have hframeu : w.keepsAllBut u [.lif, .ae] := by
    rw [hu]
    exact w.withdraw_keepsAllBut l
  have haew : w.ae = t.ae := by
    rw [← hw, State.lapse_frame _ _ _ |>.2.2.2.2.1, hframed .ae (by simp)]
  have hlifw : w.lif = t.lif := by
    rw [← hw, State.lapse_frame _ _ _ |>.1, hframed .lif (by simp)]
  have hbusy : w.busyReplies l = t.busyReplies l := State.busyReplies_congr (by rw [haew])
  obtain ⟨hae, hlif⟩ := w.withdraw_spec l
  rw [← hu] at hae hlif
  have hnone : w.pendingPass l = none := by rw [← hw, State.pendingPass_lapse, if_pos rfl]
  refine ⟨?_, (State.pendingPass_congr (hframeu .pbl (by simp)) l).trans hnone, by rw [hae, haew],
    by rw [hlif, hlifw, hbusy], fun p hp => ?_, fun hp => ?_, hframe⟩
  · rw [hframeu .lanes (by simp), ← hw]
    cases hp : t.pendingPass l with
    | none =>
      rw [State.lapse_of_none (hpendingd.trans hp), hlanesd]
      rfl
    | some p =>
      rw [(State.lapse_of_some (hpendingd.trans hp) .fault).2.2.2.2.2, hlanesd, Quad.set_set, hlaned]
      rfl
  · obtain ⟨hpasses, hpbl, htally, -⟩ := State.lapse_of_some (hpendingd.trans hp) .fault
    rw [hw] at hpasses hpbl htally
    refine ⟨?_, ?_, ?_⟩
    · rw [hframeu .passes (by simp), hpasses, hframed .passes (by simp)]
    · rw [hframeu .pbl (by simp), hpbl, hframed .pbl (by simp)]
    · rw [hframeu .tally (by simp), htally, State.tallyWith, State.tallyWith, State.lapsedCounters, hp,
        hframed .tally (by simp), State.counters_congr (hframed .tally (by simp))]
      rfl
  · have hsame : w = d := by rw [← hw, State.lapse_of_none (hpendingd.trans hp)]
    rw [hsame] at hframeu
    exact ⟨(hframeu .passes (by simp)).trans (hframed .passes (by simp)),
      (hframeu .pbl (by simp)).trans (hframed .pbl (by simp)), (hframeu .tally (by simp)).trans (hframed .tally (by simp))⟩

/-- R173: setting a latch leaves the mask. -/
theorem State.mask_writeRecord (s : State) (b : RecordBody) : (s.writeRecord b).notices.mask = s.notices.mask := by
  rw [State.writeRecord_notices]
  split <;> simp

theorem State.mask_lapse (s : State) (l : LaneId) (r : LapseReason) : (s.lapse l r).notices.mask = s.notices.mask :=
  (s.lapse_wrote l r).mask_eq

theorem State.mask_enterFault (s : State) (l : LaneId) : (s.enterFault l).notices.mask = s.notices.mask := by
  simp [State.enterFault, State.mask_lapse]

theorem State.mask_latchFault (s : State) (l : LaneId) (f : FaultLatch) :
    (s.latchFault l f).notices.mask = s.notices.mask := by
  cases h : (s.lane l).latches.has f with
  | true => rw [State.latchFault_of_set h]
  | false =>
    rw [State.latchFault_eq h, State.raise_notices, NoticeLatch.raise_mask]
    split
    · simp [State.faulted, State.mask_writeRecord]
    · simp [State.mask_enterFault, State.faulted, State.mask_writeRecord]

/-- R103: the entries found after the marker of one pass has been ended. -/
theorem State.findPass_of_unmarked {s u : State} {p : Nat}
    (h : u.passes = updateIn p (fun e => { e with marker := none }) s.passes) :
    u.findPass p = (s.findPass p).map (fun e => { e with marker := none }) ∧
    ∀ q, q ≠ p → u.findPass q = s.findPass q := by
  have hfind := fun q => s.findPass_updatePass p q (fun e => { e with marker := none }) fun _ => rfl
  have hsame := fun q => State.findPass_congr (s := s.updatePass p fun e => { e with marker := none }) (u := u) h q
  refine ⟨?_, fun q hq => ?_⟩
  · rw [hsame, hfind, if_pos rfl]
  · rw [hsame, hfind, if_neg hq]

/-- R81: a latch set at a lane already in FAULT. -/
theorem State.latchFault_in_fault {s u : State} {l : LaneId} {f : FaultLatch} (hu : u = s.latchFault l f)
    (h : (s.lane l).latches.has f = false) (hany : (s.lane l).latches.any = true) :
    u.lanes = s.lanes.set l ((s.lane l).latch f) ∧ s.keepsAllBut u [.lanes, .journal, .notices] := by
  rw [State.latchFault_eq h, if_pos hany] at hu
  obtain ⟨hlanes, -, hframe⟩ := s.faulted_spec l f rfl
  have hraise : (s.faulted l f).keepsAllBut u [.notices] := by
    rw [hu, State.keepsAllBut_iff]
    simp
  exact ⟨(hraise .lanes (by simp)).trans hlanes,
    State.keepsAllBut_trans hframe (State.keepsAllBut_mono hraise (by simp))⟩

/-- R81: a latch set at a lane not yet in FAULT. -/
theorem State.latchFault_enters {s u : State} {l : LaneId} {f : FaultLatch} (hu : u = s.latchFault l f)
    (h : (s.lane l).latches.has f = false) (hany : (s.lane l).latches.any = false) :
    u.lanes = s.lanes.set l { (s.lane l).latch f with
      display := none
      unlockTimer := if (s.pendingPass l).isSome then none else (s.lane l).unlockTimer } ∧
    u.pendingPass l = none ∧ u.ae = { s.ae with waiting := s.ae.waiting.set l none } ∧
    u.lif = { s.lif with replies := s.lif.replies ++ s.busyReplies l } ∧
    (∀ p, s.pendingPass l = some p → u.passes = updateIn p (fun e => { e with marker := none }) s.passes ∧
      u.pbl = { s.pbl with entries := s.pbl.entries.filter fun y => !(y.phase == .pending l) } ∧
      u.tally = s.tallyWith l (s.lapsedCounters l)) ∧
    (s.pendingPass l = none → u.passes = s.passes ∧ u.pbl = s.pbl ∧ u.tally = s.tally) ∧
    s.keepsAllBut u [.lif, .passes, .lanes, .ae, .pbl, .tally, .journal, .notices] := by
  rw [State.latchFault_eq h, if_neg (by simp [hany])] at hu
  generalize ht : s.faulted l f = t at hu
  obtain ⟨hlanest, -, hframet⟩ := s.faulted_spec l f ht.symm
  have hlanet : t.lane l = (s.lane l).latch f := by rw [State.lane, hlanest, Quad.get_set_self]
  have hpending : t.pendingPass l = s.pendingPass l := State.pendingPass_congr (hframet .pbl (by simp)) l
  have haet : t.ae = s.ae := hframet .ae (by simp)
  have hcounters : t.lapsedCounters l = s.lapsedCounters l := by
    rw [State.lapsedCounters, State.lapsedCounters, hpending, State.counters_congr (hframet .tally (by simp))]
  generalize hv : t.enterFault l = v at hu
  obtain ⟨hlanes, hnone, hae, hlif, hlapsed, hkept, hframev⟩ := t.enterFault_spec l hv.symm
  have hraise : v.keepsAllBut u [.notices] := by
    rw [hu, State.keepsAllBut_iff]
    simp
  refine ⟨?_, (State.pendingPass_congr (hraise .pbl (by simp)) l).trans hnone, ?_, ?_, fun p hp => ?_, fun hp => ?_, ?_⟩
  · rw [hraise .lanes (by simp), hlanes, hlanest, hlanet, hpending, Quad.set_set]
    rfl
  · rw [hraise .ae (by simp), hae, haet]
  · have hbusy : t.busyReplies l = s.busyReplies l := State.busyReplies_congr (by rw [haet])
    rw [hraise .lif (by simp), hlif, hframet .lif (by simp), hbusy]
  · obtain ⟨hpasses, hpbl, htally⟩ := hlapsed p (hpending.trans hp)
    refine ⟨?_, ?_, ?_⟩
    · rw [hraise .passes (by simp), hpasses, hframet .passes (by simp)]
    · rw [hraise .pbl (by simp), hpbl, hframet .pbl (by simp)]
    · rw [hraise .tally (by simp), htally, hcounters, State.tallyWith, hframet .tally (by simp)]
      rfl
  · obtain ⟨hpasses, hpbl, htally⟩ := hkept (hpending.trans hp)
    exact ⟨((hraise .passes (by simp)).trans hpasses).trans (hframet .passes (by simp)),
      ((hraise .pbl (by simp)).trans hpbl).trans (hframet .pbl (by simp)),
      ((hraise .tally (by simp)).trans htally).trans (hframet .tally (by simp))⟩
  · exact State.keepsAllBut_trans (State.keepsAllBut_mono hframet (by simp))
      (State.keepsAllBut_trans hframev (State.keepsAllBut_mono hraise (by simp)))

/-- R81: LANE_FAULT is raised last. -/
theorem State.laneFault_mem {s : State} {l : LaneId} {f : FaultLatch} (h : (s.lane l).latches.has f = false) :
    PendingNotice.laneFault l ∈ (s.latchFault l f).notices.pending := by
  rw [State.latchFault_eq h, State.raise_notices]
  exact NoticeLatch.key_mem_raise _ _

/-- Settles O28: the latch already set, the lane already in FAULT, and the lane that enters it. -/
theorem faultLatchEffects : Obligations.FaultLatchEffects := by
  intro s u l f hu
  refine ⟨fun hset => by rw [hu, State.latchFault_of_set hset], ?_⟩
  rintro _ hclear rfl
  refine ⟨by rw [hu]; exact State.laneFault_mem hclear, by rw [hu, State.mask_latchFault], fun hany => ?_, fun hany => ?_⟩
  · obtain ⟨hlanes, hframe⟩ := State.latchFault_in_fault hu hclear hany
    obtain ⟨hj, hn⟩ := State.latchFault_of_no_lapse hclear (.inl hany)
    rw [← hu] at hj hn
    exact ⟨hlanes, hj, hn, hframe⟩
  · obtain ⟨hlanes, hnone, hae, hlif, hlapsed, hkept, hframe⟩ := State.latchFault_enters hu hclear hany
    refine ⟨hlanes, hnone, hae, hlif, fun p hp => ?_, fun hp => ?_, hframe⟩
    · obtain ⟨hj, hn⟩ := State.latchFault_of_lapse hclear hany hp
      rw [← hu] at hj hn
      obtain ⟨hpasses, hpbl, htally⟩ := hlapsed p hp
      obtain ⟨hfound, hothers⟩ := State.findPass_of_unmarked hpasses
      have hleft : s.pbl.entries.filter (fun y => !(y.phase == .pending l)) =
          s.pbl.entries.filter fun y => y.phase ≠ .pending l :=
        List.filter_congr fun y _ => by rw [Bool.eq_iff_iff]; simp
      rw [hleft] at hpbl
      exact ⟨hj, hn, hfound, hothers, hpbl, htally⟩
    · obtain ⟨hj, hn⟩ := State.latchFault_of_no_lapse hclear (.inr hp)
      rw [← hu] at hj hn
      exact ⟨hj, hn, hkept hp⟩

/-! ## The timers of a lane (R79, R80) -/

/-- Settles O29: each event on the lane it names. -/
theorem laneTimersAndArmRest : Obligations.LaneTimersAndArmRest := by
  intro l s
  have hbeam : ∀ beam, exec (.beamStuckTimerExpiry l beam) s = .next (s.beamStuckExpiry l beam).settled := fun _ => rfl
  have harm : exec (.armStuckTimerExpiry l) s = .next (s.armStuckExpiry l).settled := rfl
  have hrest : ∀ present, exec (.armRestChange l present) s = .next (s.armRestChange l present).settled := fun _ => rfl
  have halarm : exec (.alarmTimerExpiry l) s = .next (s.alarmExpiry l).settled := rfl
  have hshort : exec (.buzzerPatternEnd l) s = .next (s.setLane l (s.lane l).endShort).settled := rfl
  refine ⟨fun present hsame => ?_, fun present hother => ?_, fun hstopped => ?_, fun d hd => ?_, fun hstopped => ?_,
    fun d hd => ?_, fun hstopped => ?_, fun d hd => ?_, rfl, fun hstopped => ?_, fun hruns => ?_, ?_⟩
  · rw [ends, hrest, State.armRestChange, if_pos hsame]
  · rw [ends, hrest, State.armRestChange, if_neg hother]
    rfl
  · rw [ends, harm, State.armStuckExpiry, hstopped]
  · rw [ends, harm, State.armStuckExpiry, hd]
  · rw [ends, hbeam, State.beamStuckExpiry, Lane.beamTimer, hstopped]
  · rw [ends, hbeam, State.beamStuckExpiry, Lane.beamTimer, hd]
    rfl
  · rw [ends, hbeam, State.beamStuckExpiry, Lane.beamTimer, hstopped]
  · rw [ends, hbeam, State.beamStuckExpiry, Lane.beamTimer, hd]
    rfl
  · rw [ends, halarm, State.alarmExpiry, if_neg (by simp [hstopped])]
  · rw [ends, halarm, State.alarmExpiry, if_pos hruns]
    rfl
  · have hend : (s.lane l).endShort =
        { s.lane l with pattern := if (s.lane l).pattern = .alarm then .alarm else .silence } := by
      unfold Lane.endShort
      split
      · rename_i halarm
        rw [← halarm]
      · rfl
    rw [ends, hshort, hend]

end Sys2Proof.Machine
end

section
/-!
PROOFS. The thirteen checks (R92 to R96) and the grant (R89).
-/

namespace Sys2Proof.Machine

/-! ## The decision (R92) -/

theorem State.decisionOn_of_partCause {s : State} {c : RefusalCause} (h : s.partCause = some c) (pass : Nat) :
    s.decisionOn pass = .refusedWith c := by
  simp [State.decisionOn, h]

theorem State.decisionOn_of_passCause {s : State} {pass : Nat} {c : RefusalCause} (hpart : s.partCause = none)
    (h : s.passCause pass = some c) : s.decisionOn pass = .refusedWith c := by
  simp [State.decisionOn, hpart, h]

theorem State.decisionOn_eq_admitted_iff (s : State) (pass : Nat) :
    s.decisionOn pass = .admitted ↔ s.partCause = none ∧ s.passCause pass = none := by
  cases hpart : s.partCause with
  | some c => simp [State.decisionOn, hpart]
  | none => cases hpass : s.passCause pass <;> simp [State.decisionOn, hpart, hpass]

/-- R93: checks 1 to 3 pass. -/
theorem State.partCause_eq_none_iff (s : State) :
    s.partCause = none ↔ s.rcc.clock.state = .running ∧ s.rcc.mode = .run ∧ s.rcc.lift = .isOpen := by
  rw [State.partCause, ← State.clockRunning_eq_true_iff]
  cases s.clockRunning <;> cases s.rcc.mode <;> cases s.rcc.lift <;> simp

theorem statusCause_eq_none_iff (st : PassStatus) : statusCause st = none ↔ st = .active := by
  cases st <;> simp [statusCause]

theorem Product.isOpenAt_eq_false_iff (p : Product) (minute : Nat) :
    p.isOpenAt minute = false ↔ minute < p.openMinute ∨ p.closeMinute ≤ minute := by
  simp only [Product.isOpenAt, Bool.and_eq_false_iff, decide_eq_false_iff_not]
  omega

theorem State.inPassback_eq_false_iff (s : State) (pass : Nat) :
    s.inPassback pass = false ↔ ∀ x ∈ s.pbl.entries, x.pass ≠ pass := by
  simp [State.inPassback]

/-- R95: check 11 passes. -/
theorem PassEntry.dayAllowed_eq_true_iff (e : PassEntry) (p : Product) (offset : Nat) :
    e.dayAllowed p offset = true ↔ ∀ n, p.kind = .days n → offset ∈ e.daysUsed ∨ e.daysUsed.length < n := by
  unfold PassEntry.dayAllowed
  cases p.kind <;> simp

/-- R94 to R96: checks 6 to 13 pass. -/
theorem State.entryCause_eq_none_iff (s : State) (e : PassEntry) (p : Product) :
    s.entryCause e p = none ↔ e.status = .active ∧ p.liftMask.getLsbD s.rcc.site.liftNumber = true ∧
      p.isOpenAt s.wallMinute = true ∧ e.start ≤ s.today ∧ s.today ≤ e.start + p.window - 1 ∧
      e.dayAllowed p (s.today - e.start) = true ∧ e.marker = none ∧ s.inPassback e.pass = false := by
  rw [← statusCause_eq_none_iff]
  unfold State.entryCause
  cases hstatus : statusCause e.status with
  | some c => simp
  | none =>
    simp only [true_and]
    (repeat' split) <;> simp_all [Option.isSome_iff_ne_none, Nat.not_le_of_lt]

theorem State.passCause_of_entry {s : State} {pass : Nat} {e : PassEntry} {p : Product} (he : s.findPass pass = some e)
    (hp : s.product? e.product = some p) : s.passCause pass = s.entryCause e p := by
  simp [State.passCause, he, hp]

theorem State.passCause_eq_none_iff (s : State) (pass : Nat) :
    s.passCause pass = none ↔
      ∃ e p, s.findPass pass = some e ∧ s.product? e.product = some p ∧ s.entryCause e p = none := by
  cases he : s.findPass pass with
  | none => simp [State.passCause, he]
  | some e => cases hp : s.product? e.product <;> simp [State.passCause, he, hp]

/-- The admitted half: all thirteen checks pass. -/
theorem State.admitted_iff_checks (s : State) (pass : Nat) : s.decisionOn pass = .admitted ↔
    s.rcc.clock.state = .running ∧ s.rcc.mode = .run ∧ s.rcc.lift = .isOpen ∧
    ∃ e p, s.findPass pass = some e ∧ s.product? e.product = some p ∧ e.status = .active ∧
      p.liftMask.getLsbD s.rcc.site.liftNumber = true ∧
      p.openMinute ≤ s.wallMinute ∧ s.wallMinute < p.closeMinute ∧
      e.start ≤ s.today ∧ s.today ≤ e.start + p.window - 1 ∧
      (∀ n, p.kind = .days n → s.today - e.start ∈ e.daysUsed ∨ e.daysUsed.length < n) ∧
      e.marker = none ∧ ∀ x ∈ s.pbl.entries, x.pass ≠ pass := by
  rw [State.decisionOn_eq_admitted_iff, State.partCause_eq_none_iff, State.passCause_eq_none_iff]
  have hentry : ∀ e p, s.findPass pass = some e → (s.entryCause e p = none ↔ e.status = .active ∧
      p.liftMask.getLsbD s.rcc.site.liftNumber = true ∧
      p.openMinute ≤ s.wallMinute ∧ s.wallMinute < p.closeMinute ∧
      e.start ≤ s.today ∧ s.today ≤ e.start + p.window - 1 ∧
      (∀ n, p.kind = .days n → s.today - e.start ∈ e.daysUsed ∨ e.daysUsed.length < n) ∧
      e.marker = none ∧ ∀ x ∈ s.pbl.entries, x.pass ≠ pass) := by
    intro e p he
    rw [State.entryCause_eq_none_iff, PassEntry.dayAllowed_eq_true_iff, State.inPassback_eq_false_iff,
      State.pass_of_findPass he, Product.isOpenAt, Bool.and_eq_true, decide_eq_true_eq, decide_eq_true_eq]
    simp only [and_assoc]
  constructor
  · rintro ⟨⟨hclock, hmode, hlift⟩, e, p, he, hp, hcause⟩
    exact ⟨hclock, hmode, hlift, e, p, he, hp, (hentry e p he).mp hcause⟩
  · rintro ⟨hclock, hmode, hlift, e, p, he, hp, hchecks⟩
    exact ⟨⟨hclock, hmode, hlift⟩, e, p, he, hp, (hentry e p he).mpr hchecks⟩

/-- Settles O30: the first check that fails names the cause. -/
theorem decisionByThirteenChecks : Obligations.DecisionByThirteenChecks := by
  refine ⟨State.admitted_iff_checks, fun s pass => ⟨fun hclock => ?_, fun hclock => ?_⟩⟩
  · have hstopped : s.clockRunning = false := by
      rw [← Bool.not_eq_true, State.clockRunning_eq_true_iff]
      exact hclock
    exact State.decisionOn_of_partCause (by simp [State.partCause, hstopped]) pass
  have hruns := s.clockRunning_eq_true_iff.mpr hclock
  refine ⟨fun hmode => ?_, fun hmode => ⟨fun hlift => ?_, fun hlift => ?_, fun hlift => ?_⟩⟩
  · exact State.decisionOn_of_partCause (by simp [State.partCause, hruns, hmode]) pass
  · exact State.decisionOn_of_partCause (by simp [State.partCause, hruns, hmode, hlift]) pass
  · exact State.decisionOn_of_partCause (by simp [State.partCause, hruns, hmode, hlift]) pass
  have hpart : s.partCause = none := s.partCause_eq_none_iff.mpr ⟨hclock, hmode, hlift⟩
  refine ⟨fun hfind => ?_, fun e he => ⟨fun hproduct => ?_, fun p hp => ?_⟩⟩
  · exact State.decisionOn_of_passCause hpart (by simp [State.passCause, hfind])
  · exact State.decisionOn_of_passCause hpart (by simp [State.passCause, he, hproduct])
  have hcause : ∀ {c}, s.entryCause e p = some c → s.decisionOn pass = .refusedWith c := fun h =>
    State.decisionOn_of_passCause hpart ((State.passCause_of_entry he hp).trans h)
  refine ⟨fun hstatus => hcause (by simp [State.entryCause, hstatus, statusCause]),
    fun hstatus => hcause (by simp [State.entryCause, hstatus, statusCause]), fun hheld => ?_, fun hactive => ?_⟩
  · cases hstatus : e.status with
    | refundHold k => exact hcause (by simp [State.entryCause, hstatus, statusCause])
    | active => simp [PassEntry.isHeld, hstatus] at hheld
    | blocked => simp [PassEntry.isHeld, hstatus] at hheld
    | refunded => simp [PassEntry.isHeld, hstatus] at hheld
  have hstatus : statusCause e.status = none := (statusCause_eq_none_iff _).mpr hactive
  refine ⟨fun hmask => hcause (by simp [State.entryCause, hstatus, hmask]), fun hmask => ⟨fun hhours => ?_,
    fun hopen hclose => ?_⟩⟩
  · have hshut := (p.isOpenAt_eq_false_iff s.wallMinute).mpr hhours
    exact hcause (by simp [State.entryCause, hstatus, hmask, hshut])
  have hhours : p.isOpenAt s.wallMinute = true := by simp [Product.isOpenAt, hopen, hclose]
  refine ⟨fun hearly => hcause (by simp [State.entryCause, hstatus, hmask, hhours, hearly]), fun hstart hlate => ?_,
    fun hstart hwindow => ?_⟩
  · exact hcause (by simp [State.entryCause, hstatus, hmask, hhours, Nat.not_lt.mpr hstart, hlate])
  have hstart := Nat.not_lt.mpr hstart
  have hwindow := Nat.not_lt.mpr hwindow
  refine ⟨fun hday => hcause (by simp [State.entryCause, hstatus, hmask, hhours, hstart, hwindow, hday]),
    fun hday => ⟨fun hmarker => ?_, fun hmarker hpassback => ?_⟩⟩
  · exact hcause (by simp [State.entryCause, hstatus, hmask, hhours, hstart, hwindow, hday, hmarker])
  · have hinside : s.inPassback e.pass = true := by rwa [State.pass_of_findPass he]
    exact hcause (by simp [State.entryCause, hstatus, hmask, hhours, hstart, hwindow, hday, hmarker, hinside])

/-! ## The grant (R89) -/

theorem exec_grant (s : State) : exec .grant s = .next s.grant.settled := rfl

theorem State.grant_of_granted {s : State} {l : LaneId} {r : LaneRequest} (hl : s.grantedLane = some l)
    (hr : s.ae.waiting.get l = some r) : s.grant = (s.leaveSet l).evaluate l r := by
  simp [State.grant, hl, hr]

theorem State.leaveSet_ae (s : State) (l : LaneId) :
    (s.leaveSet l).ae = { waiting := s.ae.waiting.set l none, pointer := l + 1 } := rfl

theorem State.grantedLane_eq_none {s : State} (h : ∀ l, s.ae.waiting.get l = none) : s.grantedLane = none := by
  simp [State.grantedLane, lanesFrom, State.isWaiting, h]

/-- R89: the first waiting lane from the pointer onwards. -/
theorem State.grantedLane_of_first {s : State} {k : Fin 4} {r : LaneRequest}
    (hr : s.ae.waiting.get (s.ae.pointer + k) = some r)
    (hbefore : ∀ j : Fin 4, j.val < k.val → s.ae.waiting.get (s.ae.pointer + j) = none) :
    s.grantedLane = some (s.ae.pointer + k) := by
  have hwaits : s.isWaiting (s.ae.pointer + k) = true := by simp [State.isWaiting, hr]
  have hnot : ∀ j : Fin 4, j.val < k.val → s.isWaiting (s.ae.pointer + j) = false := fun j hj => by
    simp [State.isWaiting, hbefore j hj]
  rw [State.grantedLane, lanesFrom]
  match k with
  | 0 =>
    rw [Fin.add_zero] at hwaits ⊢
    simp [hwaits]
  | 1 =>
    have h0 := hnot 0 (by decide)
    rw [Fin.add_zero] at h0
    simp [h0, hwaits]
  | 2 =>
    have h0 := hnot 0 (by decide)
    rw [Fin.add_zero] at h0
    simp [h0, hnot 1 (by decide), hwaits]
  | 3 =>
    have h0 := hnot 0 (by decide)
    rw [Fin.add_zero] at h0
    simp [h0, hnot 1 (by decide), hnot 2 (by decide), hwaits]

/-- Settles O31: the four places from the pointer onwards. -/
theorem grantInRotatingOrder : Obligations.GrantInRotatingOrder := by
  refine fun s => ⟨fun hnone => ?_, fun k r hr hbefore => ?_⟩
  · rw [ends, exec_grant, State.grant, State.grantedLane_eq_none hnone]
  · have hgrant := State.grant_of_granted (State.grantedLane_of_first hr hbefore) hr
    refine ⟨(s.leaveSet _).evaluate _ r, by rw [ends, exec_grant, hgrant], ?_, ?_, rfl⟩ <;> simp [State.leaveSet_ae]

end Sys2Proof.Machine
end

section
/-!
PROOFS. The grants of the gates and of the tests (R99, R86), and the lapse (R103).
-/

namespace Sys2Proof.Machine

/-! ## The admission (R99, R107, R70) -/

/-- R107: the PENDING entry joins the young end, after the eviction from a full list. -/
theorem PassbackList.insertPending_of_room {b : PassbackList} (h : b.entries.length < Config.passbackCapacity)
    (pass : Nat) (l : LaneId) :
    b.insertPending pass l = { b with entries := b.entries ++ [{ pass := pass, phase := .pending l }] } := by
  simp only [PassbackList.insertPending, PassbackList.makeRoom, if_pos h]

theorem PassbackList.insertPending_of_full {b : PassbackList} (h : ¬ b.entries.length < Config.passbackCapacity)
    (pass : Nat) (l : LaneId) :
    b.insertPending pass l = { b with
      entries := b.entries.eraseP PassbackEntry.isCommitted ++ [{ pass := pass, phase := .pending l }]
      evictions := min Config.count16Ceiling (b.evictions + 1) } := by
  simp only [PassbackList.insertPending, PassbackList.makeRoom, if_neg h, satAdd]

/-- R99, block by block. -/
theorem State.admitPass_spec (s : State) (l : LaneId) (pass : Nat) :
    (s.admitPass l pass).passes =
      updateIn pass (fun e => { e with marker := some { lane := l, day := s.today } }) s.passes ∧
    (s.admitPass l pass).pbl = s.pbl.insertPending pass l ∧
    (s.admitPass l pass).tally =
      s.tallyWith l { s.counters l with admittedCount := bump (s.counters l).admittedCount } ∧
    (s.admitPass l pass).lanes =
      s.lanes.set l { s.lane l with unlockTimer := some (s.lane l).unlockTimeout, display := none } ∧
    s.keepsAllBut (s.admitPass l pass) [.passes, .pbl, .tally, .lanes] := by
  refine ⟨?_, ?_, ?_, ?_, ?_⟩
  · simp [State.admitPass]
  · simp [State.admitPass]
  · simp [State.admitPass, State.tallyWith, State.counters]
  · simp [State.admitPass, State.lane]
  · rw [State.keepsAllBut_iff]
    simp

/-- What the thirteen checks read, the set of waiting requests does not touch. -/
theorem State.decisionOn_leaveSet (s : State) (l : LaneId) (pass : Nat) :
    (s.leaveSet l).decisionOn pass = s.decisionOn pass := rfl

theorem State.leaveSet_keepsAllBut (s : State) (l : LaneId) : s.keepsAllBut (s.leaveSet l) [.ae] := by
  rw [State.keepsAllBut_iff]
  simp

/-- R99: the entries found after the marker of one pass has been set. -/
theorem State.findPass_of_updateIn {s u : State} {p : Nat} {f : PassEntry → PassEntry}
    (h : u.passes = updateIn p f s.passes) (hf : ∀ e, (f e).pass = e.pass) :
    u.findPass p = (s.findPass p).map f ∧ (∀ q, q ≠ p → u.findPass q = s.findPass q) ∧
      u.passes.length = s.passes.length := by
  have hfind := fun q => s.findPass_updatePass p q f hf
  have hsame := fun q => State.findPass_congr (s := s.updatePass p f) (u := u) h q
  refine ⟨?_, fun q hq => ?_, by rw [h, length_updateIn]⟩
  · rw [hsame, hfind, if_pos rfl]
  · rw [hsame, hfind, if_neg hq]

/-! ## The tests (R86) -/

theorem Decision.displayShow_eq (d : Decision) :
    d.displayShow = if d = .admitted then .served else .refusal := by
  cases d <;> rfl

theorem State.startDisplay_lanes (s : State) (l : LaneId) (d : DisplayShow) :
    (s.startDisplay l d).lanes =
      if s.laneState l = .fault then s.lanes else s.lanes.set l { s.lane l with display := some d } := by
  unfold State.startDisplay
  split <;> rfl

theorem State.startDisplay_keepsAllBut (s : State) (l : LaneId) (d : DisplayShow) :
    s.keepsAllBut (s.startDisplay l d) [.lanes] := by
  rw [State.keepsAllBut_iff]
  simp

theorem State.countLane_keepsAllBut (s : State) (l : LaneId) (f : LaneCounters → LaneCounters) :
    s.keepsAllBut (s.countLane l f) [.tally] := by
  rw [State.keepsAllBut_iff]
  simp

/-- R86, block by block. -/
theorem State.testDecision_spec (s : State) (l : LaneId) (pass : Nat) (tag : Byte) :
    s.recorded (s.testDecision l pass tag) (.test l pass (s.decisionOn pass)) ∧
    s.repliesWith (s.testDecision l pass tag) .laneInject tag .ok (.testDecision (s.decisionOn pass)) ∧
    (s.testDecision l pass tag).tally =
      s.tallyWith l { s.counters l with testReads := bump (s.counters l).testReads } ∧
    (s.testDecision l pass tag).lanes = (s.startDisplay l (s.decisionOn pass).displayShow).lanes ∧
    s.keepsAllBut (s.testDecision l pass tag) [.lif, .lanes, .tally, .journal, .notices] := by
  generalize hshown : s.startDisplay l (s.decisionOn pass).displayShow = d
  have hd : s.keepsAllBut d [.lanes] := hshown ▸ s.startDisplay_keepsAllBut l _
  have hrecorded : s.recorded (d.writeRecord (.test l pass (s.decisionOn pass))) (.test l pass (s.decisionOn pass)) :=
    State.recorded_of_rcc _ (State.stamp_congr (hd .rcc (by simp))) (hd .journal (by simp)) (hd .notices (by simp))
  generalize hw : d.writeRecord (.test l pass (s.decisionOn pass)) = w at hrecorded
  have hframe : s.keepsAllBut w [.lanes, .journal, .notices] := by
    rw [← hw]
    exact State.keepsAllBut_trans (State.keepsAllBut_mono hd (by simp))
      (State.keepsAllBut_mono (d.keepsAllBut_writeRecord _) (by simp))
  generalize hv : w.countLane l (fun c => { c with testReads := bump c.testReads }) = v
  have hu : s.testDecision l pass tag = v.answer .laneInject tag .ok (.testDecision (s.decisionOn pass)) := by
    rw [← hv, ← hw, ← hshown]
    rfl
  have hvw : w.keepsAllBut v [.tally] := hv ▸ w.countLane_keepsAllBut l _
  have hsv : s.keepsAllBut v [.lanes, .tally, .journal, .notices] :=
    State.keepsAllBut_trans (State.keepsAllBut_mono hframe (by simp)) (State.keepsAllBut_mono hvw (by simp))
  have hanswer := State.answer_spec .laneInject tag .ok (.testDecision (s.decisionOn pass)) (hsv .lif (by simp)) hsv
  rw [hu]
  refine ⟨?_, hanswer.1, ?_, ?_, hanswer.2⟩
  · obtain ⟨hj, hn⟩ := hrecorded
    exact State.recorded.answer ⟨(hvw .journal (by simp)).trans hj, (hvw .notices (by simp)).trans hn⟩ _ _ _ _
  · have htally : w.tally = s.tally := hframe .tally (by simp)
    rw [State.answer_frame _ _ _ _ _ |>.2.2.2.2.2.2.2.1, ← hv, State.countLane_tally, State.tallyWith, State.counters,
      htally]
  · rw [State.answer_frame _ _ _ _ _ |>.2.2.2.2.1, ← hv, State.countLane_frame _ _ _ |>.2.2.2.2.2.1, ← hw,
      State.writeRecord_frame _ _ |>.2.2.2.2.2.1]

/-- Settles O32: the two kinds of request, and the two decisions on a GATE request. -/
theorem gateAndTestGrants : Obligations.GateAndTestGrants := by
  refine ⟨fun s l pass hl hr => ?_, fun s l pass tag hl hr => ?_⟩
  · have hgrant : s.grant = (s.leaveSet l).gateDecision l pass := State.grant_of_granted hl hr
    refine ⟨_, by rw [ends, exec_grant, hgrant], by simp [State.leaveSet_ae], fun cause hcause => ?_, fun hadmit => ?_⟩
    · rw [State.gateDecision, State.decisionOn_leaveSet, hcause]
    · have hu : (s.leaveSet l).gateDecision l pass = (s.leaveSet l).admitPass l pass := by
        rw [State.gateDecision, State.decisionOn_leaveSet, hadmit]
      rw [hu]
      obtain ⟨hpasses, hpbl, htally, hlanes, hframe⟩ := (s.leaveSet l).admitPass_spec l pass
      obtain ⟨hfound, hothers, hlength⟩ := State.findPass_of_updateIn hpasses fun _ => rfl
      refine ⟨fun e he => ?_, hothers, hlength, fun hroom => ?_, fun hfull => ?_, htally, hlanes, ?_⟩
      · rw [hfound, State.findPass_congr (s.leaveSet_keepsAllBut l .passes (by simp)), he]
        rfl
      · rw [hpbl]
        exact PassbackList.insertPending_of_room hroom pass l
      · rw [hpbl]
        exact PassbackList.insertPending_of_full (Nat.not_lt.mpr hfull) pass l
      · exact State.keepsAllBut_trans (State.keepsAllBut_mono (s.leaveSet_keepsAllBut l) (by simp))
          (State.keepsAllBut_mono hframe (by simp))
  · have hgrant : s.grant = (s.leaveSet l).testDecision l pass tag := State.grant_of_granted hl hr
    obtain ⟨hrecorded, hreplies, htally, hlanes, hframe⟩ := (s.leaveSet l).testDecision_spec l pass tag
    rw [State.startDisplay_lanes, Decision.displayShow_eq] at hlanes
    refine ⟨_, by rw [ends, exec_grant, hgrant], by simp [State.leaveSet_ae], hrecorded, hreplies, htally,
      fun hworks => ?_, fun hfault => ?_, ?_⟩
    · rw [hlanes, if_neg hworks]
      rfl
    · rw [hlanes, if_pos hfault]
      rfl
    · exact State.keepsAllBut_trans (State.keepsAllBut_mono (s.leaveSet_keepsAllBut l) (by simp))
        (State.keepsAllBut_mono hframe (by simp))

/-! ## The lapse (R103) -/

theorem exec_unlockTimerExpiry (l : LaneId) (s : State) :
    exec (.unlockTimerExpiry l) s = .next (s.unlockExpiry l).settled := rfl

/-- R103: the entries of the other admissions stay. -/
theorem filter_not_pending (l : LaneId) (xs : List PassbackEntry) :
    xs.filter (fun y => !(y.phase == .pending l)) = xs.filter fun y => y.phase ≠ .pending l :=
  List.filter_congr fun y _ => by rw [Bool.eq_iff_iff]; simp

theorem State.lapse_keepsAllBut (s : State) (l : LaneId) (r : LapseReason) :
    s.keepsAllBut (s.lapse l r) [.passes, .lanes, .pbl, .tally, .journal, .notices] := by
  rw [State.keepsAllBut_iff]
  simp

/-- Settles O36: the lapse, and the expiry of the unlock timer. -/
theorem lapseEndsTheAdmission : Obligations.LapseEndsTheAdmission := by
  refine fun s l => ⟨fun reason hnone => State.lapse_of_none hnone reason, ?_, fun hidle => ?_, fun d hd hunlocked => ?_⟩
  · rintro reason pass _ hp rfl
    obtain ⟨hpasses, hpbl, htally, hj, hn, hlanes⟩ := State.lapse_of_some hp reason
    obtain ⟨hfound, hothers⟩ := State.findPass_of_unmarked hpasses
    rw [filter_not_pending] at hpbl
    refine ⟨hfound, hothers, hpbl, ?_, fun k hk => ?_, htally, ⟨hj, hn⟩, hlanes, s.lapse_keepsAllBut l reason⟩
    · rw [State.pendingPass_lapse, if_pos rfl]
    · rw [State.pendingPass_lapse, if_neg hk]
  · have hstays : s.unlockExpiry l = s := by
      rw [State.unlockExpiry, if_neg]
      rcases hidle with hstopped | helse
      · simp [hstopped]
      · simp [helse]
    rw [ends, exec_unlockTimerExpiry, hstays]
  · rw [ends, exec_unlockTimerExpiry, State.unlockExpiry, if_pos (by simp [hd, hunlocked])]

end Sys2Proof.Machine
end

section
/-!
PROOFS. The rotations (R74), the beams (Table 6.1) and the match timers (R113 to R120).
-/

namespace Sys2Proof.Machine

/-! ## Rider counting (R117, R120) -/

theorem State.countRider_tally (s : State) (l : LaneId) (cat : RiderCategory) :
    (s.countRider l cat).tally = s.tallyRider l ((s.counters l).addRider cat) := rfl

/-- R119: of a full list the oldest item leaves. -/
theorem makeRoom_eq (items : List MatchItem) :
    makeRoom items = if items.length < Config.matchItems then items else items.drop 1 := rfl

theorem Lane.takeRotation_of_cons {x : Lane} {y : MatchItem} {rest : List MatchItem} (h : x.entries = y :: rest)
    (item : MatchItem) : x.takeRotation item = { x with entries := rest } := by
  simp only [Lane.takeRotation, h]

theorem Lane.takeRotation_of_nil {x : Lane} (h : x.entries = []) (item : MatchItem) :
    x.takeRotation item = { x with
      rotations := (if x.rotations.length < Config.matchItems then x.rotations else x.rotations.drop 1) ++ [item] } := by
  simp only [Lane.takeRotation, h, makeRoom_eq]

theorem Lane.takeEntry_of_cons {x : Lane} {y : MatchItem} {rest : List MatchItem} (h : x.rotations = y :: rest)
    (item : MatchItem) : x.takeEntry item = { x with rotations := rest } := by
  simp only [Lane.takeEntry, h]

theorem Lane.takeEntry_of_nil {x : Lane} (h : x.rotations = []) (item : MatchItem) :
    x.takeEntry item = { x with
      entries := (if x.entries.length < Config.matchItems then x.entries else x.entries.drop 1) ++ [item] } := by
  simp only [Lane.takeEntry, h, makeRoom_eq]

/-- R117: what the rotation leaves of the lane is fixed by the entry list. -/
theorem Lane.eq_takeRotation {x y : Lane} {item : MatchItem}
    (hcons : ∀ z rest, x.entries = z :: rest → y = { x with entries := rest })
    (hnil : x.entries = [] → y = { x with
      rotations := (if x.rotations.length < Config.matchItems then x.rotations else x.rotations.drop 1) ++ [item] }) :
    y = x.takeRotation item := by
  cases hentries : x.entries with
  | nil => rw [hnil hentries, Lane.takeRotation_of_nil hentries]
  | cons z rest => rw [hcons z rest hentries, Lane.takeRotation_of_cons hentries]

/-- R117: only the lists change. -/
theorem Lane.takeRotation_fields (x : Lane) (item : MatchItem) :
    (x.takeRotation item).buzzerOverride = x.buzzerOverride ∧ (x.takeRotation item).pattern = x.pattern := by
  cases hentries : x.entries with
  | nil =>
    rw [Lane.takeRotation_of_nil hentries]
    exact ⟨rfl, rfl⟩
  | cons z rest =>
    rw [Lane.takeRotation_of_cons hentries]
    exact ⟨rfl, rfl⟩

/-- R117, block by block. -/
theorem State.handRotation_spec (s : State) (l : LaneId) (cat : RiderCategory) :
    (s.handRotation l cat).tally = s.tallyRider l ((s.counters l).addRider cat) ∧
    (s.handRotation l cat).lanes = s.lanes.set l ((s.lane l).takeRotation s.newItem) ∧
    s.keepsAllBut (s.handRotation l cat) [.lanes, .tally] := by
  refine ⟨rfl, rfl, ?_⟩
  rw [State.keepsAllBut_iff]
  simp

/-- R119, block by block. -/
theorem State.underRider_spec (s : State) (l : LaneId) :
    (s.underRider l).tally = s.tallyRider l { s.counters l with under := bump (s.counters l).under } ∧
    s.recorded (s.underRider l) (.rider l .under) ∧
    s.keepsAllBut (s.underRider l) [.tally, .journal, .notices] := by
  refine ⟨?_, State.recorded_of_rcc _ (State.stamp_congr (by simp)) (by simp) (by simp), ?_⟩
  · rw [State.underRider, State.writeRecord_frame _ _ |>.2.2.2.2.2.2.2.2.1, State.countRider_tally]
    rfl
  · rw [State.keepsAllBut_iff]
    simp

/-! ## A rotation with none pending (R74) -/

theorem exec_rotation (l : LaneId) (s : State) : exec (.rotation l) s = .next (s.rotation l).settled := rfl

/-- R74: a FREE rotation, block by block. -/
theorem State.freeRotation_spec (s : State) (l : LaneId) :
    (s.freeRotation l).tally = s.tallyRider l { s.counters l with free := bump (s.counters l).free } ∧
    s.recorded (s.freeRotation l) (.rider l .free) ∧
    (s.freeRotation l).lanes = s.lanes.set l ((s.lane l).takeRotation s.newItem) ∧
    s.keepsAllBut (s.freeRotation l) [.lanes, .tally, .journal, .notices] := by
  obtain ⟨htally, hlanes, hframe⟩ := s.handRotation_spec l .free
  refine ⟨?_, ?_, ?_, ?_⟩
  · rw [State.freeRotation, State.writeRecord_frame _ _ |>.2.2.2.2.2.2.2.2.1, htally]
    rfl
  · exact State.recorded_of_rcc _ (State.stamp_congr (hframe .rcc (by simp))) (hframe .journal (by simp))
      (hframe .notices (by simp))
  · rw [State.freeRotation, State.writeRecord_frame _ _ |>.2.2.2.2.2.1, hlanes]
  · exact State.keepsAllBut_trans (State.keepsAllBut_mono hframe (by simp))
      (State.keepsAllBut_mono (State.keepsAllBut_writeRecord _ _) (by simp))

/-- R74: a FORCED rotation, block by block. -/
theorem State.forcedRotation_spec (s : State) (l : LaneId) :
    (s.forcedRotation l).tally = s.tallyRider l { s.counters l with forced := bump (s.counters l).forced } ∧
    (s.forcedRotation l).journal = s.journal.write s.stamp (.rider l .forced) ∧
    (s.forcedRotation l).notices = (if (s.journal.write s.stamp (.rider l .forced)).isHigh then
      (s.notices.raise (.laneAlarm l)).raise .journalHigh else s.notices.raise (.laneAlarm l)) ∧
    (s.forcedRotation l).lanes = s.lanes.set l { (s.lane l).takeRotation s.newItem with
      forcedStamp := s.stamp
      alarmTimer := true
      pattern := if (s.lane l).buzzerOverride = .auto then .alarm
        else if (s.lane l).pattern = .alarm then .silence else (s.lane l).pattern } ∧
    s.keepsAllBut (s.forcedRotation l) [.lanes, .tally, .journal, .notices] := by
  obtain ⟨htally, hlanes, hframe⟩ := s.handRotation_spec l .forced
  generalize hw : s.handRotation l .forced = w at htally hlanes hframe
  generalize hv : (w.setLane l { (w.lane l).soundAlarm with forcedStamp := w.stamp }).raise (.laneAlarm l) = v
  have hu : s.forcedRotation l = v.writeRecord (.rider l .forced) := by
    rw [← hv, ← hw]
    rfl
  have hwv : w.keepsAllBut v [.lanes, .notices] := by
    rw [← hv, State.keepsAllBut_iff]
    simp
  have hsv : s.keepsAllBut v [.lanes, .tally, .notices] :=
    State.keepsAllBut_trans (State.keepsAllBut_mono hframe (by simp)) (State.keepsAllBut_mono hwv (by simp))
  have hstamp : v.stamp = s.stamp := State.stamp_congr (hsv .rcc (by simp))
  have hnotices : v.notices = s.notices.raise (.laneAlarm l) := by
    rw [← hv, State.raise_notices, State.setLane_notices, hframe .notices (by simp)]
  have hlane : w.lane l = (s.lane l).takeRotation s.newItem := by rw [State.lane, hlanes, Quad.get_set_self]
  obtain ⟨hbuzzer, hpattern⟩ := (s.lane l).takeRotation_fields s.newItem
  obtain ⟨hj, hn⟩ := v.recorded_writeRecord (.rider l .forced)
  rw [hsv .journal (by simp), hstamp] at hj hn
  rw [hu]
  refine ⟨?_, hj, by rw [hn, hnotices], ?_, ?_⟩
  · rw [v.keepsAllBut_writeRecord _ .tally (by simp), hwv .tally (by simp), htally]
    rfl
  · rw [v.keepsAllBut_writeRecord _ .lanes (by simp), ← hv, State.raise_frame _ _ |>.2.2.2.2.2.1, State.setLane_lanes,
      hlanes, Quad.set_set, hlane, State.stamp_congr (hframe .rcc (by simp)), Lane.soundAlarm, ← hbuzzer, ← hpattern]
  · exact State.keepsAllBut_trans (State.keepsAllBut_mono hsv (by simp))
      (State.keepsAllBut_mono (State.keepsAllBut_writeRecord _ _) (by simp))

/-- Settles O35: a lane of another role, the override FREE, and a forced rotation. -/
theorem rotationWithNonePending : Obligations.RotationWithNonePending := by
  refine fun s l => ⟨fun hrole => ?_, fun x hrole hnone hcons hnil => ?_⟩
  · rw [ends, exec_rotation, State.rotation, if_neg hrole]
  · obtain rfl : x = (s.lane l).takeRotation s.newItem := Lane.eq_takeRotation hcons hnil
    have hrotate : s.rotation l =
        if (s.lane l).armOverride = .free then s.freeRotation l else s.forcedRotation l := by
      rw [State.rotation, if_pos hrole, State.rotate, if_neg (by simp [hnone])]
    by_cases hfree : (s.lane l).armOverride = .free
    · rw [if_pos hfree] at hrotate
      obtain ⟨htally, hrecorded, hlanes, hframe⟩ := s.freeRotation_spec l
      exact ⟨_, by rw [ends, exec_rotation, hrotate], hframe, fun _ => ⟨htally, hrecorded, hlanes⟩,
        fun h => absurd hfree h⟩
    · rw [if_neg hfree] at hrotate
      obtain ⟨htally, hj, hn, hlanes, hframe⟩ := s.forcedRotation_spec l
      exact ⟨_, by rw [ends, exec_rotation, hrotate], hframe, fun h => absurd h hfree,
        fun _ => ⟨htally, hj, by rw [hj]; exact hn, hlanes⟩⟩

/-! ## The beam detector (Table 6.1) -/

/-- Table 6.1, and R114 for the changes it does not list. -/
theorem detectorMove_eq (d : DetectorState) (beam : Beam) (blocked : Bool) :
    detectorMove d beam blocked =
      (if d = .idle ∧ beam = .a ∧ blocked = true then .outer
        else if d = .outer ∧ beam = .b ∧ blocked = true then .both
        else if d = .both ∧ beam = .a ∧ blocked = false then .inner
        else if d = .inner ∧ beam = .a ∧ blocked = true then .both
        else .idle,
      decide (d = .inner ∧ beam = .b ∧ blocked = false)) := by
  cases d <;> cases beam <;> cases blocked <;> rfl

/-- R115: BEAM_STUCK holds the detector in IDLE. -/
theorem Lane.detect_eq (x : Lane) (beam : Beam) (blocked : Bool) :
    x.detect beam blocked =
      (if x.latches.beamStuck = true then .idle
        else if x.detector = .idle ∧ beam = .a ∧ blocked = true then .outer
        else if x.detector = .outer ∧ beam = .b ∧ blocked = true then .both
        else if x.detector = .both ∧ beam = .a ∧ blocked = false then .inner
        else if x.detector = .inner ∧ beam = .a ∧ blocked = true then .both
        else .idle,
      decide (x.latches.beamStuck = false ∧ x.detector = .inner ∧ beam = .b ∧ blocked = false)) := by
  rw [Lane.detect, detectorMove_eq]
  cases x.latches.beamStuck <;> simp

/-- A beam change leaves the lists. -/
theorem Lane.beamMoved_lists (x : Lane) (beam : Beam) (blocked : Bool) (duration : Nat) :
    (x.beamMoved beam blocked duration).rotations = x.rotations ∧
    (x.beamMoved beam blocked duration).entries = x.entries := by
  cases beam <;> exact ⟨rfl, rfl⟩

/-! ## The beams at a GATE lane (R113, R118) -/

theorem exec_beamChange (l : LaneId) (beam : Beam) (blocked : Bool) (s : State) :
    exec (.beamChange l beam blocked) s = .next (s.beamChange l beam blocked).settled := rfl

/-- R113: the lane after a beam change, before an ENTRY meets the lists. -/
def State.beamLane (s : State) (l : LaneId) (beam : Beam) (blocked : Bool) : Lane :=
  { (s.lane l).beamMoved beam blocked s.rcc.site.beamStuck with detector := ((s.lane l).detect beam blocked).1 }

theorem State.beamLane_lists (s : State) (l : LaneId) (beam : Beam) (blocked : Bool) :
    (s.beamLane l beam blocked).rotations = (s.lane l).rotations ∧
    (s.beamLane l beam blocked).entries = (s.lane l).entries :=
  (s.lane l).beamMoved_lists beam blocked s.rcc.site.beamStuck

/-- R118: an ENTRY that finds room or a rotation changes the lane alone. -/
theorem State.handEntry_of_room {s : State} {l : LaneId} (h : (s.lane l).entryOverflows = false) :
    s.handEntry l = s.setLane l ((s.lane l).takeEntry s.newItem) := by
  simp [State.handEntry, h]

theorem State.handEntry_of_full {s : State} {l : LaneId} (h : (s.lane l).entryOverflows = true) :
    s.handEntry l = (s.setLane l ((s.lane l).takeEntry s.newItem)).underRider l := by
  simp [State.handEntry, h]

theorem Lane.entryOverflows_eq_true_iff (x : Lane) :
    x.entryOverflows = true ↔ x.rotations = [] ∧ Config.matchItems ≤ x.entries.length := by
  simp [Lane.entryOverflows]

theorem State.newItem_setLane (s : State) (l : LaneId) (x : Lane) : (s.setLane l x).newItem = s.newItem := rfl

/-- R118: the beam change that brings an ENTRY, which the lists take without a rider. -/
theorem State.beamLane_handEntry {s : State} {l : LaneId} {x : Lane} (h : x.entryOverflows = false) :
    (s.setLane l x).handEntry l = s.setLane l (x.takeEntry s.newItem) := by
  have hlane : (s.setLane l x).lane l = x := s.lane_setLane_self l x
  rw [State.handEntry_of_room (by rw [hlane]; exact h), hlane, State.newItem_setLane, State.setLane_setLane]

/-- R119: the beam change whose ENTRY drives the oldest one out. -/
theorem State.beamLane_overflow {s : State} {l : LaneId} {x : Lane} (h : x.entryOverflows = true) :
    (s.setLane l x).handEntry l = (s.setLane l (x.takeEntry s.newItem)).underRider l := by
  have hlane : (s.setLane l x).lane l = x := s.lane_setLane_self l x
  rw [State.handEntry_of_full (by rw [hlane]; exact h), hlane, State.newItem_setLane, State.setLane_setLane]

/-- R119: an item that leaves the entry list counts an UNDER rider. -/
theorem State.underRider_of_lane (s : State) (l : LaneId) (x : Lane) :
    ((s.setLane l x).underRider l).lanes = s.lanes.set l x ∧
    ((s.setLane l x).underRider l).tally =
      s.tallyRider l { s.counters l with under := bump (s.counters l).under } ∧
    s.recorded ((s.setLane l x).underRider l) (.rider l .under) ∧
    s.keepsAllBut ((s.setLane l x).underRider l) [.lanes, .tally, .journal, .notices] := by
  obtain ⟨htally, hrecorded, hframe⟩ := (s.setLane l x).underRider_spec l
  exact ⟨hframe .lanes (by simp), htally, hrecorded,
    State.keepsAllBut_trans (State.keepsAllBut_mono (s.setLane_keepsAllBut l x) (by simp))
      (State.keepsAllBut_mono hframe (by simp))⟩

/-- R113: the beam change of a GATE lane, by its ENTRY. -/
theorem State.beamChange_of_gate {s : State} {l : LaneId} {beam : Beam} {blocked : Bool}
    (hlevel : (s.lane l).beam beam ≠ blocked) (hrole : (s.lane l).role = .gate) :
    s.beamChange l beam blocked =
      if (s.lane l).latches.beamStuck = false ∧ (s.lane l).detector = .inner ∧ beam = .b ∧ blocked = false then
        (s.setLane l (s.beamLane l beam blocked)).handEntry l
      else s.setLane l (s.beamLane l beam blocked) := by
  rw [State.beamChange, if_neg hlevel, if_pos hrole, State.gateBeamChange, State.beamLane]
  simp only [(s.lane l).detect_eq beam blocked, decide_eq_true_eq]

/-- R118, R119: an ENTRY at a GATE lane. -/
theorem State.beamChange_of_entry {s : State} {l : LaneId} {beam : Beam} {blocked : Bool}
    (hchange : s.beamChange l beam blocked = (s.setLane l (s.beamLane l beam blocked)).handEntry l) :
    (∀ y rest, (s.lane l).rotations = y :: rest →
      ends (.beamChange l beam blocked) s (s.setLane l { s.beamLane l beam blocked with rotations := rest })) ∧
    ((s.lane l).rotations = [] → (s.lane l).entries.length < 4 →
      ends (.beamChange l beam blocked) s (s.setLane l { s.beamLane l beam blocked with
        entries := (s.lane l).entries ++ [s.newItem] })) ∧
    ((s.lane l).rotations = [] → 4 ≤ (s.lane l).entries.length →
      ∃ u, ends (.beamChange l beam blocked) s u ∧
        u.lanes = s.lanes.set l { s.beamLane l beam blocked with
          entries := (s.lane l).entries.drop 1 ++ [s.newItem] } ∧
        u.tally = s.tallyRider l { s.counters l with under := bump (s.counters l).under } ∧
        s.recorded u (.rider l .under) ∧ s.keepsAllBut u [.lanes, .tally, .journal, .notices]) := by
  obtain ⟨hrotations, hentries⟩ := s.beamLane_lists l beam blocked
  have hfull : (s.beamLane l beam blocked).entryOverflows = true ↔
      (s.lane l).rotations = [] ∧ 4 ≤ (s.lane l).entries.length := by
    rw [Lane.entryOverflows_eq_true_iff, hrotations, hentries]
    rfl
  refine ⟨fun y rest hcons => ?_, fun hnil hroom => ?_, fun hnil hlong => ?_⟩
  · have hfits : (s.beamLane l beam blocked).entryOverflows = false := by
      rw [← Bool.not_eq_true, hfull, hcons]
      simp
    rw [ends, exec_beamChange, hchange, State.beamLane_handEntry hfits,
      Lane.takeEntry_of_cons (hrotations.trans hcons)]
  · have hfits : (s.beamLane l beam blocked).entryOverflows = false := by
      rw [← Bool.not_eq_true, hfull]
      omega
    have htake : (s.beamLane l beam blocked).takeEntry s.newItem =
        { s.beamLane l beam blocked with entries := (s.lane l).entries ++ [s.newItem] } := by
      have hshort : (s.lane l).entries.length < Config.matchItems := hroom
      rw [Lane.takeEntry_of_nil (hrotations.trans hnil), hentries, if_pos hshort]
    rw [ends, exec_beamChange, hchange, State.beamLane_handEntry hfits, htake]
  · have htake : (s.beamLane l beam blocked).takeEntry s.newItem =
        { s.beamLane l beam blocked with entries := (s.lane l).entries.drop 1 ++ [s.newItem] } := by
      have hlong : ¬ (s.lane l).entries.length < Config.matchItems := Nat.not_lt.mpr hlong
      rw [Lane.takeEntry_of_nil (hrotations.trans hnil), hentries, if_neg hlong]
    refine ⟨_, by rw [ends, exec_beamChange, hchange, State.beamLane_overflow (hfull.mpr ⟨hnil, hlong⟩), htake], ?_⟩
    exact s.underRider_of_lane l _

/-! ## The match timers (R119) -/

theorem exec_matchTimerExpiry (l : LaneId) (list : MatchList) (k : Fin 4) (s : State) :
    exec (.matchTimerExpiry l list k) s = .next (s.matchExpiry l list k.val).settled := rfl

/-- R120: the hour bins of a rider counted. -/
theorem State.tallyRider_hours (s : State) (l : LaneId) (c : LaneCounters) (h : Nat) :
    (s.tallyRider l c).today.hours[h]? =
      if h = (s.rcc.site.rolloverMinute + s.rcc.clock.second / 60) % 1440 / 60
      then (s.tally.today.hours[h]?).map bump else s.tally.today.hours[h]? :=
  bumpAt_getElem? _ _ _

/-- Settles O37: the beams, the ENTRY they recognise, and the match timers. -/
theorem beamsAndMatchTimers : Obligations.BeamsAndMatchTimers := by
  refine ⟨fun x blocked t => ⟨rfl, rfl, rfl, rfl, rfl, rfl⟩, fun s l beam blocked => ⟨fun hlevel => ?_,
    fun hlevel hrole => ?_, fun x hlevel hrole hx => ?_⟩, fun s l k => ⟨?_, fun hshort => ?_, fun hlong => ?_,
    s.tallyRider_hours l⟩⟩
  · rw [ends, exec_beamChange, State.beamChange, if_pos hlevel]
  · rw [ends, exec_beamChange, State.beamChange, if_neg hlevel, if_neg hrole]
  · obtain rfl : x = s.beamLane l beam blocked := by
      rw [hx, State.beamLane, Lane.detect_eq]
      rfl
    have hchange := State.beamChange_of_gate hlevel hrole
    refine ⟨fun hnot => ?_, fun hclear hinner hbeam hlow => ?_⟩
    · rw [ends, exec_beamChange, hchange, if_neg hnot]
    · rw [if_pos ⟨hclear, hinner, hbeam, hlow⟩] at hchange
      exact State.beamChange_of_entry hchange
  · rw [ends, exec_matchTimerExpiry]
    rfl
  · rw [ends, exec_matchTimerExpiry, State.matchExpiry, if_neg (Nat.not_lt.mpr hshort)]
  · refine ⟨_, by rw [ends, exec_matchTimerExpiry, State.matchExpiry, if_pos hlong], ?_⟩
    exact s.underRider_of_lane l _

end Sys2Proof.Machine
end

section
/-!
PROOFS. The rotation that commits an admission (R71, R100, R101).
-/

namespace Sys2Proof.Machine

/-! ## The usage part (R100) -/

theorem PassEntry.usageForCommit_days (e : PassEntry) (day : Nat) : (e.usageForCommit day).days = e.daysUsed := by
  unfold PassEntry.usageForCommit PassEntry.daysUsed
  cases e.usage <;> rfl

/-- R97: the purchased days of a present DAYS product. -/
theorem State.lookupDays_eq_some_iff (s : State) (e : PassEntry) (n : Nat) :
    s.lookupDays e = some n ↔ ∃ p, s.product? e.product = some p ∧ p.kind = .days n := by
  unfold State.lookupDays
  cases s.product? e.product with
  | none => simp
  | some p => cases hkind : p.kind <;> simp [hkind]

theorem isNewDay_eq_true_iff (allowance : Option Nat) (days : List Nat) (offset : Nat) :
    isNewDay allowance days offset = true ↔ ∃ n, allowance = some n ∧ offset ∉ days ∧ days.length < n := by
  cases allowance <;> simp [isNewDay]

/-- R100, step 3: the day this commit adds. -/
def State.addsDay (s : State) (e : PassEntry) (m : AdmissionMarker) : Bool :=
  isNewDay (s.allowance e) (e.usageForCommit m.day).days (m.day - e.start)

theorem State.addsDay_eq_true_iff (s : State) (e : PassEntry) (m : AdmissionMarker) :
    s.addsDay e m = true ↔ ∃ p n, s.product? e.product = some p ∧ p.kind = .days n ∧
      m.day - e.start ∉ e.daysUsed ∧ e.daysUsed.length < n := by
  rw [State.addsDay, isNewDay_eq_true_iff, PassEntry.usageForCommit_days, State.allowance]
  simp only [State.lookupDays_eq_some_iff]
  constructor
  · rintro ⟨n, ⟨p, hp, hkind⟩, hnew, hroom⟩
    exact ⟨p, n, hp, hkind, hnew, hroom⟩
  · rintro ⟨p, n, hp, hkind, hnew, hroom⟩
    exact ⟨n, ⟨p, hp, hkind⟩, hnew, hroom⟩

/-- R100, steps 2 to 5, part by part. -/
theorem State.committedUsage_spec (s : State) (l : LaneId) (e : PassEntry) (m : AdmissionMarker) :
    (s.committedUsage l e m).days =
      (if s.addsDay e m then insertOffset (m.day - e.start) e.daysUsed else e.daysUsed) ∧
    (s.committedUsage l e m).firstUse = min ((e.usage.map (·.firstUse)).getD m.day) m.day ∧
    (s.committedUsage l e m).rides = min 65535 ((e.usage.map (·.rides)).getD 0 + 1) ∧
    (s.committedUsage l e m).last = some { stamp := s.stamp, lane := l } := by
  refine ⟨?_, ?_, ?_, rfl⟩
  · rw [← e.usageForCommit_days m.day]
    rfl
  · simp only [State.committedUsage, commitUsage, PassEntry.usageForCommit]
    cases e.usage <;> rfl
  · simp only [State.committedUsage, commitUsage, PassEntry.usageForCommit]
    cases e.usage <;> rfl

/-! ## The commit, block by block (R101) -/

/-- R101, step 3: the paid count, and the new days of the set. -/
theorem State.countPaid_today (s : State) (l : LaneId) (isNew : Bool) :
    (s.countPaid l isNew).tally = { s.tally with today := { s.tally.today with
      lanes := s.tally.today.lanes.set l { s.counters l with paid := bump (s.counters l).paid }
      newDays := if isNew then bump s.tally.today.newDays else s.tally.today.newDays } } := by
  cases isNew <;> simp [State.countPaid, State.counters]

theorem State.commitEntry_spec (s : State) (l : LaneId) (e : PassEntry) (m : AdmissionMarker) {u : State}
    (hu : u = s.commitEntry l e m) :
    u.pbl = s.pbl.commit e.pass s.stamp ∧
    s.recorded u (.passage l e.pass (s.addsDay e m) (s.committedUsage l e m).rides) ∧
    u.tally = { s.tally with today := { s.tally.today with
      lanes := s.tally.today.lanes.set l { s.counters l with paid := bump (s.counters l).paid }
      newDays := if s.addsDay e m then bump s.tally.today.newDays else s.tally.today.newDays } } ∧
    s.keepsAllBut u [.passes, .pbl, .tally, .journal, .notices] := by
  have hframe : s.keepsAllBut u [.passes, .pbl, .tally, .journal, .notices] := by
    rw [hu, State.keepsAllBut_iff]
    simp
  generalize hw : (s.updatePass e.pass fun x =>
    { x with marker := none, usage := some (s.committedUsage l e m) }).setPbl (s.pbl.commit e.pass s.stamp) = w
  have hsw : s.keepsAllBut w [.passes, .pbl] := by
    rw [← hw, State.keepsAllBut_iff]
    simp
  generalize hv : w.writeRecord (.passage l e.pass (s.addsDay e m) (s.committedUsage l e m).rides) = v
  have hpaid : u = v.countPaid l (s.addsDay e m) := by
    rw [hu, ← hv, ← hw]
    rfl
  have hrecorded : s.recorded v (.passage l e.pass (s.addsDay e m) (s.committedUsage l e m).rides) := by
    rw [← hv]
    exact State.recorded_of_rcc _ (State.stamp_congr (hsw .rcc (by simp))) (hsw .journal (by simp))
      (hsw .notices (by simp))
  have htally : v.tally = s.tally := by
    rw [← hv, w.keepsAllBut_writeRecord _ .tally (by simp), hsw .tally (by simp)]
  have hkept : v.keepsAllBut u [.tally] := by
    rw [hpaid, State.keepsAllBut_iff]
    simp
  obtain ⟨hj, hn⟩ := hrecorded
  refine ⟨?_, ⟨(hkept .journal (by simp)).trans hj, (hkept .notices (by simp)).trans hn⟩, ?_, hframe⟩
  · rw [hkept .pbl (by simp), ← hv, w.keepsAllBut_writeRecord _ .pbl (by simp), ← hw]
    simp
  · rw [hpaid, State.countPaid_today, State.counters_congr htally, htally]

/-- R101, R117: the commit and its handover, in today's set. -/
theorem State.tallyRider_of_commit {s v : State} {l : LaneId} {c : LaneCounters} {n : Nat} (hrcc : v.rcc = s.rcc)
    (htally : v.tally = { s.tally with today := { s.tally.today with
      lanes := s.tally.today.lanes.set l c
      newDays := n } }) :
    v.tallyRider l (v.counters l) =
      { s.tallyRider l c with today := { (s.tallyRider l c).today with newDays := n } } := by
  simp only [State.tallyRider, State.counters, htally, State.wallHour, State.wallMinute, hrcc, Quad.get_set_self,
    Quad.set_set]

/-- R71: the rotation of a pending admission, after its commit. -/
theorem State.paidRotation_of_pending {s : State} {l : LaneId} {e : PassEntry} {m : AdmissionMarker}
    (h : s.pendingEntry l = some (e, m)) :
    s.paidRotation l =
      (((s.commitEntry l e m).handRotation l .paid).setLane l
        { ((s.commitEntry l e m).handRotation l .paid).lane l with unlockTimer := none }).expirePassback := by
  simp only [State.paidRotation, h]

theorem State.pendingEntry_of_marked {s : State} {l : LaneId} {pass : Nat} {e : PassEntry} {m : AdmissionMarker}
    (hp : s.pendingPass l = some pass) (he : s.findPass pass = some e) (hm : e.marker = some m) :
    s.pendingEntry l = some (e, m) := by
  simp [State.pendingEntry, hp, he, hm]

/-- R108: the entries of the other passes stay. -/
theorem PassbackList.commit_eq (b : PassbackList) (pass stamp : Nat) :
    b.commit pass stamp = { b with entries := (b.entries.filter fun x => x.pass ≠ pass) ++
      [{ pass := pass, phase := .committed stamp }] } := by
  have hleft : b.entries.filter (fun x => !(x.pass == pass)) = b.entries.filter fun x => x.pass ≠ pass :=
    List.filter_congr fun x _ => by rw [Bool.eq_iff_iff]; simp
  rw [PassbackList.commit, hleft]

/-- R71, R101, R117: the rotation that commits, block by block. -/
theorem State.paidRotation_spec {s u : State} {l : LaneId} {e : PassEntry} {m : AdmissionMarker}
    (h : s.pendingEntry l = some (e, m)) (hu : u = s.paidRotation l) :
    u.passes = updateIn e.pass (fun x => { x with marker := none, usage := some (s.committedUsage l e m) }) s.passes ∧
    u.pbl = { s.pbl with
      entries := ((s.pbl.entries.filter fun (x : PassbackEntry) => x.pass ≠ e.pass) ++
        [({ pass := e.pass, phase := .committed s.stamp } : PassbackEntry)]).filter fun x =>
          x.staysAt s.stamp s.pbl.interval } ∧
    s.recorded u (.passage l e.pass (s.addsDay e m) (s.committedUsage l e m).rides) ∧
    u.tally = { s.tallyRider l { s.counters l with paid := bump (s.counters l).paid } with
      today := { (s.tallyRider l { s.counters l with paid := bump (s.counters l).paid }).today with
        newDays := if s.addsDay e m then bump s.tally.today.newDays else s.tally.today.newDays } } ∧
    u.lanes = s.lanes.set l { (s.lane l).takeRotation s.newItem with unlockTimer := none } ∧
    s.keepsAllBut u [.passes, .lanes, .pbl, .tally, .journal, .notices] := by
  rw [State.paidRotation_of_pending h] at hu
  have hpasses := s.commitEntry_passes l e m
  generalize hw : s.commitEntry l e m = w at hu hpasses
  obtain ⟨hpbl, ⟨hj, hn⟩, htally, hframe⟩ := s.commitEntry_spec l e m hw.symm
  obtain ⟨htallyv, hlanesv, hframev⟩ := w.handRotation_spec l .paid
  generalize w.handRotation l .paid = v at hu htallyv hlanesv hframev
  have hkept : v.keepsAllBut u [.lanes, .pbl] := by
    rw [hu, State.keepsAllBut_iff]
    simp
  have hlanesw : w.lanes = s.lanes := hframe .lanes (by simp)
  have hrccw : w.rcc = s.rcc := hframe .rcc (by simp)
  have hitem : w.newItem = s.newItem := by rw [State.newItem, State.newItem, State.stamp, State.stamp, hrccw]
  have hwu : w.keepsAllBut u [.lanes, .pbl, .tally] :=
    State.keepsAllBut_trans (State.keepsAllBut_mono hframev (by simp)) (State.keepsAllBut_mono hkept (by simp))
  refine ⟨(hwu .passes (by simp)).trans hpasses, ?_, ⟨(hwu .journal (by simp)).trans hj,
    (hwu .notices (by simp)).trans hn⟩, ?_, ?_, ?_⟩
  · have hpblv : v.pbl = s.pbl.commit e.pass s.stamp := (hframev .pbl (by simp)).trans hpbl
    have hstamp : v.stamp = s.stamp := State.stamp_congr ((hframev .rcc (by simp)).trans hrccw)
    rw [hu, State.expirePassback_pbl, State.setLane_pbl, hpblv, PassbackList.commit_eq]
    simp only [← hstamp]
    rfl
  · rw [hkept .tally (by simp), htallyv]
    exact State.tallyRider_of_commit hrccw htally
  · rw [hu, State.expirePassback_frame _ |>.2.2.2.2.2.1, State.setLane_lanes, State.lane, hlanesv, Quad.get_set_self,
      Quad.set_set, hlanesw, State.lane_congr hlanesw, hitem]
  · exact State.keepsAllBut_trans (State.keepsAllBut_mono hframe (by simp)) (State.keepsAllBut_mono hwu (by simp))

/-- Settles O34: the commit, and the rider it hands to the lists. -/
theorem rotationCommitsTheAdmission : Obligations.RotationCommitsTheAdmission := by
  intro s l pass e m hrole hp he hm
  obtain rfl := State.pass_of_findPass he
  have hrotate : s.rotation l = s.paidRotation l := by
    rw [State.rotation, if_pos hrole, State.rotate, if_pos (by simp [hp])]
  generalize hu : s.paidRotation l = u at hrotate
  obtain ⟨hpasses, hpbl, hrecorded, htally, hlanes, hframe⟩ :=
    State.paidRotation_spec (State.pendingEntry_of_marked hp he hm) hu.symm
  obtain ⟨hfound, hothers, hlength⟩ := State.findPass_of_updateIn hpasses fun _ => rfl
  obtain ⟨hdays, hfirst, hrides, hlast⟩ := s.committedUsage_spec l e m
  refine ⟨u, s.committedUsage l e m, s.addsDay e m, by rw [ends, exec_rotation, hrotate], by rw [hfound, he]; rfl,
    hothers, hlength, s.addsDay_eq_true_iff e m, hdays, hfirst, hrides, hlast, hpbl, hrecorded, by rw [htally]; rfl,
    by rw [htally], fun x rest hcons => ?_, fun hnil => ?_, hframe⟩
  · rw [hlanes, Lane.takeRotation_of_cons hcons]
  · rw [hlanes, Lane.takeRotation_of_nil hnil]
    rfl

end Sys2Proof.Machine
end

section
/-!
PROOFS. QUOTE (R148, R149), the start of a computation (R129) and its completion (R132, R152).
-/

namespace Sys2Proof.Machine

/-! ## The start of a computation (R129) -/

theorem State.startComputation_of_busy {s : State} (h : s.rfc.busy.isSome) : s.startComputation = s := by
  obtain ⟨c, hc⟩ := Option.isSome_iff_exists.mp h
  simp only [State.startComputation, hc]

theorem State.startComputation_of_empty {s : State} (h : s.rfc.queue = []) : s.startComputation = s := by
  unfold State.startComputation
  cases hb : s.rfc.busy <;> simp only [h]

theorem State.startComputation_of_queued {s : State} {k : SlotId} {rest : List SlotId} {i : QuoteIdentity}
    {x : Snapshot} (hb : s.rfc.busy = none) (hq : s.rfc.queue = k :: rest) (hk : (s.slot k).state = .queued i)
    (hx : s.takeSnapshot i.pass = some x) :
    s.startComputation = (s.setRfc { busy := some (Computation.start k x), queue := rest }).setSlot k
      { s.slot k with state := .computing i x } := by
  unfold State.startComputation
  rw [hb, hq]
  dsimp only
  rw [hk]
  dsimp only
  rw [hx]
  rfl

/-- R129: at most the head of the queue starts. -/
theorem State.startComputation_quotes (s : State) :
    s.startComputation.quotes = s.quotes ∨ ∃ k i x, s.rfc.queue.head? = some k ∧
      s.startComputation.quotes = s.quotes.set k { s.slot k with state := .computing i x } := by
  unfold State.startComputation
  split
  · rename_i k rest _ hq
    split
    · rename_i i _
      split
      · rename_i x _
        exact .inr ⟨k, i, x, by rw [hq]; rfl, rfl⟩
      · exact .inl rfl
    · exact .inl rfl
  · exact .inl rfl

theorem State.slot_startComputation {s : State} {j : SlotId} (h : s.rfc.queue.head? ≠ some j) :
    s.startComputation.slot j = s.slot j := by
  obtain hsame | ⟨k, i, x, hk, hset⟩ := s.startComputation_quotes
  · exact State.slot_congr hsame j
  · have hne : j ≠ k := fun hjk => h (by rw [hk, hjk])
    rw [State.slot, hset, Quad.get_set, if_neg hne, State.slot]

theorem State.lastEnding_startComputation (s : State) (j : SlotId) :
    (s.startComputation.slot j).lastEnding = (s.slot j).lastEnding := by
  obtain hsame | ⟨k, i, x, -, hset⟩ := s.startComputation_quotes
  · rw [State.slot_congr hsame j]
  · rw [State.slot, hset, Quad.get_set]
    split
    · rename_i hjk
      rw [hjk]
    · rfl

/-! ## The snapshot (R130) -/

theorem Product.refundTerms_eq_some_iff (p : Product) (n : Nat) (policy : RefundPolicy) :
    p.refundTerms = some (n, policy) ↔ p.kind = .days n ∧ p.policy = some policy := by
  unfold Product.refundTerms
  split
  · rename_i hkind hpolicy
    simp [hkind, hpolicy]
  · rename_i hnot
    simp only [reduceCtorEq, false_iff]
    rintro ⟨hkind, hpolicy⟩
    exact hnot n policy hkind hpolicy

theorem State.refundTerms_eq_some_iff (s : State) (e : PassEntry) (p : Product) (n : Nat) (policy : RefundPolicy) :
    s.refundTerms e = some (p, n, policy) ↔
      s.product? e.product = some p ∧ p.kind = .days n ∧ p.policy = some policy := by
  rw [← Product.refundTerms_eq_some_iff]
  unfold State.refundTerms
  cases s.product? e.product with
  | none => simp
  | some q =>
    simp only [Option.map_eq_some_iff, Prod.mk.injEq, Option.some.injEq, Prod.exists]
    constructor
    · rintro ⟨n', policy', hterms, rfl, rfl, rfl⟩
      exact ⟨rfl, hterms⟩
    · rintro ⟨rfl, hterms⟩
      exact ⟨n, policy, hterms, rfl, rfl, rfl⟩

theorem State.takeSnapshot_of_entry {s : State} {pass : Nat} {e : PassEntry} {p : Product} {n : Nat}
    {policy : RefundPolicy} (he : s.findPass pass = some e) (hterms : s.refundTerms e = some (p, n, policy)) :
    s.takeSnapshot pass = some (s.snapshotOf e p n policy) := by
  simp only [State.takeSnapshot, he, hterms]

theorem State.takeSnapshot_eq_some_iff (s : State) (pass : Nat) (x : Snapshot) :
    s.takeSnapshot pass = some x ↔ ∃ e p n policy, s.findPass pass = some e ∧
      s.refundTerms e = some (p, n, policy) ∧ x = s.snapshotOf e p n policy := by
  constructor
  · intro h
    cases he : s.findPass pass with
    | none => simp [State.takeSnapshot, he] at h
    | some e =>
      cases hterms : s.refundTerms e with
      | none => simp [State.takeSnapshot, he, hterms] at h
      | some t =>
        obtain ⟨p, n, policy⟩ := t
        rw [State.takeSnapshot_of_entry he hterms, Option.some.injEq] at h
        exact ⟨e, p, n, policy, rfl, hterms, h.symm⟩
  · rintro ⟨e, p, n, policy, he, hterms, rfl⟩
    exact State.takeSnapshot_of_entry he hterms

/-- R97: the used days of one mark. -/
theorem count_markOf (s : State) (e : PassEntry) (m : DayMark) :
    (e.daysUsed.map fun o => s.markOf (e.start + o)).count m =
      (e.daysUsed.filter fun o => s.markOf (e.start + o) = m).length := by
  rw [List.count, List.countP_map, List.countP_eq_length_filter]
  congr 1

/-! ## The acceptance (R149) -/

theorem State.findPass_enqueueQuote (s : State) (k : SlotId) (p : Nat) (src : QuoteSource) :
    (s.enqueueQuote k p src).findPass p = (s.findPass p).map (fun e => { e with status := .refundHold k }) ∧
    (∀ q, q ≠ p → (s.enqueueQuote k p src).findPass q = s.findPass q) ∧
    (s.enqueueQuote k p src).passes.length = s.passes.length :=
  State.findPass_of_updateIn (s.enqueueQuote_passes k p src) fun _ => rfl

theorem State.enqueueQuote_quotes (s : State) (k : SlotId) (p : Nat) (src : QuoteSource) :
    (s.enqueueQuote k p src).quotes =
      s.quotes.set k { s.slot k with state := .queued { pass := p, source := src } } := rfl

theorem State.enqueueQuote_keepsAllBut (s : State) (k : SlotId) (p : Nat) (src : QuoteSource) :
    s.keepsAllBut (s.enqueueQuote k p src) [.passes, .rfc, .quotes] := by
  rw [State.keepsAllBut_iff]
  simp [State.enqueueQuote]

/-- The hold leaves what the snapshot is taken of. -/
theorem State.takeSnapshot_enqueueQuote {s : State} {k : SlotId} {pass : Nat} {src : QuoteSource} {e : PassEntry}
    {p : Product} {n : Nat} {policy : RefundPolicy} (he : s.findPass pass = some e)
    (hterms : s.refundTerms e = some (p, n, policy)) :
    (s.enqueueQuote k pass src).takeSnapshot pass = some (s.snapshotOf e p n policy) := by
  have hfound : (s.enqueueQuote k pass src).findPass pass = some { e with status := .refundHold k } := by
    rw [(s.findPass_enqueueQuote k pass src).1, he]
    rfl
  exact State.takeSnapshot_of_entry (e := { e with status := .refundHold k }) hfound hterms

/-- R149, R129: the quote accepted, and the computation that starts at once under an IDLE calculator. -/
theorem State.acceptQuote_spec (s : State) (slot : SlotId) (pass : Nat) (src : QuoteSource) {u : State}
    (hu : u = s.acceptQuote slot pass src) :
    u.findPass pass = (s.findPass pass).map (fun e => { e with status := .refundHold slot }) ∧
    (∀ q, q ≠ pass → u.findPass q = s.findPass q) ∧ u.passes.length = s.passes.length ∧
    (u.slot slot).lastEnding = (s.slot slot).lastEnding ∧
    s.keepsAllBut u [.passes, .rfc, .quotes] ∧
    (s.rfc.busy.isSome ∨ s.rfc.queue = [] → ∀ i, i ≠ slot → u.slot i = s.slot i) ∧
    (s.rfc.busy.isSome → (u.slot slot).state = .queued { pass := pass, source := src } ∧
      u.rfc = { s.rfc with queue := s.rfc.queue ++ [slot] }) ∧
    (s.rfc.busy = none → s.rfc.queue = [] → ∀ e p n policy, s.findPass pass = some e →
      s.refundTerms e = some (p, n, policy) →
      u.rfc = { busy := some { slot := slot, snapshot := s.snapshotOf e p n policy, steps := 0,
                               work := Working.start }, queue := [] } ∧
      (u.slot slot).state = .computing { pass := pass, source := src } (s.snapshotOf e p n policy)) := by
  rw [State.acceptQuote_eq] at hu
  obtain ⟨hfound, hothers, hlength⟩ := s.findPass_enqueueQuote slot pass src
  have hrfc := s.enqueueQuote_rfc slot pass src
  have hquotes := s.enqueueQuote_quotes slot pass src
  have hframe := s.enqueueQuote_keepsAllBut slot pass src
  have hsnap := fun e p n policy => State.takeSnapshot_enqueueQuote (s := s) (k := slot) (pass := pass) (src := src)
    (e := e) (p := p) (n := n) (policy := policy)
  generalize s.enqueueQuote slot pass src = q at hu hfound hothers hlength hrfc hquotes hframe hsnap
  have hslot : ∀ i, q.slot i =
      if i = slot then { s.slot slot with state := .queued { pass := pass, source := src } } else s.slot i := fun i => by
    rw [State.slot, hquotes, Quad.get_set]
    rfl
  have hpasses : u.passes = q.passes := by rw [hu, q.startComputation_frame.2.2.2.1]
  have hkept : q.keepsAllBut u [.rfc, .quotes] := by
    rw [hu, State.keepsAllBut_iff]
    simp
  refine ⟨(State.findPass_congr hpasses _).trans hfound, fun p hp => (State.findPass_congr hpasses _).trans (hothers p hp),
    by rw [hpasses, hlength], ?_, State.keepsAllBut_trans hframe (State.keepsAllBut_mono hkept (by simp)),
    fun hone i hi => ?_, fun hbusy => ?_, fun hidle hempty e p n policy he hterms => ?_⟩
  · rw [hu, State.lastEnding_startComputation, hslot, if_pos rfl]
  · have hstays : u.slot i = q.slot i := by
      rcases hone with hbusy | hempty
      · rw [hu, State.startComputation_of_busy (by rw [hrfc]; exact hbusy)]
      · rw [hu, State.slot_startComputation]
        rw [hrfc, hempty]
        simp [Ne.symm hi]
    rw [hstays, hslot, if_neg hi]
  · have hq : u = q := by rw [hu, State.startComputation_of_busy (by rw [hrfc]; exact hbusy)]
    rw [hq, hslot, if_pos rfl]
    exact ⟨rfl, hrfc⟩
  · have hqueue : q.rfc.queue = slot :: [] := by
      rw [hrfc, hempty]
      rfl
    have hstart := State.startComputation_of_queued (by rw [hrfc]; exact hidle) hqueue (by rw [hslot, if_pos rfl])
      (hsnap e p n policy he hterms)
    rw [hu, hstart, State.slot_setSlot_self]
    exact ⟨rfl, rfl⟩

/-! ## QUOTE (R148) -/

theorem exec_quote (tag : Byte) (pass : U32) (s : State) : exec (.quote tag pass) s = handle (.quote tag pass) s := rfl

theorem State.quoteRequest_of_fails {s : State} {pass : Nat} {code : StatusCode} (hmode : s.rcc.mode = .run)
    (hpass : legalPass pass = true) (h : s.quoteChecks pass = .fails code) (tag : Byte) :
    s.onlyAnswers (s.quoteRequest tag pass) .quote tag code .nothing := by
  have hanswers : s.quoteRequest tag pass = s.answerCode .quote tag code := by
    simp [State.quoteRequest, hmode, hpass, h]
  rw [hanswers]
  exact s.onlyAnswers_answerCode _ _ _

theorem State.quoteRequest_of_slotFree {s : State} {pass : Nat} {slot : SlotId} (hmode : s.rcc.mode = .run)
    (hpass : legalPass pass = true) (h : s.quoteChecks pass = .slotFree slot) (tag : Byte) :
    s.quoteRequest tag pass = (s.acceptQuote slot pass .line).answer .quote tag .accepted (.slotOpened slot) := by
  simp [State.quoteRequest, hmode, hpass, h]

theorem State.freeSlot_eq_none {s : State} (h : ∀ i, (s.slot i).state ≠ .free) : s.freeSlot = none := by
  simp [State.freeSlot, h]

/-- R149: the lowest FREE slot. -/
theorem State.freeSlot_of_first {s : State} {k : Fin 4} (hk : (s.slot k).state = .free)
    (hbefore : ∀ i : SlotId, i.val < k.val → (s.slot i).state ≠ .free) : s.freeSlot = some k := by
  rw [State.freeSlot, fourInOrder]
  match k with
  | 0 => simp [hk]
  | 1 => simp [hk, hbefore 0 (by decide)]
  | 2 => simp [hk, hbefore 0 (by decide), hbefore 1 (by decide)]
  | 3 => simp [hk, hbefore 0 (by decide), hbefore 1 (by decide), hbefore 2 (by decide)]

/-- R148, checks 4 to 9, of a refundable pass. -/
theorem State.quoteChecks_of_entry {s : State} {pass : Nat} {e : PassEntry} {p : Product} {n : Nat}
    {policy : RefundPolicy} (he : s.findPass pass = some e) (hterms : s.refundTerms e = some (p, n, policy)) :
    (∀ code, quoteStatusFails e.status = some code → s.quoteChecks pass = .fails code) ∧
    (quoteStatusFails e.status = none →
      (e.marker.isSome → s.quoteChecks pass = .fails .pending) ∧
      (e.marker = none → deadlineDay e.start p.window policy.deadlineDays < s.today →
        s.quoteChecks pass = .fails .deadline) ∧
      (e.marker = none → ¬ deadlineDay e.start p.window policy.deadlineDays < s.today →
        (s.freeSlot = none → s.quoteChecks pass = .fails .full) ∧
        ∀ slot, s.freeSlot = some slot → s.quoteChecks pass = .slotFree slot)) := by
  refine ⟨fun code hcode => ?_, fun hstatus => ⟨fun hmarker => ?_, fun hmarker hlate => ?_, fun hmarker hintime =>
    ⟨fun hnone => ?_, fun slot hslot => ?_⟩⟩⟩
  · simp only [State.quoteChecks, he, hterms, hcode]
  · simp only [State.quoteChecks, he, hterms, hstatus, hmarker, if_true]
  · simp [State.quoteChecks, he, hterms, hstatus, hmarker, hlate]
  · simp [State.quoteChecks, he, hterms, hstatus, hmarker, hintime, hnone]
  · simp [State.quoteChecks, he, hterms, hstatus, hmarker, hintime, hslot]

/-- Settles O42: the snapshot's parts, and the nine checks in their order. -/
theorem quoteChecksAndAcceptance : Obligations.QuoteChecksAndAcceptance := by
  refine ⟨fun s e => ⟨fun day h => ?_, fun hnone => ?_, fun v hv => ?_, ?_, s.refundTerms_eq_some_iff e,
    fun p n policy => rfl, s.takeSnapshot_eq_some_iff⟩, fun tag pass s htakes => ?_⟩
  · simp [State.markOf, h]
  · simp [PassEntry.daysUsed, hnone]
  · simp [PassEntry.daysUsed, hv]
  · simp only [State.dayCounts, count_markOf]
  have hasks : asks (.quote tag pass) s (s.quoteRequest tag pass.toNat) := asks_of_handle (exec_quote tag pass s) htakes
  refine ⟨_, hasks, fun hsetup => ?_, fun hrun hpass => ?_, fun hrun hpass hfind => ?_, fun e hrun hpass he => ?_⟩
  · rw [State.quoteRequest, hsetup]
    exact s.onlyAnswers_answerCode _ _ _
  · rw [State.quoteRequest, hrun]
    dsimp only
    rw [if_pos hpass]
    exact s.onlyAnswers_answerCode _ _ _
  · exact State.quoteRequest_of_fails hrun hpass (by simp only [State.quoteChecks, hfind]) tag
  refine ⟨fun hterms => State.quoteRequest_of_fails hrun hpass (by simp only [State.quoteChecks, he, hterms]) tag,
    fun p n policy hterms => ?_⟩
  obtain ⟨hfails, hpasses⟩ := State.quoteChecks_of_entry he hterms
  refine ⟨fun hstatus => ?_, fun hstatus => ?_, fun hheld => ?_, fun hactive hmarker => ?_,
    fun hactive hmarker hlate => ?_, fun hactive hmarker hintime => ?_⟩
  · exact State.quoteRequest_of_fails hrun hpass (hfails _ (by rw [hstatus]; rfl)) tag
  · exact State.quoteRequest_of_fails hrun hpass (hfails _ (by rw [hstatus]; rfl)) tag
  · obtain ⟨k, hk⟩ := e.isHeld_iff.mp hheld
    exact State.quoteRequest_of_fails hrun hpass (hfails _ (by rw [hk]; rfl)) tag
  · exact State.quoteRequest_of_fails hrun hpass ((hpasses (by rw [hactive]; rfl)).1 hmarker) tag
  · exact State.quoteRequest_of_fails hrun hpass ((hpasses (by rw [hactive]; rfl)).2.1 hmarker hlate) tag
  obtain ⟨-, -, hslots⟩ := hpasses (by rw [hactive]; rfl)
  obtain ⟨hnone, hfree⟩ := hslots hmarker (Nat.not_lt.mpr hintime)
  refine ⟨fun hfull => State.quoteRequest_of_fails hrun hpass (hnone (State.freeSlot_eq_none hfull)) tag,
    fun slot hslot hbefore => ?_⟩
  rw [State.quoteRequest_of_slotFree hrun hpass (hfree slot (State.freeSlot_of_first hslot hbefore))]
  generalize hv : s.acceptQuote slot pass.toNat .line = v
  obtain ⟨hfound, hothers, -, hending, hframe, hslots, hbusy, hidle⟩ := s.acceptQuote_spec slot pass.toNat .line hv.symm
  obtain ⟨hreplies, hkept⟩ := State.answer_spec .quote tag .accepted (.slotOpened slot) (hframe .lif (by simp)) hframe
  refine ⟨by rw [State.findPass_answer, hfound, he]; rfl, fun q hq => by rw [State.findPass_answer, hothers q hq], hending,
    hreplies, hkept, fun hb => ?_, fun hnone hempty => ⟨_, rfl, ?_⟩⟩
  · obtain ⟨hstate, hrfc⟩ := hbusy hb
    exact ⟨hstate, hslots (.inl hb), hrfc⟩
  · obtain ⟨hrfc, hstate⟩ := hidle hnone hempty e p n policy he hterms
    exact ⟨hrfc, hstate, hslots (.inr hempty)⟩

end Sys2Proof.Machine
end

section
/-!
PROOFS. The completion of a computation (R132, R152), the drop of a quote (R150), CANCEL (R158) and CONFIRM (R154).
-/

namespace Sys2Proof.Machine

/-! ## The completion (R132) -/

theorem exec_computationCompletion (s : State) :
    exec .computationCompletion s = .next s.completeComputation.settled := rfl

/-- R132: the calculator between the handover and the next start. -/
def State.released (s : State) (c : Computation) : State :=
  (s.handOver c).setRfc { (s.handOver c).rfc with busy := none }

theorem State.completeComputation_of_busy {s : State} {c : Computation} (h : s.rfc.busy = some c) :
    s.completeComputation = (s.released c).startComputation := by
  simp only [State.completeComputation, h, State.released]

theorem State.released_rfc (s : State) (c : Computation) :
    (s.released c).rfc = { busy := none, queue := s.rfc.queue } := by
  simp [State.released]

theorem State.released_keepsAllBut (s : State) (c : Computation) :
    s.keepsAllBut (s.released c) [.rfc, .quotes, .notices] := by
  rw [State.keepsAllBut_iff]
  simp [State.released]

/-- R152: a COMPUTING slot takes the results. -/
theorem State.released_of_computing {s : State} {c : Computation} {i : QuoteIdentity} {x : Snapshot}
    (h : (s.slot c.slot).state = .computing i x) :
    (s.released c).quotes = s.quotes.set c.slot
      { s.slot c.slot with state := .quoted i x c.results (s.stamp + s.rcc.site.holdTime) } ∧
    (s.released c).notices = s.notices.raise (.quoteReady c.slot) := by
  have hover : s.handOver c = (s.setSlot c.slot
      { s.slot c.slot with state := .quoted i x c.results (s.stamp + s.rcc.site.holdTime) }).raise
        (.quoteReady c.slot) := by
    simp only [State.handOver, h]
  rw [State.released, hover]
  exact ⟨rfl, rfl⟩

/-- R152: of a CANCELLING slot the results are discarded. -/
theorem State.released_of_cancelling {s : State} {c : Computation} (h : (s.slot c.slot).state = .cancelling) :
    (s.released c).quotes = s.quotes.set c.slot { s.slot c.slot with state := .free } ∧
    (s.released c).notices = s.notices := by
  have hover : s.handOver c = s.setSlot c.slot { s.slot c.slot with state := .free } := by
    simp only [State.handOver, h]
  rw [State.released, hover]
  exact ⟨rfl, rfl⟩

theorem State.slot_released_of_ne {s : State} {c : Computation} {k : SlotId} (h : k ≠ c.slot) :
    (s.released c).slot k = s.slot k := by
  have hover : (s.handOver c).slot k = s.slot k := by
    unfold State.handOver
    split
    · exact (s.slot_setSlot _ _ _).trans (if_neg h)
    · exact (s.slot_setSlot _ _ _).trans (if_neg h)
    · rfl
    · rfl
    · rfl
  exact hover

/-- A slot the queue does not hold is not started. -/
theorem State.slot_completed {s : State} {c : Computation} {k : SlotId} (h : k ∉ s.rfc.queue) :
    ((s.released c).startComputation).slot k = (s.released c).slot k := by
  refine State.slot_startComputation fun hhead => h ?_
  rw [State.released_rfc] at hhead
  exact List.mem_of_mem_head? hhead

/-- Settles O45: an IDLE calculator, and the computation handed over. -/
theorem completionQuotesTheSlot : Obligations.CompletionQuotesTheSlot := by
  refine fun s => ⟨fun hidle => ?_, fun c hc => ?_⟩
  · rw [ends, exec_computationCompletion, State.completeComputation]
    simp only [hidle]
  have hnotices : (s.released c).startComputation.notices = (s.released c).notices :=
    (s.released c).startComputation_frame.2.2.2.2.2.2.2.2.2.2.1
  have hrfc := s.released_rfc c
  have hkept : (s.released c).keepsAllBut (s.released c).startComputation [.rfc, .quotes] := by
    rw [State.keepsAllBut_iff]
    simp
  refine ⟨(s.released c).startComputation, by rw [ends, exec_computationCompletion, State.completeComputation_of_busy hc],
    State.keepsAllBut_trans (s.released_keepsAllBut c) (State.keepsAllBut_mono hkept (by simp)), fun k hk hout => ?_,
    fun hempty => ?_, fun i x hcomputing hout hsteps hwork => ?_, fun hcancelling hout => ?_,
    fun k rest i x hq hk hqueued hx => ?_⟩
  · rw [State.slot_completed hout, State.slot_released_of_ne hk]
  · rw [State.startComputation_of_empty (by rw [hrfc]; exact hempty), hrfc, hempty]
  · obtain ⟨hquotes, hraise⟩ := State.released_of_computing hcomputing
    refine ⟨?_, hnotices.trans hraise⟩
    rw [State.slot_completed hout, State.slot, hquotes, Quad.get_set_self, c.results_eq hsteps hwork]
  · obtain ⟨hquotes, hraise⟩ := State.released_of_cancelling hcancelling
    refine ⟨?_, hnotices.trans hraise⟩
    rw [State.slot_completed hout, State.slot, hquotes, Quad.get_set_self]
  · have hslot := State.slot_released_of_ne (s := s) hk
    have hsame := s.released_keepsAllBut c
    have hsnap : (s.released c).takeSnapshot i.pass = some x := by
      obtain ⟨e, p, n, policy, he, hterms, rfl⟩ := (s.takeSnapshot_eq_some_iff i.pass x).mp hx
      have hfind : (s.released c).findPass i.pass = some e :=
        (State.findPass_congr (hsame .passes (by simp)) _).trans he
      have hproduct : (s.released c).refundTerms e = some (p, n, policy) := by
        rw [State.refundTerms_eq_some_iff, State.product?_congr (hsame .tariff (by simp)),
          ← State.refundTerms_eq_some_iff]
        exact hterms
      have hcounts : (s.released c).dayCounts e = s.dayCounts e := by
        have hrcc : (s.released c).rcc = s.rcc := hsame .rcc (by simp)
        simp only [State.dayCounts, State.markOf, hrcc]
      rw [State.takeSnapshot_of_entry hfind hproduct, State.snapshotOf, State.snapshotOf, hcounts]
    have hstart := State.startComputation_of_queued (by rw [hrfc]) (by rw [hrfc]; exact hq) (hslot ▸ hqueued) hsnap
    refine ⟨by rw [hstart]; rfl, ?_, fun j hjk hjc => ?_⟩
    · rw [hstart, State.slot_setSlot_self, hslot]
    · rw [hstart, State.slot_setSlot, if_neg hjk]
      exact State.slot_released_of_ne hjc

/-! ## The drop (R150) -/

/-- R150, block by block. -/
theorem State.dropQuote_spec {s u : State} {slot : SlotId} {reason : DropReason} {i : QuoteIdentity}
    (hi : (s.slot slot).state.identity? = some i) (hu : u = s.dropQuote slot reason) :
    u.findPass i.pass = (s.findPass i.pass).map (fun e => { e with status := .active }) ∧
    (∀ q, q ≠ i.pass → u.findPass q = s.findPass q) ∧ u.passes.length = s.passes.length ∧
    u.quotes = s.quotes.set slot
      { state := if (s.slot slot).state.phase = .computing then .cancelling else .free,
        lastEnding := some { pass := i.pass, reason := reason } } ∧
    u.rfc = { s.rfc with queue := s.rfc.queue.filter fun k => k ≠ slot } ∧
    u.journal = s.journal.write s.stamp (.quoteDropped i.pass slot reason) ∧
    u.notices = (if u.journal.isHigh then s.notices.raise .journalHigh else s.notices).raise (.quoteEnded slot) ∧
    s.keepsAllBut u [.passes, .rfc, .quotes, .journal, .notices] := by
  rw [State.dropQuote_eq hi] at hu
  obtain ⟨hpasses, hrfc, hquotes, hj, hn⟩ :=
    s.dropTo_spec slot i.pass reason (if (s.slot slot).state.phase = .computing then .cancelling else .free)
  rw [← hu] at hpasses hrfc hquotes hj hn
  obtain ⟨hfound, hothers, hlength⟩ := State.findPass_of_updateIn hpasses fun _ => rfl
  have hframe : s.keepsAllBut u [.passes, .rfc, .quotes, .journal, .notices] := by
    rw [hu, State.keepsAllBut_iff]
    simp
  have hleft : s.rfc.queue.filter (fun k => k != slot) = s.rfc.queue.filter fun k => k ≠ slot :=
    List.filter_congr fun k _ => by rw [Bool.eq_iff_iff]; simp
  rw [hleft] at hrfc
  exact ⟨hfound, hothers, hlength, hquotes, hrfc, hj, by rw [hj]; exact hn, hframe⟩

/-! ## CANCEL (R158) -/

theorem exec_cancel (tag slot : Byte) (pass : U32) (s : State) :
    exec (.cancel tag slot pass) s = handle (.cancel tag slot pass) s := rfl

theorem exec_holdExpiry (s : State) : exec .holdExpiry s = .next s.expireHolds.settled := rfl

theorem SlotState.identity?_eq_none_iff (x : SlotState) : x.identity? = none ↔ x = .free ∨ x = .cancelling := by
  cases x <;> simp [SlotState.identity?]

theorem State.cancelRequest_of_out {s : State} {tag slot : Byte} {pass : Nat}
    (h : fourOf slot = none ∨ legalPass pass = false) :
    s.cancelRequest tag slot pass = s.answerCode .cancel tag .badValue := by
  unfold State.cancelRequest
  split
  · rfl
  · rename_i k hk
    rcases h with hnone | hillegal
    · rw [hk] at hnone
      exact absurd hnone nofun
    · rw [if_pos hillegal]

theorem State.cancelRequest_of_slot {s : State} {slot : Byte} {pass : Nat} {k : SlotId} (hk : fourOf slot = some k)
    (hpass : legalPass pass = true) (tag : Byte) : s.cancelRequest tag slot pass = s.cancelSlot tag k pass := by
  simp [State.cancelRequest, hk, hpass]

/-- Settles O44: the drop, the holds that fall due, and CANCEL. -/
theorem quotesEndUnsettled : Obligations.QuotesEndUnsettled := by
  refine ⟨⟨fun s u slot reason i hi hu => State.dropQuote_spec hi hu, fun s => ?_, fun s k =>
    ⟨fun h => State.expireHold_of_not_due h, fun i x r expiry h hdue => State.expireHold_of_due h hdue⟩⟩,
    fun tag slot pass s htakes => ?_⟩
  · rw [ends, exec_holdExpiry]
    rfl
  have hasks : asks (.cancel tag slot pass) s (s.cancelRequest tag slot pass.toNat) :=
    asks_of_handle (exec_cancel tag slot pass s) htakes
  refine ⟨_, hasks, fun hout => ?_, fun k hk hpass => ?_⟩
  · rw [State.cancelRequest_of_out hout]
    exact s.onlyAnswers_answerCode _ _ _
  rw [State.cancelRequest_of_slot hk hpass, State.cancelSlot]
  refine ⟨fun hempty => ?_, fun i hi => ⟨fun hother => ?_, fun hsame => ?_⟩⟩
  · rw [(SlotState.identity?_eq_none_iff _).mpr hempty]
    exact s.onlyAnswers_answerCode _ _ _
  · rw [hi]
    dsimp only
    rw [if_neg hother]
    exact s.onlyAnswers_answerCode _ _ _
  · rw [hi]
    dsimp only
    rw [if_pos hsame]
    exact (s.dropQuote k .cancelled).onlyAnswers_answerCode _ _ _

/-! ## CONFIRM (R154 to R157) -/

theorem exec_confirm (tag slot : Byte) (pass : U32) (s : State) :
    exec (.confirm tag slot pass) s = handle (.confirm tag slot pass) s := rfl

theorem State.confirmRequest_of_out {s : State} {tag slot : Byte} {pass : Nat}
    (h : fourOf slot = none ∨ legalPass pass = false) :
    s.confirmRequest tag slot pass = s.answerCode .confirm tag .badValue := by
  unfold State.confirmRequest
  split
  · rfl
  · rename_i k hk
    rcases h with hnone | hillegal
    · rw [hk] at hnone
      exact absurd hnone nofun
    · rw [if_pos hillegal]

theorem State.confirmRequest_of_slot {s : State} {slot : Byte} {pass : Nat} {k : SlotId} (hk : fourOf slot = some k)
    (hpass : legalPass pass = true) (tag : Byte) : s.confirmRequest tag slot pass = s.confirmSlot tag k pass := by
  simp [State.confirmRequest, hk, hpass]

/-- R154, checks 2 to 4: a slot without a quote, one of another pass, and one not yet QUOTED. -/
theorem State.confirmSlot_refuses (s : State) (tag : Byte) (k : SlotId) (pass : Nat) :
    ((s.slot k).state = .free → s.confirmSlot tag k pass = s.answerCode .confirm tag .notFound) ∧
    ((s.slot k).state = .cancelling → s.confirmSlot tag k pass = s.answerCode .confirm tag .busy) ∧
    (∀ i, (s.slot k).state.identity? = some i → i.pass ≠ pass →
      s.confirmSlot tag k pass = s.answerCode .confirm tag .badValue) ∧
    (∀ i, (s.slot k).state.identity? = some i → i.pass = pass → (s.slot k).state.phase ≠ .quoted →
      s.confirmSlot tag k pass = s.answerCode .confirm tag .busy) := by
  unfold State.confirmSlot
  cases hstate : (s.slot k).state <;> simp_all [SlotState.identity?, SlotState.phase]

theorem State.confirmSlot_of_quoted {s : State} {k : SlotId} {i : QuoteIdentity} {x : Snapshot} {r : Results}
    {expiry pass : Nat} (h : (s.slot k).state = .quoted i x r expiry) (hi : i.pass = pass) (tag : Byte) :
    s.confirmSlot tag k pass = s.confirmQuoted tag k i x r := by
  simp only [State.confirmSlot, h, if_pos hi]

/-- R155: the recount of the day counts. -/
theorem State.fingerprintHolds_eq {s : State} {pass : Nat} {e : PassEntry} (he : s.findPass pass = some e)
    (x : Snapshot) : s.fingerprintHolds pass x = true ↔
      s.dayCounts e = { fullDays := x.fullDays, stormDays := x.stormDays, noServiceDays := x.noServiceDays } := by
  simp [State.fingerprintHolds, he]

/-- R157: the settlement, block by block. -/
theorem State.settle_spec (s : State) (k : SlotId) (items : Settlement) {u : State} (hu : u = s.settle k items) :
    u.findPass items.pass = (s.findPass items.pass).map (fun e => { e with status := .refunded }) ∧
    (∀ q, q ≠ items.pass → u.findPass q = s.findPass q) ∧
    s.recorded u (.settlement items) ∧
    u.tally = { s.tally with today := { s.tally.today with
      refundsSettled := bump s.tally.today.refundsSettled
      payoutTotal := satAdd Config.payoutCeiling s.tally.today.payoutTotal items.payout } } ∧
    u.quotes = s.quotes.set k { s.slot k with state := .free } ∧
    s.keepsAllBut u [.passes, .tally, .quotes, .journal, .notices] := by
  have hframe : s.keepsAllBut u [.passes, .tally, .quotes, .journal, .notices] := by
    rw [hu, State.keepsAllBut_iff]
    simp
  generalize hw : (s.updatePass items.pass fun e => { e with status := .refunded }) = w
  have hsw : s.keepsAllBut w [.passes] := by
    rw [← hw, State.keepsAllBut_iff]
    simp
  have hpasses : w.passes = updateIn items.pass (fun e => { e with status := .refunded }) s.passes := by
    rw [← hw, State.updatePass_passes]
  have hrecorded : s.recorded (w.writeRecord (.settlement items)) (.settlement items) :=
    State.recorded_of_rcc _ (State.stamp_congr (hsw .rcc (by simp))) (hsw .journal (by simp)) (hsw .notices (by simp))
  have hkept := w.keepsAllBut_writeRecord (.settlement items)
  generalize hv : w.writeRecord (.settlement items) = v at hrecorded hkept
  have hsettle : u = (v.countSettlement items.payout).setSlot k
      { (v.countSettlement items.payout).slot k with state := .free } := by
    rw [hu, ← hv, ← hw]
    rfl
  have hvu : v.keepsAllBut u [.tally, .quotes] := by
    rw [hsettle, State.keepsAllBut_iff]
    simp
  have hquotes : v.quotes = s.quotes := (hkept .quotes (by simp)).trans (hsw .quotes (by simp))
  have htally : v.tally = s.tally := (hkept .tally (by simp)).trans (hsw .tally (by simp))
  obtain ⟨hj, hn⟩ := hrecorded
  have hpassesu : u.passes = updateIn items.pass (fun e => { e with status := .refunded }) s.passes := by
    rw [hvu .passes (by simp), hkept .passes (by simp), hpasses]
  obtain ⟨hfound, hothers, -⟩ := State.findPass_of_updateIn hpassesu fun _ => rfl
  refine ⟨hfound, hothers, ⟨(hvu .journal (by simp)).trans hj, (hvu .notices (by simp)).trans hn⟩, ?_, ?_, hframe⟩
  · have hcount : u.tally = (v.countSettlement items.payout).tally := by rw [hsettle]; rfl
    rw [hcount, State.countSettlement, State.setToday_tally, htally]
  · rw [hsettle, State.setSlot, State.setQuotes_quotes, State.slot, State.countSettlement_frame _ _ |>.2.2.2.2.2.2.2.2.2.1,
      hquotes, State.slot]

/-- R154, checks 6 to 9, and R157: a QUOTED slot, of the pass given. -/
theorem State.confirmQuoted_spec {s : State} {tag : Byte} {k : SlotId} {i : QuoteIdentity} {x : Snapshot} {r : Results} :
    (r.payout = 0 → s.onlyAnswers (s.confirmQuoted tag k i x r) .confirm tag .nothingDue .nothing) ∧
    (∀ e, 0 < r.payout → s.findPass i.pass = some e →
      (s.dayCounts e ≠ { fullDays := x.fullDays, stormDays := x.stormDays, noServiceDays := x.noServiceDays } →
        s.confirmQuoted tag k i x r = (s.dropQuote k .stale).answer .confirm tag .stale (.slotDropped k .stale)) ∧
      (s.dayCounts e = { fullDays := x.fullDays, stormDays := x.stormDays, noServiceDays := x.noServiceDays } →
        (deadlineDay x.start x.window x.deadlineDays < s.today → s.confirmQuoted tag k i x r =
          (s.dropQuote k .deadline).answer .confirm tag .deadline (.slotDropped k .deadline)) ∧
        (¬ deadlineDay x.start x.window x.deadlineDays < s.today →
          (Config.settlementCapacity ≤ s.journal.settlementCount →
            s.onlyAnswers (s.confirmQuoted tag k i x r) .confirm tag .journalFull .nothing) ∧
          (¬ Config.settlementCapacity ≤ s.journal.settlementCount → s.confirmQuoted tag k i x r =
            (s.settle k (settlementOf k i r)).answer .confirm tag .ok (.settled (settlementOf k i r)))))) := by
  refine ⟨fun hzero => ?_, fun e hpayout he => ⟨fun hstale => ?_, fun hcounts => ?_⟩⟩
  · rw [State.confirmQuoted, if_pos hzero]
    exact s.onlyAnswers_answerCode _ _ _
  · have hfails : s.fingerprintHolds i.pass x = false := by
      rw [← Bool.not_eq_true, State.fingerprintHolds_eq he]
      exact hstale
    rw [State.confirmQuoted, if_neg (Nat.pos_iff_ne_zero.mp hpayout), if_pos hfails]
    rfl
  · have hholds := (State.fingerprintHolds_eq he x).mpr hcounts
    have hquoted : s.confirmQuoted tag k i x r =
        if s.deadlinePassed x then s.confirmDrops tag k .deadline .deadline
        else if Config.settlementCapacity ≤ s.journal.settlementCount then s.answerCode .confirm tag .journalFull
        else (s.settle k (settlementOf k i r)).answer .confirm tag .ok (.settled (settlementOf k i r)) := by
      rw [State.confirmQuoted, if_neg (Nat.pos_iff_ne_zero.mp hpayout), if_neg (by simp [hholds])]
    rw [hquoted]
    refine ⟨fun hlate => ?_, fun hintime => ⟨fun hfull => ?_, fun hroom => ?_⟩⟩
    · rw [if_pos (by simp [State.deadlinePassed, hlate])]
      rfl
    · rw [if_neg (by simpa [State.deadlinePassed] using hintime), if_pos hfull]
      exact s.onlyAnswers_answerCode _ _ _
    · rw [if_neg (by simpa [State.deadlinePassed] using hintime), if_neg hroom]

/-- Settles O43: the nine checks in their order, and the settlement. -/
theorem confirmSettlesOrRefuses : Obligations.ConfirmSettlesOrRefuses := by
  intro tag slot pass s htakes
  have hasks : asks (.confirm tag slot pass) s (s.confirmRequest tag slot pass.toNat) :=
    asks_of_handle (exec_confirm tag slot pass s) htakes
  refine ⟨_, hasks, fun hout => ?_, fun k hk hpass => ?_⟩
  · rw [State.confirmRequest_of_out hout]
    exact s.onlyAnswers_answerCode _ _ _
  rw [State.confirmRequest_of_slot hk hpass]
  obtain ⟨hfree, hcancelling, hother, hearly⟩ := s.confirmSlot_refuses tag k pass.toNat
  refine ⟨fun h => ?_, fun h => ?_, fun i hi hne => ?_, fun i hi hsame hphase => ?_, fun i x r expiry hquoted hsame => ?_⟩
  · rw [hfree h]
    exact s.onlyAnswers_answerCode _ _ _
  · rw [hcancelling h]
    exact s.onlyAnswers_answerCode _ _ _
  · rw [hother i hi hne]
    exact s.onlyAnswers_answerCode _ _ _
  · rw [hearly i hi hsame hphase]
    exact s.onlyAnswers_answerCode _ _ _
  rw [State.confirmSlot_of_quoted hquoted hsame]
  obtain ⟨hnothing, hdue⟩ := State.confirmQuoted_spec (s := s) (tag := tag) (k := k) (i := i) (x := x) (r := r)
  refine ⟨hnothing, fun e hpayout he => ?_⟩
  rw [← hsame] at he ⊢
  obtain ⟨hstale, hrecount⟩ := hdue e hpayout he
  refine ⟨hstale, fun hcounts => ?_⟩
  obtain ⟨hlate, hintime⟩ := hrecount hcounts
  refine ⟨hlate, fun hday => ?_⟩
  obtain ⟨hfull, hroom⟩ := hintime (Nat.not_lt.mpr hday)
  refine ⟨hfull, fun hcount => ⟨settlementOf k i r, rfl, ?_⟩⟩
  rw [hroom (Nat.not_le.mpr hcount)]
  obtain ⟨hfound, hothers, hrecorded, htally, hquotes, hframe⟩ := s.settle_spec k (settlementOf k i r) rfl
  obtain ⟨hreplies, hkept⟩ := State.answer_spec .confirm tag .ok (.settled (settlementOf k i r))
    (hframe .lif (by simp)) hframe
  generalize s.settle k (settlementOf k i r) = v at hfound hothers hrecorded htally hquotes hreplies hkept
  have hslots : ∀ j, (v.answer .confirm tag .ok (.settled (settlementOf k i r))).slot j =
      if j = k then { s.slot k with state := .free } else s.slot j := fun j => by
    rw [State.slot_congr (s := v) (by simp), State.slot, hquotes, Quad.get_set]
    rfl
  refine ⟨?_, fun q hq => ?_, hrecorded.answer _ _ _ _, ?_, ?_, fun j hj => ?_, hreplies, hkept⟩
  · rw [State.findPass_answer]
    exact hfound.trans (by rw [settlementOf, he]; rfl)
  · rw [State.findPass_answer]
    exact hothers q hq
  · rw [State.answer_frame _ _ _ _ _ |>.2.2.2.2.2.2.2.1, htally]
    rfl
  · rw [hslots, if_pos rfl]
  · rw [hslots, if_neg hj]

end Sys2Proof.Machine
end

section
/-!
PROOFS. The grant of a DESK request: the lookup, the auto-quote and the desk indication (R84, R97, R151).
-/

namespace Sys2Proof.Machine

/-! ## The auto-quote (R151) -/

theorem State.autoQuote_of_off {s : State} {l : LaneId} (h : (s.lane l).autoQuote = false) (pass : Nat) :
    s.autoQuote l pass = (s, .autoQuoteOff) := by
  simp [State.autoQuote, h]

theorem State.autoQuote_of_setup {s : State} {l : LaneId} (h : (s.lane l).autoQuote = true)
    (hmode : s.rcc.mode = .setup) (pass : Nat) : s.autoQuote l pass = (s, .refusedWith .wrongMode) := by
  simp [State.autoQuote, h, hmode]

theorem State.autoQuote_of_fails {s : State} {l : LaneId} {pass : Nat} {code : StatusCode}
    (h : (s.lane l).autoQuote = true) (hmode : s.rcc.mode = .run) (hcheck : s.quoteChecks pass = .fails code) :
    s.autoQuote l pass = (s, .refusedWith code) := by
  simp [State.autoQuote, h, hmode, hcheck]

theorem State.autoQuote_of_slotFree {s : State} {l : LaneId} {pass : Nat} {slot : SlotId}
    (h : (s.lane l).autoQuote = true) (hmode : s.rcc.mode = .run) (hcheck : s.quoteChecks pass = .slotFree slot) :
    s.autoQuote l pass = (s.acceptQuote slot pass (.desk l), .opened slot) := by
  simp [State.autoQuote, h, hmode, hcheck]

/-- R151: without an opened quote nothing changes. -/
theorem State.autoQuote_of_unopened {s : State} {l : LaneId} {pass : Nat}
    (h : ∀ slot, (s.autoQuote l pass).2 ≠ .opened slot) : (s.autoQuote l pass).1 = s := by
  unfold State.autoQuote at h ⊢
  (repeat' split) <;> simp_all

theorem State.autoQuote_keepsAllBut (s : State) (l : LaneId) (pass : Nat) :
    s.keepsAllBut (s.autoQuote l pass).1 [.passes, .rfc, .quotes] := by
  rw [State.keepsAllBut_iff]
  simp

/-! ## The lookup served (R84) -/

/-- R84, step 1. -/
def State.countDeskRead (s : State) (l : LaneId) : State :=
  s.countLane l fun c => { c with deskReads := bump c.deskReads }

/-- R84, block by block. -/
theorem State.serveLookup_spec (s : State) (l : LaneId) (r : LookupResult) {u a : State} {q : QuoteItem}
    (ha : ((s.countDeskRead l).autoQuote l r.pass) = (a, q)) (hu : u = s.serveLookup l r) :
    u.passes = a.passes ∧ u.quotes = a.quotes ∧ u.rfc = a.rfc ∧
    u.tally = s.tallyWith l { s.counters l with deskReads := bump (s.counters l).deskReads } ∧
    u.lanes = (if s.laneState l = .fault then s.lanes else s.lanes.set l { s.lane l with display := some .served }) ∧
    u.notices = s.notices.raise (.deskRead l { lookup := r, quote := q }) ∧
    s.keepsAllBut u [.passes, .lanes, .tally, .rfc, .quotes, .notices] := by
  have hread : s.keepsAllBut (s.countDeskRead l) [.tally] := s.countLane_keepsAllBut l _
  have htally : (s.countDeskRead l).tally =
      s.tallyWith l { s.counters l with deskReads := bump (s.counters l).deskReads } := rfl
  have hquote := (s.countDeskRead l).autoQuote_keepsAllBut l r.pass
  rw [ha] at hquote
  generalize hv : a.raise (.deskRead l { lookup := r, quote := q }) = v
  have hserve : u = v.startDisplay l .served := by
    rw [hu, ← hv]
    change (((s.countDeskRead l).autoQuote l r.pass).1.raise
      (.deskRead l { lookup := r, quote := ((s.countDeskRead l).autoQuote l r.pass).2 })).startDisplay l .served = _
    rw [ha]
  have hraise : a.keepsAllBut v [.notices] := by
    rw [← hv, State.keepsAllBut_iff]
    simp
  have hshow : v.keepsAllBut u [.lanes] := hserve ▸ v.startDisplay_keepsAllBut l .served
  have hav : a.keepsAllBut u [.lanes, .notices] :=
    State.keepsAllBut_trans (State.keepsAllBut_mono hraise (by simp)) (State.keepsAllBut_mono hshow (by simp))
  have hsa : s.keepsAllBut a [.tally, .passes, .rfc, .quotes] :=
    State.keepsAllBut_trans (State.keepsAllBut_mono hread (by simp)) (State.keepsAllBut_mono hquote (by simp))
  have hsv : s.keepsAllBut v [.tally, .passes, .rfc, .quotes, .notices] :=
    State.keepsAllBut_trans (State.keepsAllBut_mono hsa (by simp)) (State.keepsAllBut_mono hraise (by simp))
  have hlanesv : v.lanes = s.lanes := hsv .lanes (by simp)
  have hlanev : v.lane l = s.lane l := State.lane_congr hlanesv l
  have hstate : v.laneState l = s.laneState l :=
    State.laneState_congr (by rw [hlanev]) (by rw [hlanev]) (hsv .pbl (by simp)) (hsv .rcc (by simp)) (hsv .ae (by simp))
  have hnoticesa : a.notices = s.notices := hsa .notices (by simp)
  refine ⟨hav .passes (by simp), hav .quotes (by simp), hav .rfc (by simp), ?_, ?_, ?_,
    State.keepsAllBut_trans (State.keepsAllBut_mono hsa (by simp)) (State.keepsAllBut_mono hav (by simp))⟩
  · rw [hav .tally (by simp), hquote .tally (by simp), htally]
  · rw [hserve, State.startDisplay_lanes, hstate, hlanesv, hlanev]
  · rw [hshow .notices (by simp), ← hv, State.raise_notices, hnoticesa]

/-! ## The lookup (R97) -/

theorem State.lookup_of_unknown {s : State} {pass : Nat} (h : s.findPass pass = none) :
    s.lookup pass = { pass := pass, status := none, product := none, days := none
                      counts := { fullDays := 0, stormDays := 0, noServiceDays := 0 } } := by
  simp only [State.lookup, h]

theorem State.lookup_of_entry {s : State} {pass : Nat} {e : PassEntry} (h : s.findPass pass = some e) :
    s.lookup pass = { pass := pass, status := some e.status, product := some e.product, days := s.lookupDays e
                      counts := s.dayCounts e } := by
  simp only [State.lookup, h]

theorem State.lookup_pass (s : State) (pass : Nat) : (s.lookup pass).pass = pass := by
  cases h : s.findPass pass with
  | none => rw [State.lookup_of_unknown h]
  | some e => rw [State.lookup_of_entry h]

/-! ## The grant -/

/-- R97, R151: the desk decision under a RUNNING clock; the lookup and the checks read nothing that the grant changes. -/
theorem State.deskDecision_of_running {s : State} {l : LaneId} (h : s.rcc.clock.state = .running) (pass : Nat) :
    (s.leaveSet l).deskDecision l pass = (s.leaveSet l).serveLookup l (s.lookup pass) := by
  have hrun : (s.leaveSet l).clockRunning = true := (s.leaveSet l).clockRunning_eq_true_iff.mpr h
  rw [State.deskDecision, if_neg (by simp [hrun])]
  rfl

theorem State.deskDecision_of_stopped {s : State} {l : LaneId} (h : s.rcc.clock.state ≠ .running) (pass : Nat) :
    (s.leaveSet l).deskDecision l pass = (s.leaveSet l).refuse l .noClock (some pass) := by
  have hstopped : (s.leaveSet l).clockRunning = false := by
    rw [← Bool.not_eq_true, State.clockRunning_eq_true_iff]
    exact h
  rw [State.deskDecision, if_pos hstopped]

/-- R151: the quote item, by the switch of the lane, the mode and the checks, and what an opened quote does. -/
theorem State.deskQuote_spec (s : State) (l : LaneId) (pass : Nat) {u a : State} {q : QuoteItem}
    (ha : ((s.leaveSet l).countDeskRead l).autoQuote l pass = (a, q)) (hpasses : u.passes = a.passes)
    (hquotes : u.quotes = a.quotes) (hrfc : u.rfc = a.rfc) :
    ((s.lane l).autoQuote = false → q = .autoQuoteOff) ∧
    ((s.lane l).autoQuote = true → s.rcc.mode = .setup → q = .refusedWith .wrongMode) ∧
    (∀ code, (s.lane l).autoQuote = true → s.rcc.mode = .run → s.quoteChecks pass = .fails code →
      q = .refusedWith code) ∧
    (∀ slot, (s.lane l).autoQuote = true → s.rcc.mode = .run → s.quoteChecks pass = .slotFree slot →
      q = .opened slot ∧ (u.slot slot).lastEnding = (s.slot slot).lastEnding ∧
      (s.rfc.busy.isSome ∨ s.rfc.queue = [] → ∀ i, i ≠ slot → u.slot i = s.slot i) ∧
      u.findPass pass = (s.findPass pass).map (fun e => { e with status := .refundHold slot }) ∧
      (∀ p, p ≠ pass → u.findPass p = s.findPass p) ∧ u.passes.length = s.passes.length ∧
      (s.rfc.busy.isSome →
        (u.slot slot).state = .queued { pass := pass, source := .desk l } ∧
        u.rfc = { s.rfc with queue := s.rfc.queue ++ [slot] }) ∧
      (s.rfc.busy = none → s.rfc.queue = [] → ∀ e p n policy, s.findPass pass = some e →
        s.refundTerms e = some (p, n, policy) →
        u.rfc = { busy := some { slot := slot, snapshot := s.snapshotOf e p n policy, steps := 0,
                                 work := Working.start }, queue := [] } ∧
        (u.slot slot).state =
          .computing { pass := pass, source := .desk l } (s.snapshotOf e p n policy))) ∧
    ((∀ slot, q ≠ .opened slot) → u.passes = s.passes ∧ u.quotes = s.quotes ∧ u.rfc = s.rfc) := by
  generalize hw : (s.leaveSet l).countDeskRead l = w at ha
  have hlane : (w.lane l).autoQuote = (s.lane l).autoQuote := by rw [← hw]; rfl
  have hmode : w.rcc.mode = s.rcc.mode := by rw [← hw]; rfl
  have hchecks : w.quoteChecks pass = s.quoteChecks pass := by rw [← hw]; rfl
  have hkept : w.passes = s.passes ∧ w.quotes = s.quotes ∧ w.rfc = s.rfc := by rw [← hw]; exact ⟨rfl, rfl, rfl⟩
  obtain ⟨hpassesw, hquotesw, hrfcw⟩ := hkept
  have hfindw := fun p => State.findPass_congr (s := s) (u := w) hpassesw p
  have hslotw := fun i => State.slot_congr (s := s) (u := w) hquotesw i
  have hterms : ∀ e, w.refundTerms e = s.refundTerms e := by rw [← hw]; exact fun _ => rfl
  have hsnap : ∀ e p n policy, w.snapshotOf e p n policy = s.snapshotOf e p n policy := by
    rw [← hw]
    exact fun _ _ _ _ => rfl
  have hslot := fun i => State.slot_congr (s := a) (u := u) hquotes i
  have hfind := fun p => State.findPass_congr (s := a) (u := u) hpasses p
  refine ⟨fun hoff => ?_, fun hon hsetup => ?_, fun code hon hrun hfails => ?_, fun slot hon hrun hfree => ?_,
    fun hunopened => ?_⟩
  · rw [State.autoQuote_of_off (hlane.trans hoff)] at ha
    exact (Prod.mk.inj ha).2.symm
  · rw [State.autoQuote_of_setup (hlane.trans hon) (hmode.trans hsetup)] at ha
    exact (Prod.mk.inj ha).2.symm
  · rw [State.autoQuote_of_fails (hlane.trans hon) (hmode.trans hrun) (hchecks.trans hfails)] at ha
    exact (Prod.mk.inj ha).2.symm
  · rw [State.autoQuote_of_slotFree (hlane.trans hon) (hmode.trans hrun) (hchecks.trans hfree)] at ha
    obtain ⟨haccept, hq⟩ := Prod.mk.inj ha
    obtain ⟨hfound, hothers, hlength, hending, -, hslots, hbusy, hidle⟩ :=
      w.acceptQuote_spec slot pass (.desk l) haccept.symm
    simp only [hfindw, hslotw, hrfcw, hterms, hsnap] at hfound hothers hending hslots hbusy hidle
    simp only [hfind, hslot, hrfc]
    exact ⟨hq.symm, hending, hslots, hfound, hothers, by rw [hpasses, hlength, hpassesw], hbusy, hidle⟩
  · have hsame : a = w := by
      have h := State.autoQuote_of_unopened (s := w) (l := l) (pass := pass)
      rw [ha] at h
      exact h hunopened
    rw [hpasses, hquotes, hrfc, hsame]
    exact ⟨hpassesw, hquotesw, hrfcw⟩

/-- Settles O33: the stopped clock, and the lookup served. -/
theorem deskGrantServesTheLookup : Obligations.DeskGrantServesTheLookup := by
  intro s l pass hl hr
  have hgrant : s.grant = (s.leaveSet l).deskDecision l pass := State.grant_of_granted hl hr
  refine ⟨fun hnone => State.lookup_of_unknown hnone, fun e he => ?_, _, by rw [ends, exec_grant, hgrant],
    by simp [State.leaveSet_ae], fun hstopped => State.deskDecision_of_stopped hstopped pass, fun hrunning => ?_⟩
  · rw [State.lookup_of_entry he]
    exact ⟨rfl, rfl, rfl, rfl, s.lookupDays_eq_some_iff e⟩
  rw [State.deskDecision_of_running hrunning]
  generalize hu : (s.leaveSet l).serveLookup l (s.lookup pass) = u
  obtain ⟨⟨a, q⟩, ha⟩ : ∃ x, ((s.leaveSet l).countDeskRead l).autoQuote l (s.lookup pass).pass = x := ⟨_, rfl⟩
  obtain ⟨hpasses, hquotes, hrfc, htally, hlanes, hnotices, hframe⟩ := (s.leaveSet l).serveLookup_spec l _ ha hu.symm
  rw [State.lookup_pass] at ha
  obtain ⟨hoff, hsetup, hfails, hopened, hunopened⟩ := s.deskQuote_spec l pass ha hpasses hquotes hrfc
  refine ⟨htally, fun hworks => ?_, fun hfault => ?_, ⟨q, hnotices, hoff, hsetup, hfails, hopened, hunopened⟩, ?_⟩
  · rw [hlanes, if_neg hworks]
    rfl
  · rw [hlanes, if_pos hfault]
    rfl
  · exact State.keepsAllBut_trans (State.keepsAllBut_mono (s.leaveSet_keepsAllBut l) (by simp))
      (State.keepsAllBut_mono hframe (by simp))

end Sys2Proof.Machine
end

section
/-!
PROOFS. The divider, the multiplier and the accumulator (R134, R135, R140), and the refund in closed form (R136 to R144).
-/

namespace Sys2Proof.Machine

/-! ## The divider and the multiplier -/

/-- R134: a step of the divider takes one more bit of the dividend. -/
theorem divideStep_of_div {n d : Nat} (hd : 0 < d) :
    divideStep d (n % 2) (n / 2 / d, n / 2 % d) = (n / d, n % d) := by
  have hhalf := Nat.div_add_mod (n / 2) d
  have hlt := Nat.mod_lt (n / 2) hd
  have hn := Nat.div_add_mod n 2
  generalize n / 2 / d = q at hhalf ⊢
  generalize n / 2 % d = r at hhalf hlt ⊢
  have hunique : ∀ q' r', r' + d * q' = n → r' < d → (q', r') = (n / d, n % d) := fun q' r' hsum hr' => by
    obtain ⟨hq, hr⟩ := (Nat.div_mod_unique hd).mpr ⟨hsum, hr'⟩
    rw [hq, hr]
  unfold divideStep
  dsimp only
  split
  · refine hunique _ _ ?_ (by omega)
    have hodd : d * (2 * q + 1) = 2 * (d * q) + d := by rw [Nat.mul_add, Nat.mul_left_comm, Nat.mul_one]
    omega
  · refine hunique _ _ ?_ (by omega)
    have heven : d * (2 * q) = 2 * (d * q) := Nat.mul_left_comm ..
    omega

theorem longDivide_eq (bits : Nat) {n d : Nat} (hd : 0 < d) (hn : n < 2 ^ bits) :
    longDivide bits n d = (n / d, n % d) := by
  induction bits generalizing n with
  | zero =>
    obtain rfl : n = 0 := by simpa using hn
    simp [longDivide]
  | succ k ih =>
    rw [longDivide, ih (by rw [Nat.pow_succ] at hn; omega), divideStep_of_div hd]

theorem shiftAddMultiply_eq (bits a : Nat) {b : Nat} (hb : b < 2 ^ bits) : shiftAddMultiply bits a b = a * b := by
  induction bits generalizing b with
  | zero =>
    obtain rfl : b = 0 := by simpa using hb
    simp [shiftAddMultiply]
  | succ k ih =>
    rw [shiftAddMultiply, ih (by rw [Nat.pow_succ] at hb; omega), multiplyStep]
    have hsplit : 2 * (a * (b / 2)) + a * (b % 2) = a * b := by
      calc 2 * (a * (b / 2)) + a * (b % 2) = a * (2 * (b / 2) + b % 2) := by rw [Nat.mul_add, Nat.mul_left_comm]
        _ = a * b := by rw [Nat.div_add_mod]
    split
    · rename_i hodd
      rw [hodd, Nat.mul_one] at hsplit
      exact hsplit
    · rename_i heven
      have hzero : b % 2 = 0 := by omega
      rw [hzero, Nat.mul_zero, Nat.add_zero] at hsplit
      exact hsplit

/-- Settles O40, by induction on the bits. -/
theorem dividerAndMultiplierExact : Obligations.DividerAndMultiplierExact :=
  ⟨fun bits _ _ hd hn => longDivide_eq bits hd hn, fun bits a _ hb => shiftAddMultiply_eq bits a hb⟩

/-! ## The accumulator (R140) -/

/-- R140: the low half after a subtraction, modulo its width. -/
theorem Accumulator.subtract_low (a : Accumulator) {fee : Nat} (hfee : fee < 2 ^ 24) :
    (a.subtract fee).low.toNat = if a.low.toNat < fee then a.low.toNat + 2 ^ 24 - fee else a.low.toNat - fee := by
  have hlow := a.low.isLt
  change (a.low - BitVec.ofNat 24 fee).toNat = _
  rw [BitVec.toNat_sub, BitVec.toNat_ofNat, Nat.mod_eq_of_lt hfee]
  split <;> omega

theorem Accumulator.subtract_high (a : Accumulator) (fee : Nat) :
    (a.subtract fee).high = if a.low.toNat < fee then a.high - 1 else a.high := by
  simp [Accumulator.subtract, Accumulator.subtractLow, Accumulator.subtractHigh]

/-- R140: the net, and NET_CLAMPED where the fees exceed the gross. -/
theorem netRefund_eq {gross fixedFee pctFee : Nat} (hgross : gross < 2 ^ 24) (hfixed : fixedFee < 2 ^ 24)
    (hpct : pctFee < 2 ^ 24) :
    netRefund gross fixedFee pctFee =
      if gross < fixedFee + pctFee then (0, true) else (gross - fixedFee - pctFee, false) := by
  have hload : (Accumulator.load gross).low.toNat = gross := by
    simp only [Accumulator.load, BitVec.toNat_ofNat]
    exact Nat.mod_eq_of_lt hgross
  have hhigh : (Accumulator.load gross).high = 0 := rfl
  have hlow1 := (Accumulator.load gross).subtract_low hfixed
  have hhigh1 := (Accumulator.load gross).subtract_high fixedFee
  rw [hload] at hlow1 hhigh1
  rw [hhigh] at hhigh1
  have hlow2 := ((Accumulator.load gross).subtract fixedFee).subtract_low hpct
  have hhigh2 := ((Accumulator.load gross).subtract fixedFee).subtract_high pctFee
  rw [hhigh1] at hhigh2
  rw [netRefund, Accumulator.result]
  by_cases hborrow : gross < fixedFee
  · rw [if_pos hborrow] at hhigh2
    have hnegative : (((Accumulator.load gross).subtract fixedFee).subtract pctFee).high ≠ 0 := by
      rw [hhigh2]
      split <;> decide
    rw [if_neg hnegative, if_pos (by omega)]
  · rw [if_neg hborrow] at hlow1 hhigh2
    rw [hlow1] at hlow2 hhigh2
    by_cases hsecond : gross - fixedFee < pctFee
    · rw [if_pos hsecond] at hhigh2
      rw [if_neg (by rw [hhigh2]; decide), if_pos (by omega)]
    · rw [if_neg hsecond] at hlow2 hhigh2
      rw [if_pos hhigh2, if_neg (by omega), hlow2]

/-! ## The stages (R136 to R142) -/

theorem unitWeighting_eq (x : Snapshot) :
    unitWeighting x = { total := 2 * x.days, used := 2 * x.fullDays + stormWeight x,
                        unused := 2 * x.days - (2 * x.fullDays + stormWeight x),
                        clamped := decide (2 * x.days < 2 * x.fullDays + stormWeight x) } := by
  unfold unitWeighting
  dsimp only
  split
  · rename_i hless
    simp [Nat.le_of_lt hless]
  · split
    · rename_i hsame
      simp [hsame]
    · have hmore : 2 * x.days < 2 * x.fullDays + stormWeight x := by omega
      simp [hmore, Nat.sub_eq_zero_of_le (Nat.le_of_lt hmore)]

theorem grossRefund_eq {u : Units} (hunused : u.unused ≤ 28) (q r : Nat) :
    grossRefund u q r = if u.unused = 0 then 0 else q * u.unused + (r - u.used) := by
  rw [grossRefund, shiftAddMultiply_eq 5 q (by omega)]
  split
  · rfl
  · split <;> omega

/-- R144: the gross is at most the price. -/
theorem gross_le_price {price total used unused : Nat} (hunused : unused = total - used) :
    (if unused = 0 then 0 else price / total * unused + (price % total - used)) ≤ price := by
  split
  · exact Nat.zero_le _
  · have hsplit := Nat.div_add_mod price total
    generalize price / total = q at hsplit ⊢
    generalize price % total = r at hsplit ⊢
    have htotal : total * q = q * unused + q * used := by
      rw [← Nat.mul_add, Nat.mul_comm]
      congr 1
      omega
    omega

theorem gross_of_none_used {price total : Nat} (htotal : 0 < total) :
    (if total = 0 then 0 else price / total * total + (price % total - 0)) = price := by
  rw [if_neg (by omega), Nat.mul_comm, Nat.sub_zero, Nat.div_add_mod]

/-- R139: the percent fee. -/
theorem percentFee_eq {gross bp : Nat} (hgross : gross ≤ 16777215) (hbp : bp ≤ 10000) :
    percentFee gross bp = gross * bp / 10000 := by
  have hproduct : gross * bp ≤ 16777215 * 10000 := Nat.mul_le_mul hgross hbp
  rw [percentFee, shiftAddMultiply_eq 14 gross (by omega), longDivide_eq 40 (by omega) (by omega)]

theorem percentFee_le {gross bp : Nat} (hbp : bp ≤ 10000) : gross * bp / 10000 ≤ gross :=
  Nat.div_le_of_le_mul (by rw [Nat.mul_comm]; exact Nat.mul_le_mul_right gross hbp)

/-- R141. -/
theorem minimumPayout_eq (net minimum : Nat) :
    minimumPayout net minimum = (if net < minimum then 0 else net, decide (0 < net ∧ net < minimum)) := by
  unfold minimumPayout
  by_cases hless : net < minimum
  · by_cases hpos : 0 < net
    · simp [hless, hpos]
    · simp [Nat.eq_zero_of_not_pos hpos]
  · simp [hless]

/-- R142. -/
theorem cashRounding_eq {net rounding : Nat} (hnet : net ≤ 16777215) (hrounding : 0 < rounding) :
    cashRounding net rounding = (net / rounding * rounding, net % rounding) := by
  simp only [cashRounding, longDivide_eq 24 hrounding (show net < 2 ^ 24 by omega)]

theorem roundingUnits_pos {r : Nat} (h : r ∈ roundingUnits) : 0 < r := by
  revert h
  simp only [roundingUnits, List.mem_cons, List.not_mem_nil, or_false]
  omega

/-! ## The computation -/

theorem computeRefund_units (x : Snapshot) :
    (computeRefund x).hTotal = 2 * x.days ∧
    (computeRefund x).hUsed = 2 * x.fullDays + (if x.stormCredit then x.stormDays else 2 * x.stormDays) ∧
    (computeRefund x).hUnused = 2 * x.days - (computeRefund x).hUsed ∧
    ((computeRefund x).flags.unitsClamped = true ↔ 2 * x.days < (computeRefund x).hUsed) ∧
    (computeRefund x).fixedFee = x.fixedFee := by
  simp only [computeRefund, unitWeighting_eq, stormWeight, and_true, true_and]
  exact decide_eq_true_iff

theorem computeRefund_gross {x : Snapshot} (hprice : x.price ≤ 16777215) (hdays : 1 ≤ x.days) (hmax : x.days ≤ 14) :
    (computeRefund x).q = x.price / (2 * x.days) ∧ (computeRefund x).r = x.price % (2 * x.days) ∧
    (computeRefund x).gross = (if (computeRefund x).hUnused = 0 then 0 else
      (computeRefund x).q * (computeRefund x).hUnused + ((computeRefund x).r - (computeRefund x).hUsed)) ∧
    (computeRefund x).gross ≤ x.price := by
  have hdivide : longDivide 24 x.price (2 * x.days) = (x.price / (2 * x.days), x.price % (2 * x.days)) :=
    longDivide_eq 24 (by omega) (by omega)
  have hgross : (computeRefund x).gross = (if (computeRefund x).hUnused = 0 then 0 else
      (computeRefund x).q * (computeRefund x).hUnused + ((computeRefund x).r - (computeRefund x).hUsed)) := by
    simp only [computeRefund, unitWeighting_eq]
    exact grossRefund_eq (by dsimp only; omega) _ _
  have hq : (computeRefund x).q = x.price / (2 * x.days) := by
    simp only [computeRefund, unitWeighting_eq, hdivide]
  have hr : (computeRefund x).r = x.price % (2 * x.days) := by
    simp only [computeRefund, unitWeighting_eq, hdivide]
  refine ⟨hq, hr, hgross, ?_⟩
  rw [hgross, hq, hr]
  exact gross_le_price (computeRefund_units x).2.2.1

/-- R139 to R142: the fees, the minimum and the rounding, from the gross. -/
theorem computeRefund_net {x : Snapshot} (hgross : (computeRefund x).gross ≤ 16777215) (hfixed : x.fixedFee ≤ 65535)
    (hpct : x.percentFee ≤ 10000) (hrounding : 0 < x.rounding) :
    (computeRefund x).percentFee = (computeRefund x).gross * x.percentFee / 10000 ∧
    (computeRefund x).net =
      (if (computeRefund x).gross < x.fixedFee + (computeRefund x).percentFee then 0
       else if (computeRefund x).gross - x.fixedFee - (computeRefund x).percentFee < x.minimum then 0
       else (computeRefund x).gross - x.fixedFee - (computeRefund x).percentFee) ∧
    (computeRefund x).payout = (computeRefund x).net / x.rounding * x.rounding ∧
    (computeRefund x).residue = (computeRefund x).net % x.rounding ∧
    ((computeRefund x).flags.netClamped = true ↔
      (computeRefund x).gross < x.fixedFee + (computeRefund x).percentFee) ∧
    ((computeRefund x).flags.belowMinimum = true ↔
      x.fixedFee + (computeRefund x).percentFee < (computeRefund x).gross ∧
      (computeRefund x).gross - x.fixedFee - (computeRefund x).percentFee < x.minimum) := by
  generalize hr : computeRefund x = r at hgross ⊢
  have hfee : r.percentFee = Machine.percentFee r.gross x.percentFee := by rw [← hr]; rfl
  have hnet : r.net = (minimumPayout (netRefund r.gross x.fixedFee r.percentFee).1 x.minimum).1 := by rw [← hr]; rfl
  have hbelow : r.flags.belowMinimum =
      (minimumPayout (netRefund r.gross x.fixedFee r.percentFee).1 x.minimum).2 := by rw [← hr]; rfl
  have hclamped : r.flags.netClamped = (netRefund r.gross x.fixedFee r.percentFee).2 := by rw [← hr]; rfl
  have hpayout : r.payout = (cashRounding r.net x.rounding).1 := by rw [← hr]; rfl
  have hresidue : r.residue = (cashRounding r.net x.rounding).2 := by rw [← hr]; rfl
  rw [percentFee_eq hgross hpct] at hfee
  have hfeele : r.percentFee ≤ r.gross := hfee ▸ percentFee_le hpct
  rw [netRefund_eq (by omega) (by omega) (by omega), minimumPayout_eq] at hnet hbelow
  rw [netRefund_eq (by omega) (by omega) (by omega)] at hclamped
  have hnetvalue : r.net = if r.gross < x.fixedFee + r.percentFee then 0
      else if r.gross - x.fixedFee - r.percentFee < x.minimum then 0 else r.gross - x.fixedFee - r.percentFee := by
    rw [hnet]
    split <;> simp
  have hnetle : r.net ≤ 16777215 := by
    rw [hnetvalue]
    (repeat' split) <;> omega
  rw [cashRounding_eq hnetle hrounding] at hpayout hresidue
  refine ⟨hfee, hnetvalue, hpayout, hresidue, ?_, ?_⟩
  · rw [hclamped]
    split <;> simp_all
  · rw [hbelow, decide_eq_true_eq]
    split
    · dsimp only
      omega
    · dsimp only
      omega

/-- Settles O41: the closed form of the stages, and the bounds that follow from it. -/
theorem refundResultsAndTheirBounds : Obligations.RefundResultsAndTheirBounds := by
  refine ⟨fun x hprice hdays hmax hfixed hpct hrounding => ?_,
    fun x hprice hdays hmax hcounts hfixed hpct hminimum hrounding => ?_⟩
  · obtain ⟨htotal, hused, hunused, hunits, -⟩ := computeRefund_units x
    obtain ⟨hq, hr, hgross, hle⟩ := computeRefund_gross hprice hdays hmax
    obtain ⟨hfee, hnet, hpayout, hresidue, hclamped, hbelow⟩ :=
      computeRefund_net (Nat.le_trans hle hprice) hfixed hpct (roundingUnits_pos hrounding)
    exact ⟨htotal, hused, hunused, hq, hr, hgross, hfee, hnet, hpayout, hresidue, hunits, hclamped, hbelow⟩
  · have hpos := roundingUnits_pos hrounding
    obtain ⟨htotal, hused, hunused, hunits, hfixedFee⟩ := computeRefund_units x
    obtain ⟨hq, hr, hgross, hle⟩ := computeRefund_gross hprice hdays hmax
    obtain ⟨hfee, hnet, hpayout, hresidue, hclamped, hbelow⟩ := computeRefund_net (Nat.le_trans hle hprice) hfixed hpct hpos
    have hnone : (computeRefund x).hUsed = 0 → (computeRefund x).gross = x.price := fun hzero => by
      rw [hgross, hq, hr, hunused, hzero, Nat.sub_zero]
      exact gross_of_none_used (by omega)
    have hfeele : (computeRefund x).percentFee ≤ (computeRefund x).gross := hfee ▸ percentFee_le hpct
    have hrlt : (computeRefund x).r < 2 * x.days := hr ▸ Nat.mod_lt _ (by omega)
    have hqle : (computeRefund x).q ≤ 8388607 := by
      rw [hq]
      have hhalf : x.price / (2 * x.days) ≤ x.price / 2 := Nat.div_le_div_left (by omega) (by omega)
      omega
    have husedle : (computeRefund x).hUsed ≤ 64 := by
      rw [hused]
      split <;> omega
    have hnothing : (computeRefund x).flags.unitsClamped = true → (computeRefund x).gross = 0 := fun hset => by
      rw [hgross, if_pos (by rw [hunused]; have := hunits.mp hset; omega)]
    generalize computeRefund x = r at *
    have hsum : r.payout + r.residue = r.net := by
      rw [hpayout, hresidue, Nat.mul_comm]
      exact Nat.div_add_mod _ _
    have hresiduelt : r.residue < x.rounding := hresidue ▸ Nat.mod_lt _ hpos
    have hnetle : r.net ≤ r.gross := by
      rw [hnet]
      (repeat' split) <;> omega
    refine ⟨by omega, hnetle, hle, hpayout ▸ Nat.dvd_mul_left _ _, hnone, by omega, by omega, husedle, by omega, hqle,
      by omega, hfixedFee, hfeele, hresiduelt, hsum, fun hflag => ?_⟩
    have hzero : r.net = 0 := by
      rcases hflag with hset | hset | hset
      · have := hnothing hset
        omega
      · rw [hnet, if_pos (hclamped.mp hset)]
      · obtain ⟨hmore, hless⟩ := hbelow.mp hset
        rw [hnet, if_neg (by omega), if_pos hless]
    omega

end Sys2Proof.Machine
end

section
/-!
PROOFS. TALLY (R124) and the lengths of what the part sends.
-/

namespace Sys2Proof.Machine

/-! ## Bytes -/

@[simp] theorem length_bytesOf (k n : Nat) : (bytesOf k n).length = k := by
  induction k with
  | zero => rfl
  | succ k ih => rw [bytesOf, List.length_cons, ih]

/-- Numbers of one width, end to end. -/
theorem length_flatten_bytesOf (k : Nat) (ns : List Nat) : ((ns.map (bytesOf k)).flatten).length = ns.length * k := by
  induction ns with
  | nil => simp
  | cons n ns ih =>
    rw [List.map_cons, List.flatten_cons, List.length_append, ih, length_bytesOf, List.length_cons,
      Nat.succ_mul, Nat.add_comm]

theorem length_tallyDayBytes (day : Option Nat) : (tallyDayBytes day).length = 2 := by
  cases day <;> rfl

theorem length_laneCounterBytes (c : LaneCounters) : (laneCounterBytes c).length = 81 := by
  rw [laneCounterBytes, length_flatten_bytesOf]
  simp

theorem length_inHandBytes (h : Option LaneInHand) : (inHandBytes h).length = 11 := by
  cases h <;> simp [inHandBytes]

/-! ## TALLY -/

theorem exec_tally (tag set part : Byte) (s : State) : exec (.tally tag set part) s = handle (.tally tag set part) s := rfl

theorem tallySetOf_eq (b : Byte) :
    tallySetOf b = if b.toNat = 0 then some true else if b.toNat = 1 then some false else none := by
  unfold tallySetOf
  split <;> simp_all

theorem fourOf_of_val {b : Byte} {l : Fin 4} (h : b.toNat = l.val) : fourOf b = some l := by
  have hlt : b.toNat < 4 := h ▸ l.isLt
  rw [fourOf, dif_pos hlt]
  exact congrArg some (Fin.ext h)

theorem fourOf_of_ge {b : Byte} (h : 4 ≤ b.toNat) : fourOf b = none := dif_neg (Nat.not_lt.mpr h)

theorem tallyPartOf_lane {b : Byte} {l : LaneId} (h : b.toNat = l.val) : tallyPartOf b = some (.lane l) := by
  simp only [tallyPartOf, fourOf_of_val h]

theorem tallyPartOf_of_ge {b : Byte} (h : 4 ≤ b.toNat) :
    tallyPartOf b = if b.toNat = 4 then some .lift else none := by
  simp only [tallyPartOf, fourOf_of_ge h]

theorem State.tallyRequest_of_named {s : State} {set part : Byte} {isToday : Bool} {p : TallyPart}
    (hset : tallySetOf set = some isToday) (hpart : tallyPartOf part = some p) (tag : Byte) :
    s.onlyAnswers (s.tallyRequest tag set part) .tally tag .ok (s.tallyPart isToday p) := by
  have hanswer : s.tallyRequest tag set part = s.answer .tally tag .ok (s.tallyPart isToday p) := by
    simp only [State.tallyRequest, hset, hpart]
  rw [hanswer]
  exact s.onlyAnswers_answer _ _ _ _

theorem State.tallyRequest_of_unnamed {s : State} {set part : Byte} (h : tallySetOf set = none ∨ tallyPartOf part = none)
    (tag : Byte) : s.onlyAnswers (s.tallyRequest tag set part) .tally tag .badValue .nothing := by
  have hanswer : s.tallyRequest tag set part = s.answerCode .tally tag .badValue := by
    unfold State.tallyRequest
    split
    · simp_all
    · rfl
  rw [hanswer]
  exact s.onlyAnswers_answerCode _ _ _

/-- Settles O38: the bytes, their number, and the parts and sets a TALLY names. -/
theorem tallyReportsOnePart : Obligations.TallyReportsOnePart := by
  refine ⟨fun d l c h => ⟨?_, ?_⟩, fun d riders newDays refunds payout hours => ?_, fun day l c h => ?_,
    fun day riders newDays refunds payout hours => ?_, fun tag set part s htakes => ?_⟩
  · simp only [ReplyData.bytes, tallyDayBytes, laneCounterBytes, inHandBytes, byteOf, List.append_assoc]
  · simp only [ReplyData.bytes, tallyDayBytes, laneCounterBytes, inHandBytes, byteOf]
  · simp only [ReplyData.bytes, tallyDayBytes, byteOf]
  · simp only [ReplyData.bytes, List.length_append, length_tallyDayBytes, length_laneCounterBytes, length_inHandBytes,
      byteOf, length_bytesOf]
  · simp only [ReplyData.bytes, List.length_append, length_tallyDayBytes, length_flatten_bytesOf, length_bytesOf,
      Vector.length_toList]
  have hasks : asks (.tally tag set part) s (s.tallyRequest tag set part) :=
    asks_of_handle (exec_tally tag set part s) htakes
  refine ⟨_, hasks, fun hout => ?_, fun l hset hpart => ?_, fun l hset hpart => ?_, fun t hset hpart ht => ?_⟩
  · refine State.tallyRequest_of_unnamed ?_ tag
    rcases hout with hset | hpart
    · exact .inl (by rw [tallySetOf_eq, if_neg (by omega), if_neg (by omega)])
    · exact .inr (by rw [tallyPartOf_of_ge (by omega), if_neg (by omega)])
  · exact State.tallyRequest_of_named (by rw [tallySetOf_eq, if_pos hset]) (tallyPartOf_lane hpart) tag
  · have hprevious : tallySetOf set = some false := by rw [tallySetOf_eq, if_neg (by simp [hset]), if_pos hset]
    exact State.tallyRequest_of_named hprevious (tallyPartOf_lane hpart) tag
  · have hlift : tallyPartOf part = some .lift := by rw [tallyPartOf_of_ge (by omega), if_pos hpart]
    by_cases hzero : set.toNat = 0
    · rw [if_pos hzero] at ht
      subst ht
      exact State.tallyRequest_of_named (by rw [tallySetOf_eq, if_pos hzero]) hlift tag
    · rw [if_neg hzero] at ht
      subst ht
      exact State.tallyRequest_of_named (by rw [tallySetOf_eq, if_neg hzero, if_pos (by omega)]) hlift tag

end Sys2Proof.Machine
end

section
/-!
PROOFS. PASS_QUERY, QUOTE_QUERY and IDENTIFY (R39, R160, R186), and the bytes of their replies (section 10.9).
-/

namespace Sys2Proof.Machine

/-! ## The bytes of the replies -/

theorem byteOf_bytes (n : Nat) : byteOf n = bytesOf 1 n := rfl

theorem flagByte_eq (b : Bool) : flagByte b = bytesOf 1 (if b then 1 else 0) := rfl

/-- R160: the 55 bytes of a quote slot. -/
theorem length_slotRecordBytes (k : SlotId) (q : QuoteSlot) : (slotRecordBytes k q).length = 55 := by
  have hidentity : (identityBytes q.state.identity?).length = 5 := by
    cases q.state.identity? <;> simp [identityBytes]
  have hsnapshot : (snapshotBytes q.state.snapshot?).length = 18 := by
    cases q.state.snapshot? <;> simp [snapshotBytes, flagByte]
  have hresults : (resultsBytes q.state.results?).length = 21 := by
    cases q.state.results? <;> simp [resultsBytes]
  have hending : (endingBytes q.lastEnding).length = 5 := by
    cases q.lastEnding <;> simp [endingBytes]
  simp only [slotRecordBytes, List.length_append, hidentity, hsnapshot, hresults, hending, byteOf, length_bytesOf]

/-! ## PASS_QUERY (R39) -/

theorem exec_passQuery (tag : Byte) (pass : U32) (mode : Byte) (s : State) :
    exec (.passQuery tag pass mode) s = handle (.passQuery tag pass mode) s := rfl

theorem searchModeOf_eq (b : Byte) :
    searchModeOf b = if b.toNat = 0 then some .exact else if b.toNat = 1 then some .atOrAfter else none := by
  unfold searchModeOf
  split <;> simp_all

theorem State.passQueryRequest_of_out {s : State} {pass : Nat} {mode : Byte}
    (h : searchModeOf mode = none ∨ legalPass pass = false) (tag : Byte) :
    s.onlyAnswers (s.passQueryRequest tag pass mode) .passQuery tag .badValue .nothing := by
  have hanswer : s.passQueryRequest tag pass mode = s.answerCode .passQuery tag .badValue := by
    unfold State.passQueryRequest
    split
    · rfl
    · rename_i m hm
      rcases h with hnone | hillegal
      · rw [hm] at hnone
        exact absurd hnone nofun
      · rw [if_pos hillegal]
  rw [hanswer]
  exact s.onlyAnswers_answerCode _ _ _

theorem State.passQueryRequest_of_missing {s : State} {pass : Nat} {mode : Byte} {m : SearchMode}
    (hmode : searchModeOf mode = some m) (hpass : legalPass pass = true) (h : s.searchPass m pass = none) (tag : Byte) :
    s.onlyAnswers (s.passQueryRequest tag pass mode) .passQuery tag .notFound (.entryCount s.passes.length) := by
  have hanswer : s.passQueryRequest tag pass mode =
      s.answer .passQuery tag .notFound (.entryCount s.passes.length) := by
    simp [State.passQueryRequest, hmode, hpass, h]
  rw [hanswer]
  exact s.onlyAnswers_answer _ _ _ _

theorem State.passQueryRequest_of_found {s : State} {pass : Nat} {mode : Byte} {m : SearchMode} {e : PassEntry}
    (hmode : searchModeOf mode = some m) (hpass : legalPass pass = true) (h : s.searchPass m pass = some e)
    (tag : Byte) :
    s.onlyAnswers (s.passQueryRequest tag pass mode) .passQuery tag .ok (.passFound s.passes.length e) := by
  have hanswer : s.passQueryRequest tag pass mode = s.answer .passQuery tag .ok (.passFound s.passes.length e) := by
    simp [State.passQueryRequest, hmode, hpass, h]
  rw [hanswer]
  exact s.onlyAnswers_answer _ _ _ _

/-- R39: in a table in order the first entry at or after a number is the least. -/
theorem PassesOrdered.find_atOrAfter {es : List PassEntry} (hord : PassesOrdered es) {p : Nat} {e : PassEntry}
    (he : e ∈ es) (hp : p ≤ e.pass) (hleast : ∀ x ∈ es, p ≤ x.pass → e.pass ≤ x.pass) :
    es.find? (fun x => decide (p ≤ x.pass)) = some e := by
  cases hfind : es.find? (fun x => decide (p ≤ x.pass)) with
  | none =>
    have hnone := List.find?_eq_none.mp hfind e he
    exact absurd hp (by simpa using hnone)
  | some x =>
    obtain ⟨hx, before, after, rfl, hbefore⟩ := List.find?_eq_some_iff_append.mp hfind
    have hxp : p ≤ x.pass := by simpa using hx
    have hle : e.pass ≤ x.pass := hleast x (by simp) hxp
    rcases List.mem_append.mp he with hin | hin
    · exact absurd hp (by simpa using hbefore e hin)
    · rcases List.mem_cons.mp hin with rfl | hafter
      · rfl
      · have hless := (List.pairwise_cons.mp (List.pairwise_append.mp hord).2.1).1 e hafter
        omega

/-- R39: PASS_QUERY, in both modes. -/
theorem passQuery_answers (tag : Byte) (pass : U32) (mode : Byte) (s : State) (htakes : s.takes) :
    ∃ u, asks (.passQuery tag pass mode) s u ∧
      (1 < mode.toNat ∨ legalPass pass.toNat = false →
        s.onlyAnswers u .passQuery tag .badValue .nothing) ∧
      (mode.toNat = 0 → legalPass pass.toNat = true →
        (s.findPass pass.toNat = none →
          s.onlyAnswers u .passQuery tag .notFound (.entryCount s.passes.length)) ∧
        (∀ e, s.findPass pass.toNat = some e →
          s.onlyAnswers u .passQuery tag .ok (.passFound s.passes.length e))) ∧
      (mode.toNat = 1 → legalPass pass.toNat = true →
        ((∀ e ∈ s.passes, e.pass < pass.toNat) →
          s.onlyAnswers u .passQuery tag .notFound (.entryCount s.passes.length)) ∧
        (∀ e ∈ s.passes, PassesOrdered s.passes → pass.toNat ≤ e.pass →
          (∀ x ∈ s.passes, pass.toNat ≤ x.pass → e.pass ≤ x.pass) →
          s.onlyAnswers u .passQuery tag .ok (.passFound s.passes.length e))) := by
  have hasks : asks (.passQuery tag pass mode) s (s.passQueryRequest tag pass.toNat mode) :=
    asks_of_handle (exec_passQuery tag pass mode s) htakes
  refine ⟨_, hasks, fun hout => ?_, fun hmode hpass => ?_, fun hmode hpass => ?_⟩
  · refine State.passQueryRequest_of_out ?_ tag
    rcases hout with hmode | hillegal
    · exact .inl (by rw [searchModeOf_eq, if_neg (by omega), if_neg (by omega)])
    · exact .inr hillegal
  · have hexact : searchModeOf mode = some .exact := by rw [searchModeOf_eq, if_pos hmode]
    exact ⟨fun hnone => State.passQueryRequest_of_missing hexact hpass hnone tag,
      fun e he => State.passQueryRequest_of_found hexact hpass he tag⟩
  · have hafter : searchModeOf mode = some .atOrAfter := by
      rw [searchModeOf_eq, if_neg (by simp [hmode]), if_pos hmode]
    refine ⟨fun hless => State.passQueryRequest_of_missing hafter hpass ?_ tag,
      fun e he hord hle hleast => State.passQueryRequest_of_found hafter hpass (hord.find_atOrAfter he hle hleast) tag⟩
    rw [State.searchPass, List.find?_eq_none]
    intro e he
    simpa using hless e he

/-! ## QUOTE_QUERY and IDENTIFY (R160, R186) -/

theorem exec_quoteQuery (tag slot : Byte) (s : State) :
    exec (.quoteQuery tag slot) s = handle (.quoteQuery tag slot) s := rfl

theorem exec_identify (tag : Byte) (s : State) : exec (.identify tag) s = handle (.identify tag) s := rfl

theorem quoteQuery_answers (tag slot : Byte) (s : State) (htakes : s.takes) :
    ∃ u, asks (.quoteQuery tag slot) s u ∧
      (fourOf slot = none → s.onlyAnswers u .quoteQuery tag .badValue .nothing) ∧
      (∀ k, fourOf slot = some k → s.onlyAnswers u .quoteQuery tag .ok (.slotRecord k (s.slot k))) := by
  have hasks : asks (.quoteQuery tag slot) s (s.quoteQueryRequest tag slot) :=
    asks_of_handle (exec_quoteQuery tag slot s) htakes
  refine ⟨_, hasks, fun hnone => ?_, fun k hk => ?_⟩
  · rw [State.quoteQueryRequest, hnone]
    exact s.onlyAnswers_answerCode _ _ _
  · rw [State.quoteQueryRequest, hk]
    exact s.onlyAnswers_answer _ _ _ _

/-- Settles O46: the codes, the bytes of the replies, and the three queries. -/
theorem queriesChangeNothing : Obligations.QueriesChangeNothing := by
  refine ⟨⟨fun slot => rfl, rfl, rfl, rfl, fun l => rfl, fun f => rfl, fun i x r e => ⟨rfl, rfl, rfl, rfl, rfl⟩⟩,
    fun k n => ⟨length_bytesOf k n, rfl⟩, fun n e => ?_, fun k q => ⟨length_slotRecordBytes k q, ?_⟩,
    fun p rate hrate => ?_, fun x => ?_, fun k r => rfl, passQuery_answers, quoteQuery_answers, fun tag s htakes => ?_⟩
  · simp only [ReplyData.bytes, passFoundBytes, entryRecordBytes, byteOf_bytes, List.append_assoc]
    rfl
  · simp only [ReplyData.bytes, slotRecordBytes, byteOf_bytes, List.append_assoc]
    rfl
  · subst hrate
    obtain ⟨rate1, rate0⟩ := p
    cases rate1 <;> cases rate0 <;> rfl
  · simp only [ReplyData.bytes, settlementBytes, byteOf_bytes]
    cases x.source <;> rfl
  · exact ⟨_, asks_of_handle (exec_identify tag s) htakes, s.onlyAnswers_answer _ _ _ _⟩

end Sys2Proof.Machine
end

section
/-!
PROOFS. STATUS and NOTICE_MASK (R173, R174), and JOURNAL_FETCH (R168).
-/

namespace Sys2Proof.Machine

/-! ## The Notice Mask (R173) -/

theorem noticeKindOf_eq (b : Byte) : noticeKindOf b =
    [NoticeKind.laneFault, .laneAlarm, .deskRead, .quoteReady, .quoteEnded, .dayRolled, .journalHigh,
      .clockExpired][b.toNat]? := by
  unfold noticeKindOf
  match b.toNat with
  | 0 | 1 | 2 | 3 | 4 | 5 | 6 | 7 => rfl
  | _ + 8 => rfl

theorem maskSettingOf_eq (b : Byte) : maskSettingOf b = [true, false][b.toNat]? := by
  unfold maskSettingOf
  match b.toNat with
  | 0 | 1 => rfl
  | _ + 2 => rfl

theorem byteOf_maskCode (b : Bool) : byteOf (maskCode b) = [if b then 0x00 else 0x01] := by
  cases b <;> rfl

/-- One kind's setting replaced. -/
theorem NoticeMask.get_set (m : NoticeMask) (k j : NoticeKind) (masked : Bool) :
    (m.set k masked).get j = if j = k then masked else m.get j := by
  cases k <;> cases j <;> rfl

theorem exec_noticeMask (tag kind setting : Byte) (s : State) :
    exec (.noticeMask tag kind setting) s = handle (.noticeMask tag kind setting) s := rfl

theorem State.noticeMaskRequest_of_named {s : State} {kind setting : Byte} {k : NoticeKind} {masked : Bool}
    (hk : noticeKindOf kind = some k) (hmasked : maskSettingOf setting = some masked) (tag : Byte) :
    s.noticeMaskRequest tag kind setting = (s.setNotices { s.notices with mask := s.notices.mask.set k masked }).answer
      .noticeMask tag .ok (.mask (s.notices.mask.set k masked)) := by
  simp only [State.noticeMaskRequest, hk, hmasked]

theorem State.noticeMaskRequest_of_unnamed {s : State} {kind setting : Byte}
    (h : noticeKindOf kind = none ∨ maskSettingOf setting = none) (tag : Byte) :
    s.noticeMaskRequest tag kind setting = s.answerCode .noticeMask tag .badValue := by
  unfold State.noticeMaskRequest
  split
  · simp_all
  · rfl

/-! ## STATUS (R174) -/

theorem exec_status (tag option : Byte) (s : State) : exec (.status tag option) s = handle (.status tag option) s := rfl

/-- R174: STATUS without CLEAR, and its range. -/
theorem State.statusRequest_answers (s : State) (tag option : Byte) :
    (1 < option.toNat → s.onlyAnswers (s.statusRequest tag option) .status tag .badValue .nothing) ∧
    (option.toNat = 0 → s.onlyAnswers (s.statusRequest tag option) .status tag .ok (.report s.report)) := by
  refine ⟨fun hout => ?_, fun hzero => ?_⟩
  · have hnone : boolOf option = none := (boolOf_none option).mpr hout
    rw [State.statusRequest, hnone]
    exact s.onlyAnswers_answerCode _ _ _
  · have hkeep : boolOf option = some false := (boolOf_false option).mpr hzero
    rw [State.statusRequest, hkeep]
    exact s.onlyAnswers_answer _ _ _ _

/-- R174: STATUS with CLEAR. -/
theorem State.statusRequest_clears {s : State} {option : Byte} (h : option.toNat = 1) (tag : Byte) :
    (s.statusRequest tag option).lif = { s.lif with
      flags := LineFlags.clear
      replies := s.lif.replies ++ [replyFrame RequestKind.status.code tag .ok (.report s.report)] } ∧
    (s.statusRequest tag option).pbl = { s.pbl with evictions := 0 } ∧
    s.keepsAllBut (s.statusRequest tag option) [.lif, .pbl] := by
  have hclear : boolOf option = some true := (boolOf_true option).mpr h
  have hanswer : s.statusRequest tag option = s.clearReported.answer .status tag .ok (.report s.report) := by
    simp only [State.statusRequest, hclear, if_true]
  rw [hanswer]
  refine ⟨by rw [State.answer_lif]; rfl, by simp [State.clearReported], ?_⟩
  rw [State.keepsAllBut_iff]
  simp

/-- Settles O47: the mask and its bytes, STATUS with its report, and NOTICE_MASK. -/
theorem statusAndNoticeMask : Obligations.StatusAndNoticeMask := by
  refine ⟨?_, fun tag option s htakes => ?_, fun tag kind setting s htakes => ?_⟩
  · rintro kinds rfl
    refine ⟨fun b => ⟨noticeKindOf_eq b, maskSettingOf_eq b⟩, fun m => ?_⟩
    simp only [ReplyData.bytes, maskBytes, byteOf_maskCode, List.map_cons, List.map_nil, List.flatten_cons,
      List.flatten_nil, List.cons_append, List.nil_append]
    rfl
  · have hasks : asks (.status tag option) s (s.statusRequest tag option) :=
      asks_of_handle (exec_status tag option s) htakes
    obtain ⟨hout, hzero⟩ := s.statusRequest_answers tag option
    refine ⟨_, hasks, hout, hzero, fun hone => State.statusRequest_clears hone tag, rfl, rfl, rfl, fun l => ?_, fun k => ?_,
      ?_, rfl, rfl, rfl, ?_, rfl, rfl, rfl⟩
    · exact Quad.get_tabulate _ _
    · have hphase : s.report.slots.get k = (s.slot k).state.phase := Quad.get_tabulate _ _
      rw [hphase]
      cases (s.slot k).state <;> rfl
    · exact beq_iff_eq
    · refine List.countP_congr fun r _ => ?_
      unfold JournalRecord.isSettlement
      cases r.body <;> rfl
  · have hasks : asks (.noticeMask tag kind setting) s (s.noticeMaskRequest tag kind setting) :=
      asks_of_handle (exec_noticeMask tag kind setting s) htakes
    refine ⟨_, hasks, fun hout => ?_, fun k masked hk hmasked => ?_⟩
    · have hunnamed : noticeKindOf kind = none ∨ maskSettingOf setting = none := by
        rcases hout with hkind | hsetting
        · exact .inl (by rw [noticeKindOf_eq]; exact List.getElem?_eq_none hkind)
        · exact .inr (by rw [maskSettingOf_eq]; exact List.getElem?_eq_none hsetting)
      rw [State.noticeMaskRequest_of_unnamed hunnamed]
      exact s.onlyAnswers_answerCode _ _ _
    · have hset : s.keepsAllBut (s.setNotices { s.notices with mask := s.notices.mask.set k masked }) [.notices] := by
        rw [State.keepsAllBut_iff]
        simp
      rw [State.noticeMaskRequest_of_named hk hmasked]
      obtain ⟨hreplies, hkept⟩ := State.answer_spec .noticeMask tag .ok (.mask (s.notices.mask.set k masked))
        (hset .lif (by simp)) hset
      refine ⟨?_, fun j hj => ?_, rfl, hreplies, hkept⟩
      · exact (NoticeMask.get_set _ _ _ _).trans (if_pos rfl)
      · exact (NoticeMask.get_set _ _ _ _).trans (if_neg hj)

/-! ## JOURNAL_FETCH (R168) -/

theorem exec_journalFetch (tag count : Byte) (s : State) :
    exec (.journalFetch tag count) s = handle (.journalFetch tag count) s := rfl

theorem RecordBody.recordLength_le (b : RecordBody) : b.recordLength ≤ 28 := by
  cases b <;> simp [RecordBody.recordLength]

/-- Table 10.4: the record length is the number of its bytes. -/
theorem JournalRecord.length_bytes (r : JournalRecord) : r.bytes.length = r.body.recordLength := by
  rw [JournalRecord.bytes]
  cases r.body <;>
    simp [RecordBody.bytes, RecordBody.recordLength, settlementBytes, flagByte]

/-- R168: the records selected fit, the next one does not, and short records are not left behind. -/
theorem selectCount_spec (asked room : Nat) (rs : List JournalRecord) :
    selectCount asked room rs ≤ asked ∧ selectCount asked room rs ≤ rs.length ∧
    ((rs.take (selectCount asked room rs)).map fun r => r.body.recordLength).sum ≤ room ∧
    (∀ r, selectCount asked room rs < asked → rs[selectCount asked room rs]? = some r →
      room < ((rs.take (selectCount asked room rs)).map fun x => x.body.recordLength).sum + r.body.recordLength) ∧
    ∀ m, 28 * m ≤ room → min asked (min m rs.length) ≤ selectCount asked room rs := by
  induction asked generalizing room rs with
  | zero => simp [selectCount]
  | succ asked ih =>
    cases rs with
    | nil => simp [selectCount]
    | cons r rs =>
      have hlength := r.body.recordLength_le
      rw [selectCount]
      split
      · rename_i hfits
        obtain ⟨hasked, hrecords, hsum, hnext, hshort⟩ := ih (room - r.body.recordLength) rs
        refine ⟨by omega, by simpa using hrecords, ?_, fun x hx hget => ?_, fun m hm => ?_⟩
        · rw [List.take_succ_cons, List.map_cons, List.sum_cons]
          omega
        · have hroom := hnext x (by omega) hget
          rw [List.take_succ_cons, List.map_cons, List.sum_cons]
          omega
        · have hrest := hshort (m - 1) (by omega)
          rw [List.length_cons]
          omega
      · rename_i hlong
        refine ⟨by omega, by omega, by simp, fun x _ hget => ?_, fun m hm => ?_⟩
        · obtain rfl : r = x := by simpa using hget
          simpa using hlong
        · omega

theorem State.journalFetchRequest_of_count {s : State} {asked : Nat} (h : ¬ (asked < 1 ∨ 8 < asked)) (tag : Byte) {k : Nat}
    (hk : k = selectCount asked Config.fetchRecordBytes s.journal.records) :
    s.journalFetchRequest tag asked = (s.setJournal (s.journal.fetched k)).answer .journalFetch tag .ok
      (.records s.journal.gap (s.journal.records.take k) (s.journal.fetched k).records.length
        (s.journal.fetched k).settlementCount) := by
  rw [State.journalFetchRequest, if_neg h, hk]

/-- Settles O48: the codes and bytes, and the oldest records that fit. -/
theorem journalFetchTakesTheOldest : Obligations.JournalFetchTakesTheOldest := by
  refine ⟨⟨rfl, rfl, rfl, rfl, rfl, rfl⟩, fun r => ⟨r.length_bytes, r.body.recordLength_le⟩,
    fun q t b header hheader => ?_, fun gap rs left settlements => rfl, fun tag count s htakes => ?_⟩
  · rw [JournalRecord.bytes]
    cases b <;>
      simp only [RecordBody.kindCode, RecordBody.bytes, ReplyData.bytes, hheader, byteOf_bytes, flagByte_eq,
        LatchSet.code, flagCode, List.append_assoc]
    case test l pass decision => cases decision <;> rfl
  have hasks : asks (.journalFetch tag count) s (s.journalFetchRequest tag count.toNat) :=
    asks_of_handle (exec_journalFetch tag count s) htakes
  refine ⟨_, hasks, fun hout => ?_, fun hmin hmax => ?_⟩
  · rw [State.journalFetchRequest, if_pos hout]
    exact s.onlyAnswers_answerCode _ _ _
  · obtain ⟨hasked, hrecords, hsum, hnext, hshort⟩ := selectCount_spec count.toNat Config.fetchRecordBytes s.journal.records
    have hfetch := State.journalFetchRequest_of_count (s := s) (asked := count.toNat) (by omega) tag rfl
    generalize selectCount count.toNat Config.fetchRecordBytes s.journal.records = k at *
    have hset : s.keepsAllBut (s.setJournal (s.journal.fetched k)) [.journal] := by
      rw [State.keepsAllBut_iff]
      simp
    have hleft : (s.journal.fetched k).records.length = s.journal.records.length - k := List.length_drop
    rw [hleft] at hfetch
    rw [hfetch]
    obtain ⟨hreplies, hkept⟩ := State.answer_spec .journalFetch tag .ok (.records s.journal.gap
      (s.journal.records.take k) (s.journal.records.length - k) (s.journal.fetched k).settlementCount)
      (hset .lif (by simp)) hset
    exact ⟨k, hasked, hrecords, hsum, hnext, hshort 4 (by decide), rfl, hreplies, hkept⟩

end Sys2Proof.Machine
end

section
/-!
PROOFS. The receiver (R178, R179), the line conditions (R180) and the malformed frame (R183).
-/

namespace Sys2Proof.Machine

/-! ## What a received character leaves of the line -/

/-- What the receiver does not touch of the line: the transmitter and the GAP_TIMEOUT flag. -/
def LineInterface.receiverKeeps (x y : LineInterface) : Prop :=
  y.replies = x.replies ∧ y.holding = x.holding ∧ y.shifting = x.shifting ∧ y.flags.gapTimeout = x.flags.gapTimeout

theorem LineInterface.receiverKeeps_refl (x : LineInterface) : x.receiverKeeps x := ⟨rfl, rfl, rfl, rfl⟩

theorem LineInterface.receiverKeeps_trans {x y z : LineInterface} (h : x.receiverKeeps y) (k : y.receiverKeeps z) :
    x.receiverKeeps z := by
  obtain ⟨hreplies, hholding, hshifting, hgap⟩ := h
  obtain ⟨kreplies, kholding, kshifting, kgap⟩ := k
  exact ⟨kreplies.trans hreplies, kholding.trans hholding, kshifting.trans hshifting, kgap.trans hgap⟩

theorem State.receiverKeeps_setReceiver (s : State) (r : Receiver) : s.lif.receiverKeeps (s.setReceiver r).lif :=
  ⟨rfl, rfl, rfl, rfl⟩

theorem State.receiverKeeps_joinInbound (s : State) (f : InFrame) : s.lif.receiverKeeps (s.joinInbound f).lif := by
  unfold State.joinInbound
  split <;> exact ⟨rfl, rfl, rfl, rfl⟩

theorem State.receiverKeeps_frameComplete (s : State) (cs : List Byte) :
    s.lif.receiverKeeps (s.frameComplete cs).1.lif := by
  unfold State.frameComplete
  dsimp only
  split
  · exact (s.setReceiver Receiver.hunting).receiverKeeps_joinInbound _
  · exact ⟨rfl, rfl, rfl, rfl⟩

theorem State.receiverKeeps_examineOne (s : State) (c : Byte) : s.lif.receiverKeeps (s.examineOne c).1.lif := by
  unfold State.examineOne
  dsimp only
  split
  case h_1 | h_2 =>
    split <;> exact s.receiverKeeps_setReceiver _
  case h_7 => exact s.receiverKeeps_frameComplete _
  all_goals exact s.receiverKeeps_setReceiver _

theorem State.receiverKeeps_examineAll (n : Nat) (cs : List Byte) (s : State) :
    s.lif.receiverKeeps (State.examineAll n cs s).lif := by
  induction n generalizing cs s with
  | zero => exact s.lif.receiverKeeps_refl
  | succ n ih =>
    cases cs with
    | nil => exact s.lif.receiverKeeps_refl
    | cons c cs => exact LineInterface.receiverKeeps_trans (s.receiverKeeps_examineOne c) (ih _ _)

theorem State.receive_keepsAllBut (s : State) (c : Byte) : s.keepsAllBut (s.receive c) [.lif] := by
  rw [State.keepsAllBut_iff]
  simp

/-! ## One character, by the receiver's state (R178) -/

/-- A character that discards no frame gives none back to be examined again. -/
theorem State.receive_of_examineOne {s u : State} {c : Byte} (h : s.examineOne c = (u, [])) : s.receive c = u := by
  rw [State.receive_eq, h]
  rfl

theorem State.receive_hunt {s : State} (h : s.lif.receiver.state = .hunt) (c : Byte) :
    s.receive c = if c = 0xD5 then s.setReceiver { state := .length, chars := [], gapTimer := true } else s := by
  refine State.receive_of_examineOne ?_
  simp only [State.examineOne, h]
  split <;> rfl

theorem State.receive_length {s : State} (h : s.lif.receiver.state = .length) {c : Byte}
    (hc : c.toNat ≤ Config.maxPayload) : s.receive c = s.setReceiver (s.lif.receiver.hold c .kind) := by
  refine State.receive_of_examineOne ?_
  simp only [State.examineOne, h, if_pos hc]

theorem State.receive_length_of_long {s : State} (h : s.lif.receiver.state = .length) {c : Byte}
    (hc : ¬ c.toNat ≤ Config.maxPayload) :
    s.receive c = (s.lif.receiver.chars ++ [c]).foldl (fun (x : State) b => x.receive b)
      (s.setReceiver Receiver.hunting) := by
  rw [State.receive_eq]
  simp only [State.examineOne, h, if_neg hc]

theorem State.receive_kind {s : State} (h : s.lif.receiver.state = .kind) (c : Byte) :
    s.receive c = s.setReceiver (s.lif.receiver.hold c .tag) := by
  refine State.receive_of_examineOne ?_
  simp only [State.examineOne, h]

theorem State.receive_tag {s : State} (h : s.lif.receiver.state = .tag) (c : Byte) :
    s.receive c = s.setReceiver (s.lif.receiver.hold c s.lif.receiver.afterTag) := by
  refine State.receive_of_examineOne ?_
  simp only [State.examineOne, h]

theorem State.receive_payload {s : State} (h : s.lif.receiver.state = .payload) (c : Byte) :
    s.receive c = s.setReceiver (s.lif.receiver.hold c s.lif.receiver.afterPayload) := by
  refine State.receive_of_examineOne ?_
  simp only [State.examineOne, h]

theorem State.receive_checkHigh {s : State} (h : s.lif.receiver.state = .checkHigh) (c : Byte) :
    s.receive c = s.setReceiver (s.lif.receiver.hold c .checkLow) := by
  refine State.receive_of_examineOne ?_
  simp only [State.examineOne, h]

/-! ## A complete frame (R177, R182) -/

/-- The characters before the two of the check. -/
theorem take_before_check {body check : List Byte} (h : check.length = 2) :
    (body ++ check).take ((body ++ check).length - 2) = body ∧ (body ++ check).drop ((body ++ check).length - 2) = check := by
  have hlength : (body ++ check).length - 2 = body.length := by simp [h]
  rw [hlength]
  exact ⟨List.take_left, List.drop_left⟩

theorem checkGood_eq_true_iff {body check : List Byte} (h : check.length = 2) :
    checkGood (body ++ check) = true ↔ check = bytes16 (checkWord body) := by
  obtain ⟨hbody, hcheck⟩ := take_before_check (body := body) h
  rw [checkGood, hbody, hcheck, beq_iff_eq, eq_comm]

theorem completeFrame_eq {len kind tag : Byte} {payload check : List Byte} (h : check.length = 2) :
    completeFrame (len :: kind :: tag :: payload ++ check) = { kind := kind, tag := tag, payload := payload } := by
  obtain ⟨hbody, -⟩ := take_before_check (body := len :: kind :: tag :: payload) h
  rw [completeFrame, hbody]
  rfl

theorem State.receive_checkLow_good {s : State} (h : s.lif.receiver.state = .checkLow) {c : Byte} {chars : List Byte}
    (hchars : chars = s.lif.receiver.chars ++ [c]) (hgood : checkGood chars = true) :
    s.receive c = (s.setReceiver Receiver.hunting).joinInbound (completeFrame chars) := by
  refine State.receive_of_examineOne ?_
  simp only [State.examineOne, h, State.frameComplete, ← hchars, hgood, if_true]

theorem State.receive_checkLow_bad {s : State} (h : s.lif.receiver.state = .checkLow) {c : Byte} {chars : List Byte}
    (hchars : chars = s.lif.receiver.chars ++ [c]) (hbad : checkGood chars = false) :
    s.receive c = chars.foldl (fun (x : State) b => x.receive b) (s.setReceiver Receiver.hunting).flagCheckError := by
  rw [State.receive_eq]
  simp only [State.examineOne, h, State.frameComplete, ← hchars, hbad, Bool.false_eq_true, if_false]

theorem State.joinInbound_eq (s : State) (f : InFrame) : s.joinInbound f =
    if s.lif.inbound.length < 2 then s.setLif { s.lif with inbound := s.lif.inbound ++ [f] }
    else s.setLif { s.lif with flags := { s.lif.flags with overrun := true } } := rfl

/-! ## A whole frame -/

theorem State.receiver_setReceiver (s : State) (r : Receiver) : (s.setReceiver r).lif.receiver = r := rfl

theorem State.setReceiver_setReceiver (s : State) (r t : Receiver) : (s.setReceiver r).setReceiver t = s.setReceiver t := rfl

/-- R178: the payload characters, up to the LEN-th one. -/
theorem State.receive_payloads {len : Byte} {payload chars : List Byte} {s : State}
    (hpayload : payload ≠ []) (hlen : chars.length + payload.length = 3 + len.toNat) (hhead : chars.head? = some len)
    (hs : s.lif.receiver = { state := .payload, chars := chars, gapTimer := true }) :
    payload.foldl (fun (x : State) c => x.receive c) s =
      s.setReceiver { state := .checkHigh, chars := chars ++ payload, gapTimer := true } := by
  induction payload generalizing chars s with
  | nil => exact absurd rfl hpayload
  | cons c rest ih =>
    have hreceive : s.receive c = s.setReceiver
        { state := if 3 + len.toNat ≤ chars.length + 1 then .checkHigh else .payload, chars := chars ++ [c]
          gapTimer := true } := by
      rw [State.receive_payload (by rw [hs]), hs, Receiver.hold, Receiver.afterPayload, Receiver.len, hhead,
        Option.map_some, Option.getD_some, Nat.add_comm len.toNat 3]
    rw [List.foldl_cons, hreceive]
    rw [List.length_cons] at hlen
    cases rest with
    | nil =>
      rw [if_pos (by simp at hlen; omega)]
      rfl
    | cons d rest =>
      rw [if_neg (by simp only [List.length_cons] at hlen; omega)]
      have hhead' : (chars ++ [c]).head? = some len := by
        cases chars with
        | nil => exact absurd hhead nofun
        | cons x xs => exact hhead
      rw [ih (List.cons_ne_nil _ _) (by simp only [List.length_append, List.length_cons, List.length_nil] at hlen ⊢; omega)
        hhead' (State.receiver_setReceiver _ _), State.setReceiver_setReceiver, List.append_assoc]
      rfl

/-- R178: LEN, KIND, TAG and the payload of a frame of at most 120 payload bytes. -/
theorem State.receive_body {len kind tag : Byte} {payload : List Byte} {s : State} (hmax : len.toNat ≤ Config.maxPayload)
    (hlen : payload.length = len.toNat)
    (hs : s.lif.receiver = { state := .length, chars := [], gapTimer := true }) :
    (len :: kind :: tag :: payload).foldl (fun (x : State) c => x.receive c) s =
      s.setReceiver { state := .checkHigh, chars := len :: kind :: tag :: payload, gapTimer := true } := by
  have hlength : s.receive len = s.setReceiver { state := .kind, chars := [len], gapTimer := true } := by
    rw [State.receive_length (by rw [hs]) hmax, hs]
    rfl
  have hkind : (s.setReceiver { state := .kind, chars := [len], gapTimer := true }).receive kind =
      s.setReceiver { state := .tag, chars := [len, kind], gapTimer := true } := by
    rw [State.receive_kind rfl]
    rfl
  have htag : (s.setReceiver { state := .tag, chars := [len, kind], gapTimer := true }).receive tag =
      s.setReceiver { state := if len.toNat = 0 then .checkHigh else .payload, chars := [len, kind, tag]
                      gapTimer := true } := by
    rw [State.receive_tag rfl]
    rfl
  rw [List.foldl_cons, List.foldl_cons, List.foldl_cons, hlength, hkind, htag]
  cases payload with
  | nil =>
    rw [if_pos (by simpa using hlen.symm)]
    rfl
  | cons c rest =>
    rw [if_neg (by rw [← hlen]; simp),
      State.receive_payloads (List.cons_ne_nil _ _) (by rw [hlen]; rfl) rfl (State.receiver_setReceiver _ _),
      State.setReceiver_setReceiver]
    rfl

/-- R177, R182: a whole frame, from HUNT to HUNT. -/
theorem State.receive_wire {f : InFrame} {s : State} (hmax : f.payload.length ≤ 120)
    (hs : s.lif.receiver = { state := .hunt, chars := [], gapTimer := false }) :
    (Machine.InFrame.wire f).foldl (fun (x : State) c => x.receive c) s = s.joinInbound f := by
  obtain ⟨kind, tag, payload⟩ := f
  have hlen : payload.length = (BitVec.ofNat 8 payload.length).toNat := by
    rw [BitVec.toNat_ofNat, Nat.mod_eq_of_lt (show payload.length < 2 ^ 8 by simp at hmax; omega)]
  have hmaxlen : (BitVec.ofNat 8 payload.length).toNat ≤ Config.maxPayload := by
    rw [← hlen]
    exact hmax
  generalize hl : BitVec.ofNat 8 payload.length = len at hlen hmaxlen
  obtain ⟨hi, lo, hcheck⟩ : ∃ hi lo, bytes16 (checkWord (len :: kind :: tag :: payload)) = [hi, lo] := ⟨_, _, rfl⟩
  have hwire : Machine.InFrame.wire { kind := kind, tag := tag, payload := payload } =
      0xD5 :: ((len :: kind :: tag :: payload) ++ [hi, lo]) := by
    rw [← hcheck, ← hl]
    rfl
  have hgood : checkGood ((len :: kind :: tag :: payload) ++ [hi, lo]) = true :=
    (checkGood_eq_true_iff rfl).mpr hcheck.symm
  have hstart : s.receive 0xD5 = s.setReceiver { state := .length, chars := [], gapTimer := true } := by
    rw [State.receive_hunt (by rw [hs]), if_pos rfl]
  have hhigh : (s.setReceiver { state := .checkHigh, chars := len :: kind :: tag :: payload, gapTimer := true }).receive
      hi = s.setReceiver { state := .checkLow, chars := (len :: kind :: tag :: payload) ++ [hi], gapTimer := true } := by
    rw [State.receive_checkHigh rfl]
    rfl
  have hlow : (s.setReceiver
      { state := .checkLow, chars := (len :: kind :: tag :: payload) ++ [hi], gapTimer := true }).receive lo =
      (s.setReceiver Receiver.hunting).joinInbound { kind := kind, tag := tag, payload := payload } := by
    rw [State.receive_checkLow_good (chars := (len :: kind :: tag :: payload) ++ [hi, lo]) rfl
      (by rw [State.receiver_setReceiver, List.append_assoc]; rfl) hgood, completeFrame_eq rfl,
      State.setReceiver_setReceiver]
  have hhunting : s.setReceiver Receiver.hunting = s := by
    rw [Receiver.hunting, ← hs]
    rfl
  rw [hwire, List.foldl_cons, hstart, List.foldl_append,
    State.receive_body hmaxlen hlen (State.receiver_setReceiver _ _), State.setReceiver_setReceiver, List.foldl_cons,
    List.foldl_cons, List.foldl_nil, hhigh, hlow, hhunting]

theorem exec_receiveCharacter (c : Byte) (s : State) :
    exec (.receiveCharacter c) s = .next (s.receive c).settled := rfl

/-- Settles O50: the receiver's states one by one, and a whole frame. -/
theorem receiverAssemblesFrames : Obligations.ReceiverAssemblesFrames := by
  refine ⟨fun c s => ?_, ?_, fun f s hmax hs => ?_⟩
  · obtain ⟨hreplies, hholding, hshifting, -⟩ := s.receiverKeeps_examineAll (rescanFuel (s.lif.receiver.chars.length + 2)) [c]
    exact ⟨exec_receiveCharacter c s, s.receive_keepsAllBut c, hreplies, hholding, hshifting⟩
  · rintro c s _ chars rfl hchars
    refine ⟨fun hhunt hother => ?_, fun hhunt hstart => ?_, fun hlength hshort => ?_, fun hlength hlong => ?_,
      fun hkind => ?_, fun len hlen => ⟨fun htag => ?_, fun hpayload => ?_⟩, fun hhigh => ?_,
      fun len kind tag payload check hlow hframe hcheck => ⟨fun hgood => ?_, fun hbad => ?_⟩⟩
    · rw [State.receive_hunt hhunt, if_neg hother]
    · rw [State.receive_hunt hhunt, if_pos hstart]
      rfl
    · rw [State.receive_length hlength hshort, hchars]
      rfl
    · rw [State.receive_length_of_long hlength (Nat.not_le.mpr hlong), hchars]
      rfl
    · rw [State.receive_kind hkind, hchars]
      rfl
    · rw [State.receive_tag htag, Receiver.afterTag, Receiver.len, hlen, hchars]
      rfl
    · have hnext : s.lif.receiver.afterPayload = if chars.length < 3 + len.toNat then .payload else .checkHigh := by
        rw [Receiver.afterPayload, Receiver.len, hlen, Option.map_some, Option.getD_some, hchars, List.length_append,
          List.length_singleton]
        by_cases hmore : s.lif.receiver.chars.length + 1 < 3 + len.toNat
        · rw [if_pos hmore, if_neg (by omega)]
        · rw [if_neg hmore, if_pos (by omega)]
      rw [State.receive_payload hpayload, hnext, Receiver.hold, ← hchars]
      rfl
    · rw [State.receive_checkHigh hhigh, hchars]
      rfl
    · have hgood : checkGood chars = true := by rw [hframe]; exact (checkGood_eq_true_iff hcheck).mpr hgood
      rw [State.receive_checkLow_good hlow hchars hgood, hframe, completeFrame_eq hcheck, State.joinInbound_eq]
      rfl
    · have hbad : checkGood chars = false := by
        rw [← Bool.not_eq_true, hframe, checkGood_eq_true_iff hcheck]
        exact hbad
      rw [State.receive_checkLow_bad hlow hchars hbad]
      rfl
  · rw [State.receive_wire hmax hs, State.joinInbound_eq]

end Sys2Proof.Machine
end

section
/-!
PROOFS. Table 10.2 and the malformed frame (R183), the line conditions (R180), and the frames read back (section 10.9).
-/

namespace Sys2Proof.Machine

/-! ## Table 10.2 -/

/-- Every row of Table 10.2: a kind, its KIND byte and the payload lengths it allows. -/
def requestTable : List (RequestKind × Byte × List Nat) :=
  RequestKind.all.map fun k => (k, k.code, (List.range (Config.maxPayload + 1)).filter k.lengthAllowed)

theorem RequestKind.mem_all (k : RequestKind) : k ∈ RequestKind.all := by
  cases k <;> decide

theorem RequestKind.le_maxPayload {k : RequestKind} {n : Nat} (h : k.lengthAllowed n = true) : n ≤ Config.maxPayload := by
  have hmax : Config.maxPayload = 120 := rfl
  rw [hmax]
  cases k <;> simp [RequestKind.lengthAllowed] at h <;> omega

theorem isBadFormat_iff_requestTable (f : InFrame) :
    isBadFormat f = false ↔ ∃ row ∈ requestTable, f.kind = row.2.1 ∧ f.payload.length ∈ row.2.2 := by
  rw [isBadFormat_eq_false_iff]
  constructor
  · rintro ⟨k, hkind, hlength⟩
    refine ⟨_, List.mem_map.mpr ⟨k, RequestKind.mem_all k, rfl⟩, hkind.symm, List.mem_filter.mpr ⟨?_, hlength⟩⟩
    exact List.mem_range.mpr (Nat.lt_succ_of_le (RequestKind.le_maxPayload hlength))
  · rintro ⟨row, hrow, hkind, hlength⟩
    obtain ⟨k, -, rfl⟩ := List.mem_map.mp hrow
    exact ⟨k, hkind.symm, (List.mem_filter.mp hlength).2⟩

theorem code_of_mem_requestTable {row : RequestKind × Byte × List Nat} (h : row ∈ requestTable) :
    row.1.code = row.2.1 := by
  obtain ⟨k, -, rfl⟩ := List.mem_map.mp h
  rfl

/-! ## The line conditions (R179, R180) -/

theorem exec_gapTimeout (s : State) : exec .gapTimeout s = .next s.gapTimeout.settled := rfl

/-- R179: the gap timer expires. -/
theorem State.gapExpiry_spec (s : State) :
    s.gapExpiry.lif.flags.gapTimeout = true ∧ s.gapExpiry.lif.replies = s.lif.replies ∧
    s.gapExpiry.lif.holding = s.lif.holding ∧ s.gapExpiry.lif.shifting = s.lif.shifting ∧
    s.keepsAllBut s.gapExpiry [.lif] := by
  obtain ⟨hreplies, hholding, hshifting, hgap⟩ := State.receiverKeeps_examineAll
    (rescanFuel (s.lif.receiver.chars.length + 2)) s.lif.receiver.chars (s.setLif { s.lif with
      receiver := Receiver.hunting
      flags := { s.lif.flags with gapTimeout := true } })
  refine ⟨hgap, hreplies, hholding, hshifting, ?_⟩
  rw [State.keepsAllBut_iff]
  simp

/-- Settles O49: Table 10.2, the BAD_FORMAT reply, and the four line conditions. -/
theorem badFormatAndLineConditions : Obligations.BadFormatAndLineConditions := by
  refine ⟨fun table htable => ?_, fun kind tag payload s hbad htakes => ?_, fun s => ⟨fun hstopped => ?_,
    fun hruns => ?_, rfl, rfl, rfl⟩⟩
  · obtain rfl : table = requestTable := by
      rw [htable]
      decide +kernel
    exact ⟨fun row hrow => code_of_mem_requestTable hrow, isBadFormat_iff_requestTable⟩
  · have hexec : exec (.badFormatFrame kind tag payload) s = handle (.badFormatFrame kind tag payload) s := by
      simp [exec, execBadFormatFrame, hbad]
    refine ⟨s.answerBadFormat kind tag, asks_of_handle hexec htakes, rfl, ?_⟩
    rw [State.keepsAllBut_iff]
    simp
  · rw [ends, exec_gapTimeout, State.gapTimeout, if_neg (by simp [hstopped])]
  · obtain ⟨hgap, hreplies, hholding, hshifting, hframe⟩ := s.gapExpiry_spec
    exact ⟨s.gapExpiry, by rw [ends, exec_gapTimeout, State.gapTimeout, if_pos hruns], hgap, s.gapExpiry_eq, hreplies,
      hholding, hshifting, hframe⟩

/-! ## Fields high byte first (R177) -/

theorem be16_bytes16 (x : U16) : be16 (x.extractLsb' 8 8) (x.extractLsb' 0 8) = x :=
  (BitVec.extractLsb'_append_extractLsb'_eq_extractLsb' (start₁ := 0) (len₁ := 8) (len₂ := 8) rfl).trans
    BitVec.extractLsb'_eq_self

theorem be24_bytes24 (x : U24) : be24 (x.extractLsb' 16 8) (x.extractLsb' 8 8) (x.extractLsb' 0 8) = x := by
  have hhigh : x.extractLsb' 16 8 ++ x.extractLsb' 8 8 = x.extractLsb' 8 16 :=
    BitVec.extractLsb'_append_extractLsb'_eq_extractLsb' (start₁ := 8) (len₁ := 8) (len₂ := 8) rfl
  rw [be24, hhigh]
  exact (BitVec.extractLsb'_append_extractLsb'_eq_extractLsb' (start₁ := 0) (len₁ := 8) (len₂ := 16) rfl).trans
    BitVec.extractLsb'_eq_self

theorem be32_bytes32 (x : U32) :
    be32 (x.extractLsb' 24 8) (x.extractLsb' 16 8) (x.extractLsb' 8 8) (x.extractLsb' 0 8) = x := by
  have hhigh : x.extractLsb' 24 8 ++ x.extractLsb' 16 8 = x.extractLsb' 16 16 :=
    BitVec.extractLsb'_append_extractLsb'_eq_extractLsb' (start₁ := 16) (len₁ := 8) (len₂ := 8) rfl
  have hmiddle : x.extractLsb' 16 16 ++ x.extractLsb' 8 8 = x.extractLsb' 8 24 :=
    BitVec.extractLsb'_append_extractLsb'_eq_extractLsb' (start₁ := 8) (len₁ := 8) (len₂ := 16) rfl
  rw [be32, hhigh, hmiddle]
  exact (BitVec.extractLsb'_append_extractLsb'_eq_extractLsb' (start₁ := 0) (len₁ := 8) (len₂ := 24) rfl).trans
    BitVec.extractLsb'_eq_self

/-! ## Frames read back (R183) -/

theorem decodeFrame_of_length {k : RequestKind} {bytes : List Byte} (h : k.lengthAllowed bytes.length = true)
    (tag : Byte) : decodeFrame { kind := k.code, tag := tag, payload := bytes } =
      decodePayload k { kind := k.code, tag := tag, payload := bytes } := by
  have hkind : RequestKind.ofCode? k.code = some k := (ofCode?_eq_some_iff _ _).mpr rfl
  simp only [decodeFrame, hkind, h, if_true]

theorem decodeFrame_of_badFormat {f : InFrame} (h : isBadFormat f = true) :
    decodeFrame f = .badFormatFrame f.kind f.tag f.payload := by
  unfold isBadFormat at h
  unfold decodeFrame
  split
  · rfl
  · rename_i k hk
    rw [hk] at h
    rw [if_neg (by simpa using h)]

/-- Table 10.3: ten bytes of an XFER_CHUNK are one record. -/
theorem decodeRecords_encodeRecord (r : PassRecord) (rest : List Byte) :
    decodeRecords (encodeRecord r ++ rest) = r :: decodeRecords rest := by
  obtain ⟨pass, product, start, price, status⟩ := r
  change { pass := be32 _ _ _ _, product := product, start := start, price := be24 _ _ _, status := status : PassRecord }
    :: decodeRecords rest = _
  rw [be32_bytes32, be24_bytes24]

theorem decodeRecords_flatten (rs : List PassRecord) : decodeRecords ((rs.map encodeRecord).flatten) = rs := by
  induction rs with
  | nil => rfl
  | cons r rs ih => rw [List.map_cons, List.flatten_cons, decodeRecords_encodeRecord, ih]

/-- Every well-formed request but TALLY is read back from its frame, by the kind of the request. -/
theorem decodeFrame_encodeRequest {i : Instr} {f : InFrame} (hwf : WellFormed i) (hf : encodeRequest i = some f)
    (htally : ∀ t a b, i ≠ .tally t a b) : decodeFrame f = i := by
  cases i
  case run | setup | restart | identify | xferAbort | xferStatus | tallyClear | liftStatus | calendarMark |
      productClear | laneConfig | laneOutput | laneClear | quoteQuery | status | journalFetch | noticeMask =>
    obtain rfl := Option.some.inj hf
    exact decodeFrame_of_length rfl _
  case tally t a b => exact absurd rfl (htally t a b)
  case siteConfig t fields =>
    obtain rfl := Option.some.inj hf
    obtain ⟨lift, rollover, loss, beam, arm, window, hold⟩ := fields
    refine (decodeFrame_of_length (k := .siteConfig) rfl t).trans ?_
    change Instr.siteConfig t { liftNumber := lift, rolloverMinute := be16 _ _, readerLoss := loss, beamStuck := beam,
                                armStuck := arm, matchWindow := window, holdTime := be16 _ _ } = _
    rw [be16_bytes16, be16_bytes16]
  case setClock t day second =>
    obtain rfl := Option.some.inj hf
    exact (decodeFrame_of_length (k := .setClock) rfl t).trans (congrArg (Instr.setClock t day) (be24_bytes24 second))
  case passbackSet t interval =>
    obtain rfl := Option.some.inj hf
    exact (decodeFrame_of_length (k := .passbackSet) rfl t).trans (congrArg (Instr.passbackSet t) (be16_bytes16 interval))
  case productPut t code fields =>
    obtain rfl := Option.some.inj hf
    obtain ⟨kind, days, window, mask, opens, closes, policy, fixed, percent, minimum, rounding, storm, deadline⟩ := fields
    refine (decodeFrame_of_length (k := .productPut) rfl t).trans ?_
    change Instr.productPut t code
      { kind := kind, days := days, window := window, liftMask := be16 _ _, openMinute := be16 _ _,
        closeMinute := be16 _ _, policyPresent := policy, fixedFee := be16 _ _, percentFee := be16 _ _,
        minimum := be16 _ _, rounding := rounding, stormCredit := storm, deadlineDays := deadline } = _
    simp only [be16_bytes16]
  case passPut t record =>
    obtain rfl := Option.some.inj hf
    obtain ⟨pass, product, start, price, status⟩ := record
    refine (decodeFrame_of_length (k := .passPut) rfl t).trans ?_
    change Instr.passPut t
      { pass := be32 _ _ _ _, product := product, start := start, price := be24 _ _ _, status := status } = _
    rw [be32_bytes32, be24_bytes24]
  case passBlock t pass =>
    obtain rfl := Option.some.inj hf
    exact (decodeFrame_of_length (k := .passBlock) rfl t).trans (congrArg (Instr.passBlock t) (be32_bytes32 pass))
  case passUnblock t pass =>
    obtain rfl := Option.some.inj hf
    exact (decodeFrame_of_length (k := .passUnblock) rfl t).trans (congrArg (Instr.passUnblock t) (be32_bytes32 pass))
  case passDelete t pass =>
    obtain rfl := Option.some.inj hf
    exact (decodeFrame_of_length (k := .passDelete) rfl t).trans (congrArg (Instr.passDelete t) (be32_bytes32 pass))
  case passQuery t pass mode =>
    obtain rfl := Option.some.inj hf
    exact (decodeFrame_of_length (k := .passQuery) rfl t).trans
      (congrArg (fun p => Instr.passQuery t p mode) (be32_bytes32 pass))
  case usageMerge t pass days =>
    obtain rfl := Option.some.inj hf
    have hlength : RequestKind.lengthAllowed .usageMerge (bytes32 pass ++ days).length = true := by
      simp only [WellFormed, Instr.wellFormed, usageMergeLengthOk, Bool.and_eq_true, decide_eq_true_eq] at hwf
      simp only [RequestKind.lengthAllowed, bytes32, List.length_append, List.length_cons, List.length_nil,
        Bool.and_eq_true, decide_eq_true_eq]
      omega
    exact (decodeFrame_of_length hlength t).trans (congrArg (fun p => Instr.usageMerge t p days) (be32_bytes32 pass))
  case xferOpen t mode purge count =>
    obtain rfl := Option.some.inj hf
    exact (decodeFrame_of_length (k := .xferOpen) rfl t).trans
      (congrArg (Instr.xferOpen t mode purge) (be16_bytes16 count))
  case xferChunk t records =>
    obtain rfl := Option.some.inj hf
    have hlength : RequestKind.lengthAllowed .xferChunk ((records.map encodeRecord).flatten).length = true := by
      simp only [WellFormed, Instr.wellFormed, chunkLengthOk, Bool.and_eq_true, decide_eq_true_eq] at hwf
      rw [Laws.RequestFrame.records_length]
      simp only [RequestKind.lengthAllowed, Bool.and_eq_true, decide_eq_true_eq, beq_iff_eq]
      omega
    exact (decodeFrame_of_length hlength t).trans (congrArg (Instr.xferChunk t) (decodeRecords_flatten records))
  case laneInject t lane pass =>
    obtain rfl := Option.some.inj hf
    exact (decodeFrame_of_length (k := .laneInject) rfl t).trans (congrArg (Instr.laneInject t lane) (be32_bytes32 pass))
  case quote t pass =>
    obtain rfl := Option.some.inj hf
    exact (decodeFrame_of_length (k := .quote) rfl t).trans (congrArg (Instr.quote t) (be32_bytes32 pass))
  case confirm t slot pass =>
    obtain rfl := Option.some.inj hf
    exact (decodeFrame_of_length (k := .confirm) rfl t).trans (congrArg (Instr.confirm t slot) (be32_bytes32 pass))
  case cancel t slot pass =>
    obtain rfl := Option.some.inj hf
    exact (decodeFrame_of_length (k := .cancel) rfl t).trans (congrArg (Instr.cancel t slot) (be32_bytes32 pass))
  case badFormatFrame kind tag payload =>
    obtain rfl := Option.some.inj hf
    have hbad : isBadFormat { kind := kind, tag := tag, payload := payload } = true :=
      (Bool.and_eq_true_iff.mp (show badFormatOk kind tag payload = true from hwf)).2
    exact decodeFrame_of_badFormat hbad
  all_goals exact nomatch hf

/-- Settles O51: every kind of request, and the selectors of TALLY. -/
theorem requestFramesDecodeBack : Obligations.RequestFramesDecodeBack := by
  refine ⟨fun i f hwf hf htally => decodeFrame_encodeRequest hwf hf htally, fun tag set part f hf => ?_⟩
  obtain rfl := Option.some.inj hf
  have hdecode : decodeFrame { kind := RequestKind.tally.code, tag := tag, payload := [tallyByte set part] } =
      .tally tag (tallySelectors (tallyByte set part)).1 (tallySelectors (tallyByte set part)).2 :=
    decodeFrame_of_length (k := .tally) rfl tag
  refine ⟨fun hset hpart => ?_, fun hout => ⟨0xFF, 0xFF, ?_, .inl (by decide)⟩⟩
  · rw [hdecode, tallySelectors_of_allowed set part hset hpart]
  · rw [hdecode, tallySelectors_of_refused set part hout]

end Sys2Proof.Machine
end

section
/-!
PROOFS. The Journal's writes and the Notice Latch's raises (R163 to R171), and the bytes of the notices (Table 9.4).
-/

namespace Sys2Proof.Machine

/-! ## The Journal (R163, R165) -/

theorem Journal.write_of_room {j : Journal} (h : j.records.length < Config.journalCapacity) (stamp : Nat)
    (body : RecordBody) : j.write stamp body =
      { records := j.records ++ [{ seq := j.nextSeq, stamp := stamp, body := body }]
        nextSeq := (j.nextSeq + 1) % 65536, gap := j.gap } := by
  simp only [Journal.write, if_pos h]

/-- R165: the oldest ROUTINE record stands behind SETTLEMENT records alone. -/
theorem dropOldestRoutine_eq {older younger : List JournalRecord} {oldest : JournalRecord}
    (holder : ∀ x ∈ older, x.isSettlement = true) (holdest : oldest.isSettlement = false) :
    dropOldestRoutine (older ++ oldest :: younger) = older ++ younger := by
  rw [dropOldestRoutine, List.eraseP_append_right _ (by simpa using holder), List.eraseP_cons_of_pos (by simp [holdest])]

theorem Journal.write_of_full {j : Journal} {older younger : List JournalRecord} {oldest : JournalRecord}
    (h : ¬ j.records.length < Config.journalCapacity) (hrecords : j.records = older ++ oldest :: younger)
    (holder : ∀ x ∈ older, x.isSettlement = true) (holdest : oldest.isSettlement = false) (stamp : Nat)
    (body : RecordBody) : j.write stamp body =
      { records := older ++ younger ++ [{ seq := j.nextSeq, stamp := stamp, body := body }]
        nextSeq := (j.nextSeq + 1) % 65536, gap := min Config.count16Ceiling (j.gap + 1) } := by
  have hfull : j.write stamp body =
      { records := dropOldestRoutine j.records ++ [{ seq := j.nextSeq, stamp := stamp, body := body }]
        nextSeq := (j.nextSeq + 1) % 65536, gap := min Config.count16Ceiling (j.gap + 1) } := by
    simp only [Journal.write, if_neg h, satAdd]
  rw [hfull, hrecords, dropOldestRoutine_eq holder holdest]

theorem JournalRecord.isSettlement_eq_true_iff (r : JournalRecord) :
    r.isSettlement = true ↔ ∃ items, r.body = .settlement items := by
  unfold JournalRecord.isSettlement
  cases r.body <;> simp

/-! ## The Notice Latch (R170) -/

theorem NoticeLatch.raise_of_absent {n : NoticeLatch} {x : PendingNotice} (h : ∀ y ∈ n.pending, y.key ≠ x.key) :
    n.raise x = { n with pending := n.pending ++ [x] } := by
  rw [NoticeLatch.raise, if_neg (by simpa using h)]

theorem NoticeLatch.raise_of_present {n : NoticeLatch} {x : PendingNotice} (h : ∃ y ∈ n.pending, y.key = x.key) :
    n.raise x = { n with pending := n.pending.map fun y => if y.key = x.key then x else y } := by
  rw [NoticeLatch.raise, if_pos (by simpa using h)]

/-- The notices of the other keys stay. -/
theorem map_replace_of_absent {x : PendingNotice} {ys : List PendingNotice} (h : ∀ y ∈ ys, y.key ≠ x.key) :
    ys.map (fun y => if y.key = x.key then x else y) = ys := by
  exact (List.map_congr_left fun y hy => if_neg (h y hy)).trans (List.map_id ys)

/-- R170: the summary of a DESK_READ is all that a key does not fix. -/
theorem PendingNotice.eq_of_key {x y : PendingNotice} (h : y.key = x.key) (hx : ∀ l d, x ≠ .deskRead l d) : y = x := by
  cases x
  case deskRead l d => exact absurd rfl (hx l d)
  all_goals cases y <;> simp_all [PendingNotice.key]

theorem NoticeLatch.raise_of_replaced {n : NoticeLatch} {x y : PendingNotice} {older younger : List PendingNotice}
    (hpending : n.pending = older ++ y :: younger) (hkey : y.key = x.key) (hothers : ∀ z ∈ older ++ younger, z.key ≠ x.key) :
    n.raise x = { n with pending := older ++ x :: younger } := by
  have holder := map_replace_of_absent fun z hz => hothers z (List.mem_append_left younger hz)
  have hyounger := map_replace_of_absent fun z hz => hothers z (List.mem_append_right older hz)
  rw [NoticeLatch.raise_of_present ⟨y, by simp [hpending], hkey⟩, hpending, List.map_append, List.map_cons, holder,
    hyounger, if_pos hkey]

theorem NoticeLatch.raise_of_kept {n : NoticeLatch} {x : PendingNotice} (h : ∃ y ∈ n.pending, y.key = x.key)
    (hx : ∀ l d, x ≠ .deskRead l d) : n.raise x = n := by
  have hsame : n.pending.map (fun y => if y.key = x.key then x else y) = n.pending := by
    refine (List.map_congr_left fun y _ => ?_).trans (List.map_id n.pending)
    split
    · rename_i hkey
      exact (PendingNotice.eq_of_key hkey hx).symm
    · rfl
  rw [NoticeLatch.raise_of_present h, hsame]

/-- Settles O60: the two writes, the raises, and the notices' content and bytes. -/
theorem journalWritesAndNoticeRaises : Obligations.JournalWritesAndNoticeRaises := by
  refine ⟨?_, fun r => r.isSettlement_eq_true_iff, fun j => ⟨List.countP_eq_length_filter, ?_⟩,
    fun s body => ⟨s.recorded_writeRecord body, s.keepsAllBut_writeRecord body⟩,
    fun n x => ⟨fun h => NoticeLatch.raise_of_absent h,
      fun older y younger hpending hkey hothers => NoticeLatch.raise_of_replaced hpending hkey hothers,
      fun h hx => NoticeLatch.raise_of_kept h hx⟩,
    fun s l k d => ⟨rfl, rfl, rfl, rfl, rfl, rfl, rfl, rfl⟩, fun f => rfl, fun l stamp => rfl, fun d => ?_, fun st => ?_,
    fun e => rfl, fun day finished riders newDays refunds payout => rfl, fun n settlements gap => rfl, fun c => ?_⟩
  · rintro j stamp body _ rfl
    exact ⟨fun hroom => Journal.write_of_room hroom stamp body,
      fun older oldest younger hfull hrecords holder holdest =>
        Journal.write_of_full (Nat.not_lt.mpr hfull) hrecords holder holdest stamp body⟩
  · rw [Journal.isHigh, Bool.or_eq_true, decide_eq_true_iff, decide_eq_true_iff]
    rfl
  · simp only [NoticeContent.bytes, deskSummaryBytes, byteOf_bytes]
    congr 1
    cases d.quote <;> simp [quoteItemBytes]
  · cases st <;> rfl
  · simp only [NoticeContent.bytes, clockBytes, byteOf_bytes]
    cases c.state <;> rfl

end Sys2Proof.Machine
end
